-- ==== Sys2Proof/Word.lean ====
section
/-! DEFINITION. The word types of the Kamez model and the shape of its tables. Their operations stand in
`Machine/Bits.lean`. -/

namespace Sys2Proof

/-- One byte. -/
abbrev Byte := BitVec 8

/-- A byte string, byte 0 first. -/
abbrev Bytes := List Byte

/-- A sparse table: (index, entry) pairs, indices strictly rising, an index that is not listed holds the table's
empty entry. -/
abbrev Tbl (α : Type) := List (Nat × α)

end Sys2Proof
end

