-- ==== Sys2Proof/Config.lean ====
section
/-! DEFINITION. What one implementation fixes and the spec leaves open: the published algorithms the spec only names,
the noise of the silicon, and the free values. Every constant here is opaque: nothing in Lean can evaluate it, so no
statement can rest on a value of it. Log entries 1 (algorithms), 2 (draws) and 3 (open values). -/

namespace Sys2Proof

/-- The six configurations of R6. -/
inductive KzConfig where
  | kz8 | kz32 | kz128 | kz256 | kz512 | kz1024
deriving DecidableEq, Repr

/-- Free value number `n`: a value the spec leaves open, one per number (log entry 3). The step supplies the number
from the counter `State.free` and advances it. -/
opaque Config.freeNat : Nat → Nat

/-- Random draw number `n` of `len` bytes from a random bit generator of R137 (log entry 2). -/
opaque Config.drawn (len n : Nat) : Bytes

/-- SHA-384 (log entry 1). -/
opaque Config.sha384 : Bytes → Bytes

/-- HMAC-SHA-384: key, message (log entry 1). -/
opaque Config.hmac384 : Bytes → Bytes → Bytes

/-- AES-256-GCM seal: key, IV, additional data, plaintext; the ciphertext followed by the tag (log entry 1). -/
opaque Config.gcmSeal : Bytes → Bytes → Bytes → Bytes → Bytes

/-- AES-256-GCM open: key, IV, additional data, ciphertext, tag; the plaintext when the tag verifies
(log entry 1). -/
opaque Config.gcmOpen : Bytes → Bytes → Bytes → Bytes → Bytes → Option Bytes

/-- AES-256-CTR keystream applied: key, 16-byte counter block, data (log entry 1). -/
opaque Config.aesCtr : Bytes → Bytes → Bytes → Bytes

/-- One AES-256 block encryption: key, block (log entry 1). -/
opaque Config.aesBlock : Bytes → Bytes → Bytes

/-- XTS-AES-256 encryption and decryption of IEEE 1619: 64-byte key pair, data unit number, data (log entry 1). -/
opaque Config.xtsEnc : Bytes → Nat → Bytes → Bytes
opaque Config.xtsDec : Bytes → Nat → Bytes → Bytes

/-- GHASH: hash key, additional data, data (log entry 1). -/
opaque Config.ghash : Bytes → Bytes → Bytes → Bytes

/-- Does a signature verify: algorithm (0 ECDSA P-384, 1 ML-DSA-87), public key, message, signature (log entry 1). -/
opaque Config.sigOk : Nat → Bytes → Bytes → Bytes → Bool

/-- A signature made by the block: algorithm, private seed, message (log entry 1). -/
opaque Config.sign : Nat → Bytes → Bytes → Bytes

/-- The public key of a private seed: algorithm (0 ECDSA P-384, 1 ML-DSA-87, 2 ECDH P-384, 3 ML-KEM-1024)
(log entry 1). -/
opaque Config.publicKey : Nat → Bytes → Bytes

/-- ECDH P-384 shared secret: private seed, peer's public key; none when the peer's point is invalid
(log entry 1). -/
opaque Config.ecdh : Bytes → Bytes → Option Bytes

/-- ML-KEM-1024 encapsulation: public key, randomness; ciphertext and shared secret; none for a bad key
(log entry 1). -/
opaque Config.kemEncap : Bytes → Bytes → Option (Bytes × Bytes)

/-- ML-KEM-1024 decapsulation: private seed, ciphertext (log entry 1). -/
opaque Config.kemDecap : Bytes → Bytes → Bytes

/-- A DER certificate the block makes: kind (0 DEVICE_ID self-signed, 1 alias, 2 sampler), signing seed, the fields
it carries in the order of R361 to R367 (log entry 1). -/
opaque Config.makeCert : Nat → Bytes → List Bytes → Bytes

/-- A received certificate chain: does it verify to the root digest (log entry 1). -/
opaque Config.chainOk : Bytes → Bytes → Bool

/-- A field of a certificate by its number (log entry 1). -/
opaque Config.certField : Nat → Bytes → Bytes

/-- A key of the SPDM key schedule: hybrid secret, transcript hash, which (0 responder finished key, 1 requester finished
key, 2 export master secret) (R370, log entry 1). -/
opaque Config.spdmKey : Bytes → Bytes → Nat → Bytes

/-- A secured message record as it travels: hybrid secret, record number, plaintext (R346, log entry 1). -/
opaque Config.securedRecord : Bytes → Nat → Bytes → Bytes

/-- SEC-DED decoding of a 72-bit fuse word (R100; the code is not given): 0 clean, 1 corrected, 2 uncorrectable, and
the 64 data bits (log entry 3). -/
opaque Config.eccDecode : BitVec 72 → Nat × BitVec 64

/-- The boot ROM of the implementation, which DEVICE_ID is measured from (R114). -/
opaque Config.romDigest : Bytes

/-- The 16-bit value number `i` of the plait ALU's linear generator under a seed (R262; the generator is not given, log
entry 3). -/
opaque Config.plaitRandom : Bytes → Nat → Nat

/-- Bits of an encoding that the spec leaves open, for element `i` of the conversion numbered `n` (log entry 15). -/
opaque Config.freeCode : Nat → Nat → Nat

/-- Values of objects that the silicon or the manufacturer sets (R428): BLOCK_REVISION, VENDOR_IANA. -/
opaque Config.blockRevision : Nat
opaque Config.vendorIana : Nat

/-- Junction temperature and block power as the sensors read them, by management tick (R355, R428). -/
opaque Config.junctionTemp : Nat → Nat
opaque Config.powerMw : Nat → Nat

end Sys2Proof
end

