-- ==== Sys2Proof/Syntax.lean ====
section
/-! DEFINITION. The commands that a Kamez block takes from outside and the operands they carry: one constructor of
`Instr` for each row of spec/opcode_table.json. -/

namespace Sys2Proof

/-- A port of the block (R51). -/
inductive PortId where
  | mesh (n : Nat) | mem (n : Nat) | link (n : Nat) | gangA | gangB | flash
deriving DecidableEq, Repr

/-- The two gang links (R73). -/
inductive GangLink where
  | a | b
deriving DecidableEq, Repr

/-- The static inputs as the integrator ties them (R1, R80). -/
structure StaticPins where
  profile : BitVec 2
  gangSize : BitVec 3
  gangId : BitVec 3
  flWin : BitVec 2
  i3cSa : BitVec 7
  jep106 : BitVec 11
deriving DecidableEq, Repr

/-- The paths of dictionary requests (R424, R426). -/
inductive OdPath where
  | i3c | vl0 | mailbox | debug
deriving DecidableEq, Repr

/-- Who sends a dictionary request: its path, the SPDM session it belongs to (none outside a session), its
transaction tag (R415). -/
structure OdReq where
  path : OdPath
  sess : Option Nat
  txn : BitVec 16
deriving DecidableEq, Repr

/-- A unit of work presented to tension (R37 to R43): where it enters and leaves, its class (0 reserved, 1 to 5 B1 to
B5), whom it is attributed to, its cost (R28), the stream it belongs to (virtual lane or queue, destination), the pins
it uses as handles, the tally path it needs (root slot, leaf) and the tally nodes that its later passages book. -/
structure UnitDesc where
  ingress : PortId
  egress : PortId
  cls : Nat
  partition : Option Nat
  context : Option Nat
  cost : Nat
  vl : Nat
  dst : Nat
  pins : List Nat
  path : Option (Nat × Nat)
  booked : Nat
deriving DecidableEq, Repr

/-- Which of the algorithms of R368 an SPDM NEGOTIATE_ALGORITHMS offers. -/
structure SpdmOffer where
  baseAsym : Bool
  hash : Bool
  dhe : Bool
  aead : Bool
  reqBaseAsym : Bool
  keySchedule : Bool
deriving DecidableEq, Repr

/-- An MCTP packet at the I3C target (R418, R419). -/
structure MctpPacket where
  src : Nat
  dst : Nat
  som : Bool
  eom : Bool
  seq : Nat
  tag : Nat
  body : Bytes
deriving DecidableEq, Repr

/-- What a gang frame carries (R75 to R77, R119, R130, R384). -/
inductive GangBody where
  /-- Panel exchange: the member's identity, size, profile, configuration and identity evidence. -/
  | exchange (id size profile config serial : Nat) (measurement : Bytes) (lifeCycle : Nat) (chain : Bytes)
  /-- A seed wrapped under PANEL (R119). -/
  | seed (wrapped : Bytes)
  /-- The member key seed wrapped under PANEL (R384). -/
  | memberKey (wrapped : Bytes)
  /-- A level-3 invalidation (R130). -/
  | invalidate (purpose : Nat)
  /-- Retention of the whole panel (R93). -/
  | retention (enter : Bool)
  /-- A certificate for every member's store (R384). -/
  | certificate (no : Nat) (cert : Bytes)
  /-- A nonce written at a member, for member 0 to sample (R384). -/
  | sample (nonce : Bytes)
  /-- An acknowledgement of a frame. -/
  | ack (frame : Nat)
deriving DecidableEq, Repr

/-- A gang frame: the member that made it, that member's number for it, the number it has on its link, and what it
carries (R76). -/
structure GangFrame where
  src : Nat
  seq : Nat
  no : Nat
  body : GangBody
deriving DecidableEq, Repr

/-- An inbound mesh message (R55 to R57): its port, class, header, data and byte enables. -/
structure MeshReq where
  port : Nat
  vch : Nat
  hdr : BitVec 256
  data : Bytes
  be : List Bool
deriving DecidableEq, Repr

/-- A response to an outbound mesh request (R62): its status, POISON and data. -/
structure MeshRsp where
  status : Nat
  poison : Bool
  data : Bytes
deriving DecidableEq, Repr

/-- A line of a pooled message: ciphertext (64 B), tag (8 B). -/
structure PoolLine where
  data : Bytes
  tag : Bytes
deriving DecidableEq, Repr

/-- A fabric message (R210 to R213) as a link delivers it: source and destination endpoint, virtual lane, header, body
and the lines of its REGION_PASS groups. -/
structure FMsg where
  srcEp : Nat
  dstEp : Nat
  vl : Nat
  hdr : BitVec 256
  body : Bytes
  lines : List PoolLine
deriving DecidableEq, Repr

/-- A plait message (R263): source and destination endpoint, header, data. -/
structure PMsg where
  srcEp : Nat
  dstEp : Nat
  hdr : BitVec 256
  data : Bytes
deriving DecidableEq, Repr

/-- The commands, one constructor per row of spec/opcode_table.json, in its order. -/
inductive Instr where
  /-- POWER_ON (R430). -/
  | powerOn
  /-- RESET_PIN (R82). -/
  | resetPin (cycles : Nat)
  /-- TAMPER_PIN (R83). -/
  | tamperPin (ticks : Nat)
  /-- TAMPER_SENSOR (R90). -/
  | tamperSensor
  /-- SOFT_RESET (R430). -/
  | softReset (r : OdReq) (v : BitVec 16)
  /-- MGMT_RESET (R430). -/
  | mgmtReset (r : OdReq) (v : BitVec 16)
  /-- MGMT_FIRMWARE_READY (R434). -/
  | mgmtFirmwareReady
  /-- TAMPER_CLEAR (R441). -/
  | tamperClear
  /-- START_UP_RELEASE (R435). -/
  | startUpRelease (pins : StaticPins)
  /-- ENTROPY_STARTUP_TEST_END (R136). -/
  | entropyStartupTestEnd (raw : BitVec 1024)
  /-- FIRMWARE_MEASUREMENT_DONE (R435). -/
  | firmwareMeasurementDone
  /-- FIRMWARE_READY (R435). -/
  | firmwareReady
  /-- ISLAND_DROOP (R30). -/
  | islandDroop (island : Nat) (pm : Nat)
  /-- PORT_CLOCK_STOP (R87). -/
  | portClockStop (p : PortId)
  /-- REFCLK_LOSS (R87). -/
  | refclkLoss (ticks : Nat)
  /-- REFCLK_RECALIBRATE (R87). -/
  | refclkRecalibrate
  /-- THROTTLE_CHANGE (R92). -/
  | throttleChange (t : BitVec 3)
  /-- PFAIL_GLITCH (R94). -/
  | pfailGlitch (ticks : Nat)
  /-- PFAIL_FALL (R95). -/
  | pfailFall
  /-- QUIESCE_COMPLETE (R95). -/
  | quiesceComplete
  /-- PFAIL_RISE (R94). -/
  | pfailRise
  /-- HOLDUP_ARM_TIMER (R94). -/
  | holdupArmTimer
  /-- RETENTION_ENTER (R93). -/
  | retentionEnter (r : OdReq)
  /-- RETENTION_EXIT (R93). -/
  | retentionExit (r : OdReq)
  /-- UNIT_ADMIT (R38). -/
  | unitAdmit (u : UnitDesc)
  /-- PIN_CACHE_FILL_DONE (R125). -/
  | pinCacheFillDone
  /-- TICKET_GRANT_EXPIRY (R40). -/
  | ticketGrantExpiry (island : Nat) (part : Nat) (pillow : Nat)
  /-- UNIT_ISSUE (R26). -/
  | unitIssue (unit : Nat)
  /-- UNIT_EGRESS (R46). -/
  | unitEgress (unit : Nat)
  /-- RESERVED_SLOTS_WRITE (R45). -/
  | reservedSlotsWrite (r : OdReq) (part : Nat) (v : BitVec 8)
  /-- FRAME_BOUNDARY_APPLY (R45). -/
  | frameBoundaryApply (pillow : Nat)
  /-- CREDIT_RETURN (R53). -/
  | creditReturn (p : PortId) (cls : Nat) (n : Nat)
  /-- BEAT_WITHOUT_CREDIT (R54). -/
  | beatWithoutCredit (p : PortId) (cls : Nat)
  /-- MESH_PKG_READ (R63). -/
  | meshPkgRead (q : MeshReq)
  /-- MESH_PKG_WRITE (R145). -/
  | meshPkgWrite (q : MeshReq)
  /-- MERGE_WINDOW_EXPIRE (R146). -/
  | mergeWindowExpire (entry : Nat)
  /-- MESH_REGISTER_REQUEST_MALFORMED (R60). -/
  | meshRegisterRequestMalformed (q : MeshReq)
  /-- MESH_FABRIC_READ (R209). -/
  | meshFabricRead (q : MeshReq)
  /-- MESH_FABRIC_WRITE (R209). -/
  | meshFabricWrite (q : MeshReq)
  /-- MESH_FABRIC_ATOMIC (R231). -/
  | meshFabricAtomic (q : MeshReq)
  /-- MESH_FABRIC_FENCE (R227). -/
  | meshFabricFence (q : MeshReq)
  /-- MESH_RESPONSE (R62). -/
  | meshResponse (tag : Nat) (rsp : MeshRsp)
  /-- MESH_RSP_TIMEOUT (R62). -/
  | meshRspTimeout (tag : Nat)
  /-- MEM_READ_DATA (R66). -/
  | memReadData (port : Nat) (tag : BitVec 10) (data : Bytes) (lerr : BitVec 8)
  /-- MEM_READ_TIMEOUT (R66). -/
  | memReadTimeout (port : Nat) (tag : BitVec 10)
  /-- MEM_CTL_RDY_FALL (R67). -/
  | memCtlRdyFall (port : Nat)
  /-- PHY_UP_RISE (R194). -/
  | phyUpRise (port : Nat)
  /-- PHY_UP_FALL (R194). -/
  | phyUpFall (port : Nat)
  /-- HOLD_RETRAIN (R195). -/
  | holdRetrain (port : Nat)
  /-- RX_FLIT_BAD (R71). -/
  | rxFlitBad (port : Nat)
  /-- RX_FLIT_WHILE_DOWN (R71). -/
  | rxFlitWhileDown (port : Nat)
  /-- IDLE_FLIT_RECEIVE (R202). -/
  | idleFlitReceive (port : Nat) (flit : Bytes)
  /-- CLEAR_FLIT_RECEIVE (R183). -/
  | clearFlitReceive (port : Nat) (flit : Bytes)
  /-- CTRL_FLIT_RECEIVE (R184). -/
  | ctrlFlitReceive (port : Nat) (flit : Bytes)
  /-- GROUP_RECEIVE (R184). -/
  | groupReceive (port : Nat) (flits : List Bytes)
  /-- CMARK_NOP_TIMEOUT (R191). -/
  | cmarkNopTimeout (dst : Nat)
  /-- CMARK_RECOVERY_TICK (R192). -/
  | cmarkRecoveryTick (dst : Nat)
  /-- CTRL_FLIT_SEND_DUE (R185). -/
  | ctrlFlitSendDue (port : Nat)
  /-- CREDIT_GROUP_SEND_DUE (R186). -/
  | creditGroupSendDue (port : Nat)
  /-- ACK_TIMEOUT_RESEND (R185). -/
  | ackTimeoutResend (port : Nat)
  /-- STITCH_HELLO (R200). -/
  | stitchHello (port : Nat) (m : Bytes)
  /-- KEY_SHARE_I (R200). -/
  | keyShareI (port : Nat) (m : Bytes)
  /-- KEY_SHARE_R (R200). -/
  | keyShareR (port : Nat) (m : Bytes)
  /-- STITCH_FINISH (R200). -/
  | stitchFinish (port : Nat) (m : Bytes)
  /-- STITCH_TIMEOUT (R200). -/
  | stitchTimeout (port : Nat)
  /-- REKEY_NOW (R201). -/
  | rekeyNow (r : OdReq) (v : BitVec 8)
  /-- REKEY (R201). -/
  | rekey (port : Nat) (m : Bytes)
  /-- REKEY_ACK (R201). -/
  | rekeyAck (port : Nat) (m : Bytes)
  /-- REKEY_RESEND_TIMEOUT (R201). -/
  | rekeyResendTimeout (port : Nat)
  /-- LINK_ADMIN_DOWN (R194). -/
  | linkAdminDown (r : OdReq) (port : Nat)
  /-- LINK_ADMIN_UP (R194). -/
  | linkAdminUp (r : OdReq) (port : Nat)
  /-- LINK_RELEASE (R194). -/
  | linkRelease (r : OdReq) (v : BitVec 8)
  /-- GANG_FRAME_RECEIVE (R76). -/
  | gangFrameReceive (link : GangLink) (f : GangFrame)
  /-- GANG_RING_TIMEOUT (R75). -/
  | gangRingTimeout
  /-- GANG_LINK_DOWN (R76). -/
  | gangLinkDown (link : GangLink)
  /-- FLASH_DONE (R79). -/
  | flashDone (err : Bool)
  /-- I3C_DYNAMIC_ADDRESS (R84). -/
  | i3cDynamicAddress (addr : BitVec 7)
  /-- TAP_RESET (R85). -/
  | tapReset
  /-- TAP_INSTRUCTION_LOAD (R85). -/
  | tapInstructionLoad (ir : BitVec 8)
  /-- DEBUG_NOP (R448). -/
  | debugNop
  /-- DEBUG_READ (R448). -/
  | debugRead (dr : BitVec 112)
  /-- DEBUG_HALT (R448). -/
  | debugHalt
  /-- DEBUG_RESUME (R448). -/
  | debugResume
  /-- FUSE_PROGRAM (R104). -/
  | fuseProgram (word : Nat) (bits : BitVec 72)
  /-- FUSE_BLOW_DONE (R104). -/
  | fuseBlowDone (took : Bool)
  /-- RAISE_EPOCH_FLOOR (R105). -/
  | raiseEpochFloor (r : OdReq) (v : BitVec 8)
  /-- USER_FLASH_WIPE (R135). -/
  | userFlashWipe (r : OdReq) (v : BitVec 16)
  /-- PIN_INVALIDATE (R127). -/
  | pinInvalidate (r : OdReq) (v : BitVec 32)
  /-- INVALIDATION_SWEEP (R128). -/
  | invalidationSweep (pin : Nat)
  /-- KIDX_BIND (R122). -/
  | kidxBind (r : OdReq) (v : BitVec 32)
  /-- KIDX_UNBIND (R122). -/
  | kidxUnbind (r : OdReq) (v : BitVec 16)
  /-- ENTROPY_HEALTH_FAIL (R138). -/
  | entropyHealthFail (raw : BitVec 1024)
  /-- ENTROPY_RETEST (R138). -/
  | entropyRetest (raw : BitVec 1024)
  /-- RAW_SAMPLE_READ (R139). -/
  | rawSampleRead (r : OdReq)
  /-- MEM_INTERLEAVE_WRITE (R174). -/
  | memInterleaveWrite (r : OdReq) (v : BitVec 8)
  /-- REGION_CREATE (R158). -/
  | regionCreate (r : OdReq) (v : BitVec 128)
  /-- REGION_RELEASE (R159). -/
  | regionRelease (r : OdReq) (v : BitVec 16)
  /-- TRAY_RETRY_PROBE (R160). -/
  | trayRetryProbe (slot : Nat)
  /-- SPAN_SWITCH_IN (R167). -/
  | spanSwitchIn (slot : Nat) (leaf : Nat)
  /-- SCRUB_TICK (R172). -/
  | scrubTick
  /-- TALLY_FLUSH (R173). -/
  | tallyFlush (r : OdReq) (v : BitVec 8)
  /-- ENDPOINT_ID_WRITE (R205). -/
  | endpointIdWrite (r : OdReq) (v : BitVec 16)
  /-- ROUTE_WRITE (R206). -/
  | routeWrite (r : OdReq) (v : BitVec 96)
  /-- POOL_READ (R223). -/
  | poolRead (m : FMsg)
  /-- POOL_WRITE (R223). -/
  | poolWrite (m : FMsg)
  /-- META_READ (R223). -/
  | metaRead (m : FMsg)
  /-- META_WRITE (R223). -/
  | metaWrite (m : FMsg)
  /-- TRAY_ATOMIC (R232). -/
  | trayAtomic (m : FMsg)
  /-- OWN_READ (R234). -/
  | ownRead (m : FMsg)
  /-- OWN_CLAIM (R234). -/
  | ownClaim (m : FMsg)
  /-- OWN_CAS (R234). -/
  | ownCas (m : FMsg)
  /-- HO_OFFER (R239). -/
  | hoOffer (m : FMsg)
  /-- HO_RELEASE (R239). -/
  | hoRelease (m : FMsg)
  /-- NOP_MSG (R191). -/
  | nopMsg (m : FMsg)
  /-- READ_RSP (R150). -/
  | readRsp (m : FMsg)
  /-- WRITE_RSP (R165). -/
  | writeRsp (m : FMsg)
  /-- META_READ_RSP (R164). -/
  | metaReadRsp (m : FMsg)
  /-- META_WRITE_RSP (R163). -/
  | metaWriteRsp (m : FMsg)
  /-- ATOMIC_RSP (R233). -/
  | atomicRsp (m : FMsg)
  /-- OWN_RSP (R234). -/
  | ownRsp (m : FMsg)
  /-- HO_ACCEPT (R238). -/
  | hoAccept (m : FMsg)
  /-- HO_REFUSE (R238). -/
  | hoRefuse (m : FMsg)
  /-- REMOTE_TIMEOUT (R215). -/
  | remoteTimeout (tag : Nat)
  /-- ATOMIC_RETRY (R233). -/
  | atomicRetry (tag : Nat)
  /-- REPLAY_ENTRY_EXPIRE (R232). -/
  | replayEntryExpire (src : Nat) (tag : Nat)
  /-- TRAY_REGION_PROVISION (R220). -/
  | trayRegionProvision (r : OdReq) (v : BitVec 128)
  /-- TRAY_REGION_RESET (R220). -/
  | trayRegionReset (r : OdReq) (v : BitVec 16)
  /-- HANDOVER_OFFER (R238). -/
  | handoverOffer (d : Nat)
  /-- OFFER_TIMEOUT (R238). -/
  | offerTimeout (slot : Nat)
  /-- HANDOVER_ACCEPT (R239). -/
  | handoverAccept (d : Nat)
  /-- ACCEPT_WAIT_EXPIRY (R240). -/
  | acceptWaitExpiry (offerer : Nat)
  /-- HANDOVER_RESOLVE_RETRY (R241). -/
  | handoverResolveRetry (slot : Nat)
  /-- PLAIT_CREATE (R245). -/
  | plaitCreate (r : OdReq) (v : Bytes)
  /-- PLAIT_DELETE (R247). -/
  | plaitDelete (r : OdReq) (v : BitVec 16)
  /-- PLAIT (R266). -/
  | plait (d : Nat)
  /-- PL_UP (R267). -/
  | plUp (m : PMsg)
  /-- PL_DOWN (R266). -/
  | plDown (m : PMsg)
  /-- PL_CREDIT (R266). -/
  | plCredit (m : PMsg)
  /-- PL_READY (R267). -/
  | plReady (m : PMsg)
  /-- PL_GO (R267). -/
  | plGo (m : PMsg)
  /-- PL_ABORT (R274). -/
  | plAbort (m : PMsg)
  /-- PLAIT_STEP_TIMEOUT (R273). -/
  | plaitStepTimeout (id : Nat)
  /-- CONTEXT_CREATE (R281). -/
  | contextCreate (r : OdReq) (v : BitVec 128)
  /-- CONTEXT_DESTROY (R288). -/
  | contextDestroy (r : OdReq) (v : BitVec 16)
  /-- PROCESS_RELEASE (R288). -/
  | processRelease (r : OdReq) (v : BitVec 32)
  /-- CONTEXT_RESUME (R313). -/
  | contextResume (r : OdReq) (v : BitVec 16)
  /-- MEMOBJ_CREATE (R284). -/
  | memobjCreate (r : OdReq) (v : BitVec 256)
  /-- MEMOBJ_FREE (R287). -/
  | memobjFree (r : OdReq) (v : BitVec 32)
  /-- MEMOBJ_HOST_REF (R286). -/
  | memobjHostRef (r : OdReq) (v : BitVec 32)
  /-- EVENT_CREATE (R289). -/
  | eventCreate (r : OdReq) (v : BitVec 128)
  /-- EVENT_FREE (R287). -/
  | eventFree (r : OdReq) (v : BitVec 32)
  /-- EVENT_HOST_REF (R286). -/
  | eventHostRef (r : OdReq) (v : BitVec 32)
  /-- WINDOW_SIGNAL (R291). -/
  | windowSignal (part : Nat) (v : BitVec 64)
  /-- WINDOW_RESET (R291). -/
  | windowReset (part : Nat) (v : BitVec 64)
  /-- FAULT_EVENT_WRITE (R311). -/
  | faultEventWrite (r : OdReq) (v : BitVec 32)
  /-- QUEUE_CONFIG_WRITE (R294). -/
  | queueConfigWrite (r : OdReq) (sub : BitVec 8) (v : BitVec 64)
  /-- QUEUE_RESTART (R299). -/
  | queueRestart (r : OdReq) (v : BitVec 8)
  /-- KEY_IMPORT_QUEUE (R295). -/
  | keyImportQueue (sess : Nat) (body : Bytes)
  /-- KEY_IMPORT_BOUNCE (R295). -/
  | keyImportBounce (sess : Nat) (body : Bytes)
  /-- DOORBELL (R297). -/
  | doorbell (part : Nat) (slot : Nat) (v : BitVec 64)
  /-- DESCRIPTOR_START (R299). -/
  | descriptorStart
  /-- COPY (R303). -/
  | copy (d : Nat)
  /-- SEAL (R309). -/
  | sealChunks (d : Nat)
  /-- UNSEAL (R309). -/
  | unsealChunks (d : Nat)
  /-- BOUNCE_IN (R310). -/
  | bounceIn (d : Nat)
  /-- BOUNCE_OUT (R310). -/
  | bounceOut (d : Nat)
  /-- ATOMIC (R303). -/
  | atomic (d : Nat)
  /-- SIGNAL (R290). -/
  | signal (d : Nat)
  /-- WAIT (R290). -/
  | wait (d : Nat)
  /-- WAIT_TIMEOUT (R290). -/
  | waitTimeout (d : Nat)
  /-- NOP (R303). -/
  | nop (d : Nat)
  /-- DUMP (R478). -/
  | dump (d : Nat)
  /-- DESCRIPTOR_COMPLETE (R306). -/
  | descriptorComplete (d : Nat)
  /-- OVERFLOW_POP (R312). -/
  | overflowPop (r : OdReq)
  /-- PATTERN_LOAD (R323). -/
  | patternLoad (r : OdReq) (v : BitVec 128)
  /-- PATTERN_DELETE (R326). -/
  | patternDelete (r : OdReq) (v : BitVec 8)
  /-- PATTERN_PATCH (R327). -/
  | patternPatch (r : OdReq) (v : Bytes)
  /-- LAUNCH (R329). -/
  | launch (d : Nat)
  /-- NODE_COMPLETE (R332). -/
  | nodeComplete (d : Nat)
  /-- PARTITION_CREATE (R340). -/
  | partitionCreate (r : OdReq) (v : Bytes)
  /-- PARTITION_RESET (R349). -/
  | partitionReset (r : OdReq) (v : BitVec 8)
  /-- PARTITION_REMOVE (R349). -/
  | partitionRemove (r : OdReq) (v : BitVec 8)
  /-- TEARDOWN_SQUASH (R350). -/
  | teardownSquash (part : Nat)
  /-- TEARDOWN_RESEED (R350). -/
  | teardownReseed (part : Nat)
  /-- SOURCE_WRITE (R345). -/
  | sourceWrite (r : OdReq) (v : BitVec 64)
  /-- PARTITION_BIND (R347). -/
  | partitionBind (sess : Nat) (body : Bytes)
  /-- SOURCE_CONFIRM (R348). -/
  | sourceConfirm (sess : Nat) (body : Bytes)
  /-- SOURCE_WITHDRAW (R348). -/
  | sourceWithdraw (sess : Nat) (body : Bytes)
  /-- STATUS_SNAPSHOT (R355). -/
  | statusSnapshot
  /-- SAMPLE_NONCE (R363). -/
  | sampleNonce (r : OdReq) (v : Bytes)
  /-- SAMPLE_READY (R363). -/
  | sampleReady
  /-- GET_VERSION (R369). -/
  | getVersion (path : OdPath)
  /-- GET_CAPABILITIES (R369). -/
  | getCapabilities (path : OdPath)
  /-- NEGOTIATE_ALGORITHMS (R368). -/
  | negotiateAlgorithms (path : OdPath) (offer : SpdmOffer)
  /-- GET_DIGESTS (R369). -/
  | getDigests (path : OdPath)
  /-- GET_CERTIFICATE (R369). -/
  | getCertificate (path : OdPath) (slot : Nat) (off : Nat) (len : Nat)
  /-- KEY_EXCHANGE (R370). -/
  | keyExchange (path : OdPath) (slot : Nat) (dhe : Bytes) (elem : Bytes)
  /-- SPDM_FINISH (R369). -/
  | spdmFinish (sess : Nat) (sig : Bytes) (mac : Bytes)
  /-- END_SESSION (R372). -/
  | endSession (sess : Nat)
  /-- SPDM_UNSUPPORTED (R369). -/
  | spdmUnsupported (path : OdPath) (code : BitVec 8)
  /-- SECURED_DECRYPT_FAIL (R372). -/
  | securedDecryptFail (sess : Nat)
  /-- HYBRID_CONFIRM (R370). -/
  | hybridConfirm (sess : Nat) (body : Bytes)
  /-- SEAL_IMPORT (R371). -/
  | sealImport (sess : Nat) (body : Bytes)
  /-- OD_REQUEST (R424). -/
  | odRequest (path : OdPath) (sess : Nat) (body : Bytes)
  /-- SEED_GET (R379). -/
  | seedGet (sess : Nat) (body : Bytes)
  /-- SEED_CARRY_ATTEMPT (R379). -/
  | seedCarryAttempt (port : Nat)
  /-- SEED_GET_RESPONSE (R379). -/
  | seedGetResponse (port : Nat) (body : Bytes)
  /-- OWNER_CLAIM (R373). -/
  | ownerClaim (r : OdReq) (v : Bytes)
  /-- CHARTER_BEGIN (R376). -/
  | charterBegin (r : OdReq) (v : BitVec 32)
  /-- CHARTER_CHUNK (R376). -/
  | charterChunk (r : OdReq) (v : Bytes)
  /-- CHARTER_COMMIT (R377). -/
  | charterCommit (r : OdReq) (v : BitVec 8)
  /-- CHARTER_CHECK_DONE (R378). -/
  | charterCheckDone
  /-- DISSOLVE (R383). -/
  | dissolve (r : OdReq) (v : BitVec 8)
  /-- SHUTTLE_LOCK_REQUEST (R395). -/
  | shuttleLockRequest (part : Nat) (v : BitVec 64)
  /-- SHUTTLE_RELEASE (R396). -/
  | shuttleRelease (part : Nat) (v : BitVec 64)
  /-- SHUTTLE_LEASE_EXPIRY (R396). -/
  | shuttleLeaseExpiry
  /-- SHUTTLE_REVOKE (R396). -/
  | shuttleRevoke (r : OdReq) (v : BitVec 8)
  /-- SHUTTLE_GO (R399). -/
  | shuttleGo (part : Nat) (v : BitVec 64)
  /-- SHUTTLE_ABORT (R399). -/
  | shuttleAbort (part : Nat) (v : BitVec 64)
  /-- SHUTTLE_JOB_END (R399). -/
  | shuttleJobEnd
  /-- PURL_SUBMIT (R402). -/
  | purlSubmit (part : Nat) (v : BitVec 64)
  /-- PURL_GO_ABORT (R403). -/
  | purlGoAbort (part : Nat) (v : BitVec 64)
  /-- PURL_ABORT (R406). -/
  | purlAbort (r : OdReq) (v : BitVec 8)
  /-- PURL_TIMEOUT (R402). -/
  | purlTimeout
  /-- PURL_JOB_END (R402). -/
  | purlJobEnd
  /-- MCTP_PACKET_RECEIVE (R419). -/
  | mctpPacketReceive (p : MctpPacket)
  /-- MCTP_ASSEMBLY_TIMEOUT (R419). -/
  | mctpAssemblyTimeout (src : Nat) (tag : Nat)
  /-- VL0_MCTP_MESSAGE (R420). -/
  | vl0MctpMessage (port : Nat) (srcEp : Nat) (dstEp : Nat) (m : Bytes)
  /-- SET_ENDPOINT_ID (R418). -/
  | setEndpointId (path : OdPath) (controller : Bool) (eid : BitVec 8)
  /-- GET_ENDPOINT_ID (R418). -/
  | getEndpointId (path : OdPath)
  /-- GET_MCTP_VERSION_SUPPORT (R418). -/
  | getMctpVersionSupport (path : OdPath) (mtype : BitVec 8)
  /-- GET_MESSAGE_TYPE_SUPPORT (R418). -/
  | getMessageTypeSupport (path : OdPath)
  /-- MCTP_UNSUPPORTED_CMD (R418). -/
  | mctpUnsupportedCmd (path : OdPath) (cmd : BitVec 8)
  /-- MAILBOX_GO (R422). -/
  | mailboxGo (v : BitVec 64)
  /-- DEBUG_MAILBOX_GO (R423). -/
  | debugMailboxGo (v : BitVec 64)
  /-- OD_READ (R414). -/
  | odRead (r : OdReq) (h : BitVec 128)
  /-- OD_WRITE (R414). -/
  | odWrite (r : OdReq) (h : BitVec 128) (data : Bytes)
  /-- OD_TABLE_READ (R417). -/
  | odTableRead (r : OdReq) (h : BitVec 128)
  /-- REGISTER_WRITE (R16). -/
  | registerWrite (off : Nat) (wide : Bool) (v : BitVec 64)
  /-- FW_STAGE_BEGIN (R444). -/
  | fwStageBegin (r : OdReq) (v : BitVec 32)
  /-- FW_STAGE_CHUNK (R444). -/
  | fwStageChunk (r : OdReq) (v : Bytes)
  /-- FW_STAGE_COMMIT (R444). -/
  | fwStageCommit (r : OdReq) (v : BitVec 8)
  /-- FW_STAGE_CHECK_DONE (R444). -/
  | fwStageCheckDone
  /-- FW_ACTIVATE (R445). -/
  | fwActivate (r : OdReq) (v : BitVec 8)
  /-- ACTIVATION_FIRMWARE_READY (R445). -/
  | activationFirmwareReady
  /-- LC_REQUEST_CLOSED (R450). -/
  | lcRequestClosed (r : OdReq) (v : BitVec 32)
  /-- LC_REQUEST_OPEN (R450). -/
  | lcRequestOpen (r : OdReq) (v : BitVec 32)
  /-- LC_BLOW_DONE (R450). -/
  | lcBlowDone (got : BitVec 64)
  /-- LC_WIPE_DONE (R450). -/
  | lcWipeDone
  /-- HEARTBEAT_WRITE (R454). -/
  | heartbeatWrite
  /-- HEARTBEAT_INTERVAL_END (R454). -/
  | heartbeatIntervalEnd
  /-- HANG_TIMER_EXPIRY (R457). -/
  | hangTimerExpiry (ctx : Nat) (queue : Nat)
  /-- CONTEXT_RESET (R459). -/
  | contextReset (r : OdReq) (v : BitVec 16)
  /-- QUARANTINE_CONSENT (R469). -/
  | quarantineConsent (r : OdReq) (v : BitVec 16)
  /-- LOG_MODE_WRITE (R474). -/
  | logModeWrite (r : OdReq) (v : BitVec 8)
  /-- LOG_CLEAR (R474). -/
  | logClear (r : OdReq) (v : BitVec 8)
  /-- TRIGGER_NOW (R475). -/
  | triggerNow (r : OdReq) (v : BitVec 8)
  /-- LOG_SEALED_READ (R476). -/
  | logSealedRead (r : OdReq) (first : BitVec 16) (count : BitVec 16)
  /-- DUMP_ARM (R477). -/
  | dumpArm (r : OdReq) (v : BitVec 128)
  /-- DUMP_DISARM (R477). -/
  | dumpDisarm (r : OdReq) (v : BitVec 8)
  /-- FIRMWARE_READY_TIMEOUT (R437). -/
  | firmwareReadyTimeout
  /-- REFCLK_RETURN (R87). -/
  | refclkReturn
  /-- MEM_CTL_RDY_RISE (R65). -/
  | memCtlRdyRise (port : Nat) (credits : Nat)
  /-- GANG_LINK_UP (R73). -/
  | gangLinkUp (link : GangLink)
  /-- PORT_CLOCK_RESUME (R87). -/
  | portClockResume (p : PortId)
  /-- SPDM_REQUESTER_RESPONSE (R379). -/
  | spdmRequesterResponse (port : Nat) (body : Bytes)
deriving DecidableEq, Repr

end Sys2Proof
end

