-- ==== Sys2Proof/Decode.lean ====
section
/-! DEFINITION. The words of commands. A Kamez block takes commands as port events and messages; spec/opcode_table.json
gives its rows no bits, so no word spells a command. -/

namespace Sys2Proof

/-- The command that a word of the opcode table spells: none, since no row of the table has bits. -/
def decodeTableWord (_nbits _w : Nat) : Option Instr := none

end Sys2Proof
end

