-- ==== Sys2Proof/Machine/Bits.lean ====
section
/-! DEFINITION. Bytes, bit fields and sparse tables: the helpers every layout of the spec is written with. -/

namespace Sys2Proof.Machine

/-- Bits [lo + n − 1 : lo] of a number. -/
def fld (w lo n : Nat) : Nat := w / 2 ^ lo % 2 ^ n

/-- Bit `i` of a number. -/
def tbit (w i : Nat) : Bool := fld w i 1 == 1

/-- A Boolean as a bit. -/
def bit (b : Bool) : Nat := if b then 1 else 0

/-- Fields packed from bit 0 upwards: (width, value). -/
def pack : List (Nat × Nat) → Nat
  | [] => 0
  | (n, v) :: rest => v % 2 ^ n + 2 ^ n * pack rest

/-- `n` bytes of a number, little-endian. -/
def le : Nat → Nat → Bytes
  | 0, _ => []
  | n + 1, v => BitVec.ofNat 8 v :: le n (v / 256)

/-- The number little-endian bytes spell. -/
def ofLe : Bytes → Nat
  | [] => 0
  | b :: bs => b.toNat + 256 * ofLe bs

/-- `n` bytes of a number, big-endian. -/
def be (n v : Nat) : Bytes := (le n v).reverse

/-- The number big-endian bytes spell. -/
def ofBe (bs : Bytes) : Nat := ofLe bs.reverse

/-- `n` bytes from offset `off`, zero beyond the end. -/
def slice (bs : Bytes) (off n : Nat) : Bytes :=
  let got := (bs.drop off).take n
  got ++ List.replicate (n - got.length) 0

/-- The little-endian number in `n` bytes at offset `off`. -/
def num (bs : Bytes) (off n : Nat) : Nat := ofLe (slice bs off n)

/-- Every byte from `off` on, `n` of them, is zero. -/
def zeros (bs : Bytes) (off n : Nat) : Bool := (slice bs off n).all (· == 0)

/-- `n` zero bytes. -/
def zeroBytes (n : Nat) : Bytes := List.replicate n 0

/-- ASCII text as bytes, padded with zeros to `n`. -/
def text (t : String) (n : Nat) : Bytes := slice (t.toList.map fun c => BitVec.ofNat 8 c.toNat) 0 n

/-- `bs` overwritten with `new` from offset `off`. -/
def patchBytes (bs : Bytes) (off : Nat) (new : Bytes) : Bytes :=
  slice bs 0 off ++ new ++ bs.drop (off + new.length)

/-- Quotient rounded up. -/
def ceilDiv (a b : Nat) : Nat := (a + b - 1) / b

/-! ### Sparse tables -/

/-- The entry listed at an index. -/
def tget {α : Type} : Tbl α → Nat → Option α
  | [], _ => none
  | (j, x) :: rest, k => if j = k then some x else tget rest k

/-- The entry at an index, or the table's empty entry. -/
def tgetD {α : Type} (t : Tbl α) (k : Nat) (d : α) : α := (tget t k).getD d

/-- Set an entry, keeping the indices rising. -/
def tput {α : Type} : Tbl α → Nat → α → Tbl α
  | [], k, x => [(k, x)]
  | (j, y) :: rest, k, x =>
    if k < j then (k, x) :: (j, y) :: rest
    else if k = j then (k, x) :: rest
    else (j, y) :: tput rest k x

/-- Remove an entry. -/
def tdel {α : Type} (t : Tbl α) (k : Nat) : Tbl α := t.filter fun e => e.1 != k

/-- Change an entry where it is listed. -/
def tmod {α : Type} (t : Tbl α) (k : Nat) (f : α → α) : Tbl α :=
  t.map fun e => if e.1 = k then (e.1, f e.2) else e

/-- Change every listed entry. -/
def tmapAll {α : Type} (t : Tbl α) (f : Nat → α → α) : Tbl α := t.map fun e => (e.1, f e.1 e.2)

/-- Is an index listed. -/
def thas {α : Type} (t : Tbl α) (k : Nat) : Bool := (tget t k).isSome

/-- The first listed entry that a test holds of. -/
def tfind {α : Type} (t : Tbl α) (p : Nat → α → Bool) : Option (Nat × α) := t.find? fun e => p e.1 e.2

/-- How many listed entries a test holds of. -/
def tcount {α : Type} (t : Tbl α) (p : Nat → α → Bool) : Nat := (t.filter fun e => p e.1 e.2).length

/-- The lowest index from `k` on that is not listed, looking at `fuel` indices. -/
def lowestFree {α : Type} (t : Tbl α) : Nat → Nat → Option Nat
  | 0, _ => none
  | fuel + 1, k => if thas t k then lowestFree t fuel (k + 1) else some k

/-- The lowest index in [k, k + fuel) at which a test of the entry holds. -/
def lowestSuch (p : Nat → Bool) : Nat → Nat → Option Nat
  | 0, _ => none
  | fuel + 1, k => if p k then some k else lowestSuch p fuel (k + 1)

/-- Apply a step to each member of a list in turn. -/
def each {α β : Type} (xs : List α) (f : α → β → β) (b : β) : β := xs.foldl (fun acc x => f x acc) b

/-- Element `k`, or a default. -/
def nth {α : Type} (xs : List α) (k : Nat) (d : α) : α := xs.getD k d

/-- Replace element `k`. -/
def setNth {α : Type} (xs : List α) (k : Nat) (x : α) : List α := xs.set k x

end Sys2Proof.Machine
end

