-- ==== Sys2Proof/Machine/State.lean ====
section
/-! DEFINITION. The state of one Kamez block: everything the spec gives it, as plain data, and its value after power-on
reset. Counts, indices and ticks are `Nat`; data is bytes or bit vectors; tables are sparse (`Tbl`). The stored
objects of the object dictionary (settings and counters) are held in one table, `od`, under the number the spec gives
each (index × 256 + subindex). -/

namespace Sys2Proof.Machine

/-- Why the machine stops. -/
inductive Fault where
  /-- A port, link, island or pillow that the configuration of R6 does not have was named by a command: no such pin
  exists, so no such event can happen. Raised by the port-level commands. Safe. -/
  | noSuchPort
deriving DecidableEq, Repr

/-- Why a command has no meaning. -/
inductive Refusal where
  /-- The command's meaning has not been written yet. Raised by an arm of `exec` alone. Safe. -/
  | notModelled (mnemonic : String)
deriving DecidableEq, Repr

/-! ### Sequencer, supply and pads (R52, R80 to R96, R430 to R441) -/

/-- The always-on registers (R432) and the quarantine latch beside them (R468, R469). -/
structure AlwaysOn where
  lastResetCause : Nat
  startCount : Nat
  failedStarts : Nat
  tamperEvents : Nat
  quarantined : Bool
deriving DecidableEq, Repr

/-- The reset sequencer, start-up (R431, R434, R435) and basting mode (R438). -/
structure Seq where
  /-- Step of R435 last reached (START_PHASE). -/
  phase : Nat
  /-- 0 NONE, 1 to 4 (R438). -/
  basting : Nat
  /-- The ROM has handed a measurement to the key island in this start (step 6 passed). -/
  measured : Bool
  /-- Slots that step 6 has tried. -/
  tried : List Nat
  /-- The management island is in reset or its firmware has not reported ready since (R434). -/
  mgmtReset : Bool
  lastMgmtCause : Nat
  /-- A tamper condition holds step 0 (R441). -/
  tamperHold : Bool
  /-- Tick of the latest reset or start-up step, which the bounds of R434, R435 and R445 count from. -/
  since : Nat
  /-- A whole-block reset that waits for the blow of a life-cycle group (R452): its cause. -/
  deferred : Option Nat
  /-- A whole-block reset that waits for KZ_REFCLK (R87). -/
  held : Bool
  /-- The cordonnet is halted through the test port (R448). -/
  halted : Bool
deriving DecidableEq, Repr

/-- Supply, clocks and pads (R81 to R96). -/
structure Power where
  /-- KZ_PU_EN[5:0]. -/
  puEn : BitVec 6
  pfailLow : Bool
  holdupArmed : Bool
  /-- Tick since which PFAIL_N has been high without a break (R94). -/
  pfailHighSince : Nat
  /-- The quiesce of R95 runs; then is complete. -/
  quiescing : Bool
  quiesced : Bool
  refclk : Bool
  /-- Recalibrations of the island generators (R87). -/
  recalibrations : Nat
  /-- Period of each island in thousandths of its nominal value (R30); unlisted islands run at 1,000. -/
  period : Tbl Nat
  /-- KZ_THROT (R92). -/
  throttle : Nat
  /-- POWER_STATE is RETENTION (R93). -/
  retention : Bool
  /-- Ports whose enable is high (R52). -/
  enabled : List PortId
  /-- Ports whose clock has stopped after enable (R87). -/
  stopped : List PortId
  /-- Memory ports whose KZ_MPn_CTL_RDY is high (R65). -/
  ctlRdy : List Nat
deriving DecidableEq, Repr

/-- The test port (R85, R448). -/
structure Tap where
  /-- 0 IDCODE, 1 KZ_DEBUG, 2 KZ_FUSE, 3 bypass. -/
  sel : Nat
  /-- The KZ_DEBUG data register. -/
  dr : BitVec 112
deriving DecidableEq, Repr

/-! ### Fuses and flash (R79, R100 to R105, R133 to R135, R440 to R452) -/

/-- A fuse blow under way (R104): the word, the bits still to blow, whether the present bit has failed once, and what
follows (0 KZ_FUSE, 1 RAISE_EPOCH_FLOOR, 2 USER_FLASH_WIPE, 3 the group of a life-cycle transition, 4 the STORAGE_WIPES
bit of a transition). -/
structure Blow where
  word : Nat
  bits : List Nat
  failedOnce : Bool
  why : Nat
  req : Option OdReq
deriving DecidableEq, Repr

/-- The fuse array (R100) and what the last sensing decoded (R101, R103). -/
structure Fuses where
  words : Tbl (BitVec 72)
  rootState : Nat
  corrected : Nat
  /-- The sensed root (R102). -/
  root : Bytes
  serial : Nat
  lcWord : Nat
  wipes : Nat
  floor : Nat
  signer : Bytes
  blow : Option Blow
deriving DecidableEq, Repr

/-- A request at the flash port that has not finished (R78): operation (0 read, 1 program, 2 erase, 3 abort erase),
offset, and the user-flash record programmed, if any. -/
structure FlashReq where
  op : Nat
  addr : Nat
  record : Option Nat
deriving DecidableEq, Repr

/-- An image slot: the arming page and the image bytes (R442, R443). -/
structure Slot where
  arming : Bytes
  image : Bytes
deriving DecidableEq, Repr

/-- The flash window (R440). User-flash records are held by RECORD_ID, sealed (R133). -/
structure Flash where
  slots : Tbl Slot
  identity : List Bytes
  banks : Tbl Bytes
  user : Tbl Bytes
  reqs : List FlashReq
deriving DecidableEq, Repr

/-- Staging and activation of firmware (R444, R445) and the running image (R442). -/
structure Fw where
  active : Nat
  status : Nat
  total : Nat
  staged : Bytes
  /-- The commit check is pending; the last commit ended DONE. -/
  checking : Bool
  staged_ok : Bool
  /-- Step of R445 reached, 0 when no activation runs. -/
  step : Nat
  /-- An activation that failed restores the old slot; the status it will report. -/
  restoring : Option Nat
  epoch : Nat
  version : Bytes
  /-- PASSED of FW_SLOTS for each slot tried at step 6 (R453). -/
  passed : List Nat
  /-- The rows of FW_SLOTS as step 6 read them (R453). -/
  slotRows : List Bytes
  aliasIssued : Bool
deriving DecidableEq, Repr

/-- A life-cycle transition (R449 to R452). -/
structure Lc where
  progress : Nat
  /-- Target 1 CLOSED, 2 OPEN; 0 when none runs. -/
  target : Nat
  req : Option OdReq
deriving DecidableEq, Repr

/-! ### The pricking (R106 to R140) -/

/-- A pin record (R109). -/
structure Pin where
  parent : Nat
  parentGen : Nat
  gen : Nat
  level : Nat
  /-- 0 ROOT, 1 DERIVED, 2 HELD. -/
  kind : Nat
  /-- 0 FREE, 1 LIVE, 2 INVALIDATING, 3 ORPHANED, 4 RETIRED. -/
  state : Nat
  purpose : Nat
  objA : Nat
  objB : Nat
  heldSlot : Nat
  source : Nat
  childSerial : Nat
deriving DecidableEq, Repr

/-- A key-index table entry (R120). -/
structure Kidx where
  pin : Nat
  gen : Nat
  partition : Nat
  infra : Bool
  /-- 1 LOCAL, 2 POOL; a FREE entry is not listed. -/
  kind : Nat
  /-- 1 BOUND, 2 UNBINDING. -/
  state : Nat
  orphaned : Bool
deriving DecidableEq, Repr

/-- An entry of the pin cache (R124, R128). -/
structure CacheEnt where
  gen : Nat
  orphaned : Bool
  lastUse : Nat
deriving DecidableEq, Repr

/-- A running invalidation (R128, R129), held under the pin's index. -/
structure Inval where
  squash : Bool
  /-- Requests for pins inside the subtree that complete with this one. -/
  absorbed : List Nat
  startTick : Nat
deriving DecidableEq, Repr

/-- A random bit generator (R137): instantiated, and generate requests since the last reseed. -/
structure Drbg where
  live : Bool
  requests : Nat
deriving DecidableEq, Repr

/-- The key island. -/
structure Keys where
  pins : Tbl Pin
  /-- Held-store slots in use (R115). -/
  held : Tbl Bytes
  kidx : Tbl Kidx
  cache : Tbl CacheEnt
  /-- Pins that wait for a fill, oldest first (R125). -/
  missQueue : List Nat
  inval : Tbl Inval
  /-- Internal invalidations that wait for one of the 16 places (R129): pin, squash. -/
  invalWaiting : List (Nat × Bool)
  useClock : Nat
  keyDrbg : Drbg
  roundDrbg : Drbg
  /-- 0 TESTING, 1 OK, 2 FAILED, 3 DEAD. -/
  entropy : Nat
  /-- Consecutive failures, and the tick of the last (R138). -/
  entropyFails : Nat
  entropyFailTick : Nat
  /-- The measurement FIRMWARE_EPOCH was derived from (R114). -/
  fwMeasurement : Bytes
  /-- A seed draw waits for the key DRBG (R132, R138): 1 SOLO_SEED, 2 DOMAIN_SEED. -/
  seedPending : Nat
  /-- INC of R218, none until it is drawn. -/
  inc : Option Nat
deriving DecidableEq, Repr

/-! ### The dictionary engine and its transports (R407 to R428) -/

/-- A message that waits in a path's queue (R426): the port and SRC_EP it came from (VL0), its source EID and tag, and its
bytes from the message type byte on. -/
structure DictMsg where
  port : Nat
  srcEp : Nat
  src : Nat
  tag : Nat
  bytes : Bytes
deriving DecidableEq, Repr

/-- A message assembly (R419). -/
structure Assembly where
  path : OdPath
  src : Nat
  tag : Nat
  seq : Nat
  bytes : Bytes
  startTick : Nat
deriving DecidableEq, Repr

/-- A mailbox (R421, R423). -/
structure Mailbox where
  reqLen : Nat
  kind : Nat
  /-- 0 IDLE, 1 BUSY, 2 DONE. -/
  state : Nat
  donePend : Bool
  rspLen : Nat
  completed : Nat
  msiAddr : Nat
  msiData : Nat
  reqBuf : Tbl (BitVec 64)
  rspBuf : Bytes
deriving DecidableEq, Repr

/-- The dictionary engine: the request queues of R426 (messages waiting or executing on each path), assemblies, and the
addresses of R418. -/
structure Dict where
  i3cQ : List DictMsg
  vl0Q : List DictMsg
  mailQ : List DictMsg
  debugQ : List DictMsg
  asm : List Assembly
  i3cAddr : Nat
  i3cEid : Nat
  mailbox : Mailbox
  debugBox : Mailbox
  /-- Objects held per session (R425): session (0 the mailbox, k + 1 SPDM session k) × 2^24 + object. -/
  perSession : Tbl Nat
deriving DecidableEq, Repr

/-! ### Recovery, counters, log and dumps (R454 to R479) -/

/-- A context reset between its steps 5 and 6 (R459, R462): its cause, the hung queue or 0xFF, t_event, the body of its
record, whether it reached ESCALATE_COUNT, and whether the context is destroyed afterwards. -/
structure ResetRun where
  cause : Nat
  queue : Nat
  event : Nat
  body : Bytes
  escalates : Bool
  destroys : Bool
deriving DecidableEq, Repr

/-- Watchdogs, context resets and escalation. -/
structure Recovery where
  hbRunning : Bool
  hbWritten : Bool
  hbMisses : Nat
  /-- Tick at which the present interval is taken to have begun. -/
  hbSince : Nat
  /-- Hang timers by context × 4 + queue (R455). -/
  hang : Tbl Nat
  /-- Stored recovery records, oldest first (R465), and the last record number. -/
  records : List Bytes
  recordNo : Nat
  /-- Ticks of the context resets kept for escalation (R467). -/
  ticks : List Nat
  inWindow : Nat
  /-- Context resets whose step 6 is still to come, by context (R459). -/
  runs : Tbl ResetRun
  consent : Bool
  /-- The block is in QUARANTINED now (SERVICE_STATE). -/
  quarantined : Bool
  /-- Object 0xA010: context, partition, cause, queue, record number, tick. -/
  last : List Nat
deriving DecidableEq, Repr

/-- The tacking log (R472 to R476). -/
structure TackLog where
  recs : List (BitVec 256)
  lseq : Tbl Nat
  /-- 0 OFF, 1 RUNNING, 2 FULL, 3 TRIGGERED, 4 FROZEN. -/
  state : Nat
  triggerIndex : Nat
  postLeft : Nat
deriving DecidableEq, Repr

/-! ### Bobbins, pillows and tension (R22 to R50) -/

/-- A unit that tension has accepted. -/
structure UnitRec where
  desc : UnitDesc
  /-- Class it was admitted in (R485). -/
  cls : Nat
  pillow : Nat
  bobbin : Nat
  /-- Stream sequence (R35). -/
  seq : Nat
  issued : Bool
deriving DecidableEq, Repr

/-- A grant of tickets that an ingress island has drawn (R40). -/
structure Grant where
  island : Nat
  partition : Nat
  pillow : Nat
  left : Nat
  /-- The pillow's frame count at its last use. -/
  lastFrame : Nat
deriving DecidableEq, Repr

/-- A stream of R35 and its next sequences to give and to release. -/
structure Stream where
  ingress : PortId
  egress : PortId
  vl : Nat
  dst : Nat
  give : Nat
  release : Nat
deriving DecidableEq, Repr

/-- Who owns a scratch region (R24): partition, context (none for an interior plait record), plait record if any, and
the provisional flag (R25). -/
structure Scratch where
  partition : Option Nat
  context : Option Nat
  plait : Option Nat
  provisional : Bool
deriving DecidableEq, Repr

/-- A pillow: its frame count, and the reservable positions (bobbin × 4 + position, partition) in the order taken, and
those released that still serve their partition (R45). -/
structure Pillow where
  frames : Nat
  taken : List (Nat × Nat)
  releasing : List (Nat × Nat)
deriving DecidableEq, Repr

/-- Tension, the pillows and the bobbins. -/
structure Tension where
  units : Tbl UnitRec
  nextUnit : Nat
  /-- Units held at the boundary, the one in its holding slot first for each ingress port and class (R39), with the HOLD
  counters that each has advanced (R44). -/
  held : List (UnitDesc × List Nat)
  /-- Ticket cycles out of the pool of partition × 64 + pillow (R40). -/
  ticketsOut : Tbl Nat
  grants : List Grant
  streams : List Stream
  pillows : Tbl Pillow
  /-- Best-effort issue cycles waiting at each bobbin (R26, R38). -/
  backlog : Tbl Nat
  /-- Round-key slots of each bobbin: pin handles, most recently used first (R23). -/
  roundKeys : Tbl (List Nat)
  /-- Scratch regions in use, by bobbin × 16 + region. -/
  scratch : Tbl Scratch
  /-- Units waiting or passing that hold egress credits are `units`; tally nodes pinned by bookings (R42). -/
  bookedNodes : Nat
  /-- Tension accepts nothing (R95, R450). -/
  closed : Bool
  /-- Best-effort admission opportunities in each pillow (R92). -/
  turns : Tbl Nat
  /-- Best-effort units of each partition admitted, and delayed by throttling, in this interval (R355). -/
  admitted : Tbl Nat
  delayed : Tbl Nat
  /-- Weighted round robin over B1 to B5 at each ingress port: turns left in the round (R43). -/
  wrr : Tbl (List Nat)
  /-- Deficits of partitions by ingress port × 4,096 + class × 64 + partition (R43). -/
  drr : Tbl Nat
  /-- The port that each ingress island served last (R50). -/
  lastPort : Tbl Nat
deriving DecidableEq, Repr

/-! ### Partitions (R336 to R358) -/

/-- A partition record (R337) with what its teardown and its status page keep. -/
structure Partition where
  /-- 0 FREE, 1 LIVE, 2 RESETTING, 3 REMOVING. -/
  state : Nat
  /-- The SPDM session bound (R347). -/
  bound : Option Nat
  ctxBase : Nat
  ctxCount : Nat
  kidxBase : Nat
  kidxCount : Nat
  rootQuota : Nat
  heldQuota : Nat
  patBase : Nat
  patCount : Nat
  frameBase : Nat
  frameCount : Nat
  hash : Bytes
  pin : Nat
  pinGen : Nat
  serial : Nat
  resets : Nat
  /-- Step of R350 reached: 0 none, 1 closed, 6 waiting for a seed. -/
  step : Nat
  /-- Tick at which step 2 of R350 ends at the latest. -/
  drainUntil : Nat
  /-- Completions since creation or reset, in the order of R354 from 0xB020 (live), and as of the last snapshot. -/
  live : List Nat
  snap : List Nat
  thrOwn : Nat
  /-- The snapshot has been taken since the page was zeroed, and INTERVAL_NO at that time. -/
  intervals : Nat
  power10w : Nat
deriving DecidableEq, Repr

/-- A source-map entry (R345). -/
structure Source where
  srcId : Nat
  partition : Nat
  valid : Bool
  confirmed : Bool
deriving DecidableEq, Repr

/-! ### Identity, SPDM and the domain (R359 to R389, R73 to R77) -/

/-- An SPDM session as responder (R370 to R372). -/
structure Session where
  id : Nat
  path : OdPath
  /-- FINISH has verified. -/
  opened : Bool
  /-- Requester's leaf certificate and the digest of its SubjectPublicKeyInfo (R371). -/
  leaf : Bytes
  digest : Bytes
  /-- Transcript so far, hybrid secret, export master secret (R370, R379). -/
  transcript : Bytes
  secret : Bytes
deriving DecidableEq, Repr

/-- A seed carry under way as SPDM requester (R379): link flit port, the message awaited (1 certificate chain, 2
KEY_EXCHANGE_RSP, 3 FINISH_RSP, 4 HYBRID_CONFIRM response, 5 SEED_GET response), transcript, secret and start tick. -/
structure Carry where
  port : Nat
  await : Nat
  transcript : Bytes
  secret : Bytes
  leaf : Bytes
  startTick : Nat
deriving DecidableEq, Repr

/-- Membership, attestation and sessions. -/
structure Domain where
  /-- Held-store slot of the member key seed (R361). -/
  memberSlot : Option Nat
  sampleNo : Nat
  /-- 0 IDLE, 1 ISSUING, 2 READY. -/
  sampleState : Nat
  nonce : Bytes
  /-- CERT_STORE, newest first: SAMPLE_NO and certificate (R363). -/
  store : List (Nat × Bytes)
  /-- The member certificate (R377), empty when there is none. -/
  memberCert : Bytes
  sessions : Tbl Session
  nextSession : Nat
  stagedTotal : Nat
  staged : Bytes
  charter : Option Bytes
  /-- A commit is pending (R376): 1 its check runs, 2 steps 3 and 4 of R380 run. -/
  pending : Nat
  status : Nat
  /-- 0 SOLO, 1 JOINING, 2 MEMBER, 3 UPDATING. -/
  state : Nat
  memberIndex : Nat
  carries : List Carry
  /-- Last seed-carry attempt on each port (R379). -/
  lastCarry : Tbl Nat
  /-- A firmware activation waits for the pending commit (R388). -/
  activationWaits : Bool
deriving DecidableEq, Repr

/-- What a panel member has told of itself around the ring (R75, R384). -/
structure Member where
  size : Nat
  profile : Nat
  config : Nat
  serial : Nat
  measurement : Bytes
  lifeCycle : Nat
  verified : Bool
  /-- Its alias certificate (R384). -/
  chain : Bytes
deriving DecidableEq, Repr

/-- The gang port and the panel (R73 to R77, R384, R385). -/
structure Gang where
  aUp : Bool
  bUp : Bool
  /-- A link no longer used since its UP fell or RX_ERR rose (R76). -/
  aBroken : Bool
  bBroken : Bool
  /-- PANEL_STATE: 0 SOLO, 1 FORMED, 2 DEGRADED, 3 SPLIT, 4 FAULT. -/
  panel : Nat
  members : Tbl Member
  /-- Frames sent and not acknowledged, by number: the link and the frame (R76). -/
  unacked : Tbl (GangLink × GangFrame)
  nextFrame : Nat
  /-- The number of the next frame made here, and of the last frame of each member that has been taken. -/
  nextSeq : Nat
  seen : Tbl Nat
  /-- A domain seed from member 0 that came before this member joined (log entry 26). -/
  heldSeed : Bytes
  /-- Tick at which the exchange began. -/
  since : Nat
deriving DecidableEq, Repr

/-! ### Service units (R390 to R406) -/

/-- The shuttle (R394 to R399). Registers are held by offset from 0x8000. -/
structure Shuttle where
  owner : Option (Nat × Nat)
  ticket : Nat
  leaseLeft : Nat
  /-- Pending request of each partition: (ticket, context, lease). -/
  waiting : Tbl (Nat × Nat × Nat)
  lastHolder : Nat
  regs : Tbl (BitVec 64)
  /-- 0 IDLE, 1 RUNNING, 2 ENDED. -/
  state : Nat
  status : Nat
  /-- Device references the running job holds: object indices. -/
  refs : List Nat
  /-- Its transfer. -/
  job : Nat
deriving DecidableEq, Repr

/-- One partition's purl registers (R401). -/
structure PurlRegs where
  regs : Tbl (BitVec 64)
  nextAlive : Nat
  resultAlive : Nat
  /-- 0 NONE, 1 RUNNING, 2 ENDED. -/
  rstate : Nat
  rstatus : Nat
  result : Nat
  bytesDone : Nat
deriving DecidableEq, Repr

/-- The purl: registers by partition, the partition of the running job, its start and its device references. -/
structure Purl where
  parts : Tbl PurlRegs
  running : Option Nat
  startTick : Nat
  refs : List Nat
  /-- The registers of the running job as they were accepted. -/
  job : Tbl (BitVec 64)
  /-- Its transfer. -/
  xfer : Nat
deriving DecidableEq, Repr

/-! ### What leaves the block -/

/-- What the block hands over at its ports, in the spec's own terms. -/
inductive Out where
  /-- The answer to a dictionary request: request, OP with bit 7 set, type, index, subindex, abort, rows, total rows,
  data (R416). -/
  | od (r : OdReq) (op type idx sub abort rows total : Nat) (data : Bytes)
  /-- The answer to a secured request (R346): session, completion status, body. -/
  | secured (sess status : Nat) (body : Bytes)
  /-- An SPDM response: path, response code, body. -/
  | spdm (path : OdPath) (code : Nat) (body : Bytes)
  /-- An MCTP control response: path, command, completion code, body. -/
  | mctp (path : OdPath) (cmd code : Nat) (body : Bytes)
  /-- An MCTP message offered at the I3C target with an in-band interrupt: destination EID, tag, bytes (R418, R419). -/
  | mctpMsg (dst tag : Nat) (m : Bytes)
  /-- A mesh response: port, response opcode, SRC_ID, TAG, status, POISON, data (R57). -/
  | meshRsp (port opc src tag status : Nat) (poison : Bool) (data : Bytes)
  /-- An outbound mesh request: port, tag, write, address, length, PASID, data (R62, R282). -/
  | meshReq (port tag : Nat) (write : Bool) (addr len : Nat) (pasid : Option Nat) (data : Bytes)
  /-- A read and a write at a memory port: port, tag, first line, lines; data and byte mask (R65, R66). -/
  | memRead (port tag line lines : Nat)
  | memWrite (port line : Nat) (data : Bytes) (mask : List Bool)
  /-- Flits on a link flit port: a group, one control, CLEAR or IDLE flit (R176, R184). -/
  | flits (port : Nat) (fs : List Bytes)
  /-- A link-control message before it is segmented: port, type, bytes (R183). -/
  | linkMsg (port mtype : Nat) (m : Bytes)
  /-- A fabric or plait message handed to a link: port and message. -/
  | fabric (port : Nat) (m : FMsg)
  | plait (port : Nat) (m : PMsg)
  /-- The plaintext of a group received for the fabric, for plaits, or for the transports: port, virtual lane, source,
  destination, bytes. -/
  | deliver (port vl src dst : Nat) (m : Bytes)
  /-- A gang frame sent on a link. -/
  | gang (l : GangLink) (f : GangFrame)
  /-- An operation at the flash port: 0 read, 1 program, 2 erase, 3 abort erase (R78). -/
  | flash (op addr len : Nat)
  /-- Bits shifted out of the test port. -/
  | tdo (dr : BitVec 112)
  /-- Credits returned at a port: port, class, number. -/
  | credit (p : PortId) (cls n : Nat)
  /-- A unit removed at egress or completed without entering tension: its number or tag, status. -/
  | unit (n status : Nat)
  /-- A tacking record frozen or another event reported to its owner: kind and values. -/
  | note (kind : Nat) (vals : List Nat)
deriving DecidableEq, Repr

/-! ### Mesh and memory ports (R51 to R68, R141 to R148) -/

/-- What an outbound mesh request serves (R58, R62). -/
inductive MeshPurpose where
  /-- Descriptor fetch of a queue (context × 4 + queue), from counter `first`, `n` descriptors. -/
  | fetch (queue first n : Nat)
  /-- A completion slot, an interrupt record, a message-signalled interrupt: nothing waits on it but its context. -/
  | completion (ctx queue : Nat) (slot : Bytes)
  | record (ctx : Nat)
  | msi
  /-- A pattern image read for load number `load`. -/
  | image (load : Nat)
  /-- The access that a transfer waits for: its job (R303, R390). -/
  | xfer (job : Nat)
deriving DecidableEq, Repr

/-- An outbound mesh request that has no response yet (R62). -/
structure OutReq where
  port : Nat
  purpose : MeshPurpose
  addr : Nat
  len : Nat
  write : Bool
  pasid : Option Nat
  issueTick : Nat
deriving DecidableEq, Repr

/-- A line of a pooled write whose write passage has not been accepted (R166, R225): its number in the request, its
plaintext, whether it holds the line's entry already, and its place among its source's writes (generation, order). -/
structure ReadyLine where
  line : Nat
  data : Bytes
  owns : Bool
  token : Option (Nat × Nat)
deriving DecidableEq, Repr

/-- An inbound mesh request accepted and not yet answered (R59). -/
structure InReq where
  port : Nat
  q : MeshReq
  partition : Option Nat
  /-- Lines (in order, from the first) still without an outcome. -/
  waiting : List Nat
  /-- Outcome of each finished line: its number, status and data. -/
  done : List (Nat × Nat × Bytes)
  /-- A pooled read's counter pair of each line as it was accepted: line, MAJOR, MINOR (R149). -/
  ctrs : List (Nat × Nat × Nat)
  ready : List ReadyLine
deriving DecidableEq, Repr

/-- An outstanding memory read (R65, R66): first line address, lines, and what each line serves: an inbound request's
line, or a merge entry. -/
structure MemRead where
  laddr : Nat
  kidx : Nat
  lines : Nat
  req : Option Nat
  firstLine : Nat
  entry : Option Nat
  issueTick : Nat
deriving DecidableEq, Repr

/-- A merge-buffer entry (R146): its state 0 OPEN, 1 READING, 2 WRITING; the inbound requests and lines whose partial
writes it holds, and the reads that wait on it. -/
structure Merge where
  laddr : Nat
  kidx : Nat
  data : Bytes
  mask : List Bool
  state : Nat
  writes : List (Nat × Nat)
  reads : List (Nat × Nat)
  /-- A full-line write has passed it while READING (R147). -/
  superseded : Bool
deriving DecidableEq, Repr

/-- Mesh and memory ports (R52 to R68). -/
structure Ports where
  /-- Credits that partners hold (granted) and that the block holds (owned), by port and class (R53, R58, R65). -/
  granted : List (PortId × Nat × Nat)
  owned : List (PortId × Nat × Nat)
  inReqs : Tbl InReq
  nextIn : Nat
  /-- Requests that tension holds at the boundary (R38, R39). -/
  heldReqs : List MeshReq
  /-- Counters that the request held first at a port and class has been counted in: port, class, index, subindex
  (R44). -/
  heldMarks : List (Nat × Nat × Nat × Nat)
  outReqs : Tbl OutReq
  /-- Outstanding memory reads by port × 1,024 + tag. -/
  memReads : Tbl MemRead
  merge : Tbl Merge
  /-- Messages that wait for credits, oldest first: port, class, beats, message (R53, R62). -/
  waitOut : List (PortId × Nat × Nat × Out)
  /-- Interleave in effect: 0 for 512 B, 1 for 4 KiB (R174). -/
  interleave : Nat
deriving DecidableEq, Repr

/-! ### Regions and the tally tree (R149 to R174) -/

/-- A region: its table entry (R157), its root counters (R153) and what the owner record gave (R234, R236). -/
structure Region where
  state : Nat
  damaged : Bool
  mirror : Bool
  ordered : Bool
  checked : Bool
  mirrorLost : Bool
  sizeLog2 : Nat
  partition : Nat
  kidx : Nat
  trayRegion : Nat
  pin : Nat
  pinGen : Nat
  primaryEp : Nat
  mirrorEp : Nat
  mirrorRegion : Nat
  spanRekeys : Nat
  lineMacFails : Nat
  poisonedReads : Nat
  roots : List Nat
  accessKey : Nat
  ownerEpoch : Nat
  trayInc : Option Nat
  mirrorInc : Option Nat
  cells : Nat
  /-- Session whose LAST_CREATE_STATUS reports the claim (R158). -/
  creator : Option Nat
  /-- More damaged nodes than the list holds (R171). -/
  wholeDamaged : Bool
  /-- Tick of the last probe while UNAVAILABLE (R160). -/
  lastProbe : Nat
deriving DecidableEq, Repr

/-- A resident tally node (R161): its key is (slot, level, index). Nodes being fetched are the walks' outstanding
requests; what pins a node is read from the requests that need it. -/
structure Node where
  slot : Nat
  level : Nat
  index : Nat
  /-- 0 FETCHING, 1 CLEAN, 2 DIRTY, 3 WRITING_BACK, 4 WRITING_BACK and modified again. -/
  state : Nat
  /-- Leaf: MAJOR then MINOR[0..31]; internal: COUNTER[0..7]. -/
  counters : List Nat
  lastUse : Nat
  /-- Write-back or repair copies not yet acknowledged: bit 0 primary, bit 1 mirror. -/
  acks : Nat
  /-- Migration shadow (R167): OLD_MAJOR, MOVED[0..31], and the lines whose MINOR was 0xFFF at the switch-in and which
  have not been written under the new MAJOR. -/
  shadow : Option (Nat × List Bool × List Bool)
deriving DecidableEq, Repr

/-- A walk (R164). -/
structure Walk where
  slot : Nat
  leaf : Nat
  /-- Level of the node fetched next or awaited. -/
  level : Nat
  prefetch : Bool
  /-- Virtual lane its fetches travel on. -/
  vl : Nat
  /-- The mirror has been tried for the node awaited, and whether the primary copy was bad (not silent). -/
  mirrorTried : Bool
  primaryBad : Bool
  /-- Nodes fetched below it, held until they can be verified: (level, bytes). -/
  heldNodes : List (Nat × Bytes)
deriving DecidableEq, Repr

/-- The tally island. -/
structure Tally where
  regions : Tbl Region
  nodes : List Node
  walks : List Walk
  /-- The region's previous walk, for sequential prefetch (R164): slot → leaf. -/
  lastWalk : Tbl Nat
  /-- Line-write table (R165): (slot, line), and the mesh request or descriptor that waits. -/
  lineWrites : List (Nat × Nat)
  /-- Queued span migrations: (slot, leaf). -/
  migrations : List (Nat × Nat)
  /-- Damage list (R171): (slot, level, index), oldest first, and the count of dropped records. -/
  damage : List (Nat × Nat × Nat)
  damageDropped : Nat
  useClock : Nat
  scrubNext : Nat
  /-- Tick of the last scrub (R172). -/
  lastScrub : Nat
deriving DecidableEq, Repr

/-! ### The fabric (R204 to R242) -/

/-- A route-table entry (R206). -/
structure Route where
  base : Nat
  mask : Nat
  ports : Nat
  valid : Bool
  epoch : Nat
deriving DecidableEq, Repr

/-- A peer-table entry (R218): endpoint, INC_KNOWN, ERA, last use. -/
structure Peer where
  ep : Nat
  inc : Option Nat
  era : Nat
  lastUse : Nat
deriving DecidableEq, Repr

/-- What an outstanding fabric request serves. -/
inductive FabPurpose where
  /-- Lines of an inbound mesh request: the request, its first line. -/
  | meshRead (req first : Nat)
  | meshWrite (req first : Nat)
  /-- The read of a partial write (R166): request and line. -/
  | meshRmw (req line : Nat)
  | meshAtomic (req : Nat)
  /-- A node fetch of a walk or scrub: slot, leaf of the walk, level, from the mirror. -/
  | walk (slot leaf level : Nat) (mirror : Bool)
  | scrub (slot level index : Nat) (mirror : Bool)
  | probe (slot : Nat)
  /-- A write-back or repair of a node: slot, level, index, to the mirror, repair. -/
  | writeBack (slot level index : Nat) (mirror repair : Bool)
  /-- Step 3 of a span migration: read, then write, of a line. -/
  | moveRead (slot line : Nat)
  | moveWrite (slot line : Nat)
  /-- Ownership: the claim of a creation, its resolution by OWN_READ, a release, the same at the mirror. -/
  | claim (slot : Nat)
  | claimRead (slot : Nat)
  /-- The release, and what the same change at the mirror needs: its endpoint (0 none) and region. -/
  | release (slot mep mreg : Nat)
  | mirrorOwn (slot : Nat)
  /-- Hand-over: the acceptor's OWN_CAS, the offerer's OWN_CAS at its timeout, the acceptor's OWN_READ. -/
  | acceptCas (slot : Nat)
  | offerCas (slot : Nat)
  | resolveRead (slot : Nat)
  | hoOffer (slot : Nat)
deriving DecidableEq, Repr

/-- An outstanding fabric request (R214), held under its TAG. -/
structure FabReq where
  seq : Nat
  msg : Nat
  dst : Nat
  vl : Nat
  era : Option Nat
  port : Nat
  epoch : Nat
  hdr : BitVec 256
  body : Bytes
  partition : Nat
  /-- Source (SRC_ID, partition) and its fence generation (R227). -/
  source : Option (Nat × Nat × Nat)
  /-- Its place in the order in which its source's writes and atomics were accepted. -/
  order : Nat
  ordered : Bool
  purpose : FabPurpose
  firstTick : Nat
  lastSend : Nat
  /-- It waits for a LINKED port of its route (R216). -/
  unsent : Bool
deriving DecidableEq, Repr

/-- A source of fabric requests (R224, R225, R227): writes and atomics not completed in each generation, the first
failure of the generation (order of acceptance, status), and the fences outstanding (port, request number,
generation closed). -/
structure FabSource where
  srcId : Nat
  partition : Nat
  gen : Nat
  counts : List Nat
  fails : List (Option (Nat × Nat))
  accepted : Nat
  fences : List (Nat × Nat)
  /-- The last response that completed one of them: endpoint, TAG, SEQ (R472). -/
  last : Option (Nat × Nat × Nat)
deriving DecidableEq, Repr

/-- A fault record (R217). -/
structure FabFault where
  dst : Nat
  partition : Nat
  status : Nat
  offset : Nat
deriving DecidableEq, Repr

/-- A tray region record (R220) with its ACCESS_KEY. -/
structure TrayRegion where
  /-- 1 FREE, 2 OWNED; UNPROVISIONED records are not listed. -/
  state : Nat
  checked : Bool
  ordered : Bool
  sizeLog2 : Nat
  ownerEp : Nat
  epoch : Nat
  ownerJob : Nat
  cellBase : Nat
  cells : Nat
  dataBase : Nat
  metaBase : Nat
  key : Nat
deriving DecidableEq, Repr

/-- A replay entry (R232): TAG, SEQ, the recorded response (status, body) and the tick it was sent. -/
structure Replay where
  tag : Nat
  seq : Nat
  msg : Nat
  status : Nat
  body : Bytes
  tick : Nat
deriving DecidableEq, Repr

/-- The tray's memory as it stores it: bytes by address (canonical form, see Machine/Memory.lean), and the lines and
nodes that return POISON. -/
structure Tray where
  regions : Tbl TrayRegion
  /-- Cell values, unlisted cells zero. -/
  cells : Tbl (BitVec 64)
  /-- Replay sets by source endpoint. -/
  replay : Tbl (List Replay)
  mem : List Host.Cell
  poison : List Nat
deriving DecidableEq, Repr

/-- An offer under way at the offerer (R238): the descriptor, acceptor, step, token, epoch. -/
structure Offer where
  slot : Nat
  desc : Nat
  acceptor : Nat
  vl : Nat
  step : Nat
  token : Bytes
  epoch : Nat
  sentTick : Nat
  /-- Status the descriptor completes with instead, after a reset (R240, R461). -/
  forced : Option Nat
  /-- The region is released when the resolution ends in the offerer's favour (R240). -/
  doomed : Bool
deriving DecidableEq, Repr

/-- An entry of the offer table (R239): an HO_OFFER received, a HANDOVER_ACCEPT posted, or both. -/
structure OfferEntry where
  offerer : Nat
  /-- TAG, SEQ, virtual lane and token of the offer. -/
  offer : Option (Nat × Nat × Nat × Bytes)
  /-- Descriptor and partition of the acceptance. -/
  accept : Option (Nat × Nat)
  tick : Nat
  /-- The root slot taken once they have met. -/
  slot : Option Nat
  forced : Option Nat
deriving DecidableEq, Repr

/-- A token held without knowing the owner (R241): the slot, offerer or acceptor, the expected epoch. -/
structure HeldToken where
  slot : Nat
  offerer : Bool
  peer : Nat
  epoch : Nat
  newKey : Nat
  lastTry : Nat
  /-- The virtual lane of its offer. -/
  vl : Nat
  /-- The replay entry of the acceptor's OWN_CAS is lost: it asks with OWN_READ (R241). -/
  lost : Bool
deriving DecidableEq, Repr

/-- The fabric requester and, in the tray profile, the target. -/
structure Fabric where
  routes : Tbl Route
  peers : List Peer
  out : Tbl FabReq
  /-- SEQ of the next request (R211). -/
  seq : Nat
  sources : List FabSource
  /-- FABRIC_FAULTS, oldest first, and the records overwritten. -/
  faults : List FabFault
  overwritten : Nat
  useClock : Nat
  offers : List Offer
  offerTable : List OfferEntry
  tokens : List HeldToken
  /-- HANDOVERS: completed, refused, unresolved, resolved. -/
  handovers : List Nat
  tray : Tray
deriving DecidableEq, Repr

/-! ### Links (R175 to R203) -/

/-- The sequences of one hop-key epoch (R180, R184): its pin handle, the next group and control sequences sent (the
control sequence less 2^63), the next group sequence expected and the next control sequence expected (less 2^63). -/
structure EpochSeq where
  epoch : Nat
  pin : Nat
  txGroup : Nat
  txCtrl : Nat
  rxGroup : Nat
  rxCtrl : Nat
deriving DecidableEq, Repr

/-- A group in the replay buffer (R185): epoch, sequence, flits as first sent, whether it is a credit group. -/
structure Sent where
  epoch : Nat
  seq : Nat
  flits : List Bytes
  credit : Bool
  /-- The first 32 plaintext bytes, which name a plait's step (R195). -/
  head : Bytes
deriving DecidableEq, Repr

/-- A group, or a CLEAR flit, that waits to be sent: its virtual lane, KEYMODE (R176), destination, source, plaintext
and, for REGION_PASS, its lines. -/
structure TxGroup where
  vl : Nat
  keymode : Nat
  dst : Nat
  src : Nat
  body : Bytes
  lines : List PoolLine
  cmark : Bool
deriving DecidableEq, Repr

/-- A stitch handshake under way (R197 to R200): step reached (0 step 1 waits for the key DRBG, 1 HELLO sent, 2 roles fixed, 3 KEY_SHARE_I sent, 4
KEY_SHARE_R sent, 5 epoch 1 derived and FINISH sent), the messages that enter the transcripts, the ephemeral seed and
the transcript hashes. -/
structure Stitch where
  step : Nat
  initiator : Bool
  myHello : Bytes
  hello : Bytes
  seed : Bytes
  keyShare : Bytes
  t3 : Bytes
  /-- Tick since which the partner's next message is awaited. -/
  since : Nat
  /-- A FINISH received before epoch 1 was held (R200). -/
  early : Option Bytes
  /-- CHARTER_HASH differed: the handshake waits for its restart (R202). -/
  mismatch : Bool
deriving DecidableEq, Repr

/-- A VL0 message being assembled from its segments (R183): type, count, next index, bytes. -/
structure SegAsm where
  mtype : Nat
  count : Nat
  next : Nat
  bytes : Bytes
deriving DecidableEq, Repr

/-- A re-key under way (R201): the epoch, REKEY sent and at which tick, resends made, the two messages sent and
received. -/
structure Rekey where
  epoch : Nat
  sentTick : Nat
  resends : Nat
  sent : Bool
  got : Bool
  /-- The transmit direction, and the receive direction, have switched. -/
  txSwitched : Bool
  rxSwitched : Bool
deriving DecidableEq, Repr

/-- The link partner (R196): endpoint, port, the role that the block itself had in the handshake (0 initiator, 1
responder), certificate hash. -/
structure Partner where
  ep : Nat
  port : Nat
  role : Nat
  certHash : Bytes
deriving DecidableEq, Repr

/-- A link flit port. -/
structure Link where
  /-- 0 DISABLED, 1 TRAINING, 2 CLEAR, 3 STITCHING, 4 LINKED, 5 HOLD, 6 QUARANTINED (R193). -/
  state : Nat
  phyUp : Bool
  phyEn : Bool
  reason : Nat
  /-- Sequences of the epochs held; the first is the current transmit epoch. -/
  epochs : List EpochSeq
  /-- Initiator of the stitch handshake (ROLE of R180). -/
  initiator : Bool
  /-- Held-store slot of the stitch secret (R198). -/
  secretSlot : Option Nat
  replay : List Sent
  /-- The gap for which a NAK has been sent (R185). -/
  nakFor : Option Nat
  nakPending : Bool
  /-- Groups that wait for credits, for room in the replay buffer, or for a re-key, oldest first. -/
  queue : List TxGroup
  /-- An acknowledgement change, an acceptance, not yet carried by a flit. -/
  ackDue : Bool
  /-- Credits to be returned, by virtual lane; credits held for sending; credits the partner holds. -/
  owe : List Nat
  credits : List Nat
  partnerCredits : List Nat
  stitch : Option Stitch
  asm : Option SegAsm
  rekey : Option Rekey
  partner : Option Partner
  /-- Ticks of tag failures and of protocol errors in the window (R202, R466). -/
  tagTicks : List Nat
  protoTicks : List Nat
  /-- Consecutive stitch failures; consecutive resends of the oldest group; tick of the last progress. -/
  stitchFails : Nat
  resends : Nat
  progressTick : Nat
  /-- Allotments in effect since the last entry to TRAINING (R203). -/
  allot : List Nat
  /-- REGION_PASS groups announced (R213): COUNT_M1 of the message that did, by virtual lane. -/
  announced : Tbl Nat
  /-- LINK_COUNTERS, in the order of object 0xB040. -/
  counters : List Nat
deriving DecidableEq, Repr

/-- A congestion-table entry (R192): rate in 1/64ths, tick of the last halving, of the last recovery. -/
structure Cong where
  rate : Nat
  halved : Nat
  raised : Nat
deriving DecidableEq, Repr

/-- The link islands: the ports, the congestion table by destination, the echoes due and the tick each source was last
echoed (R191). -/
structure Links where
  ports : Tbl Link
  cong : Tbl Cong
  echoDue : Tbl Nat
  echoed : Tbl Nat
deriving DecidableEq, Repr

/-! ### Plaits (R243 to R277) -/

/-- A number as the plait stage holds it: NaN (with the sign of a converted value, none after arithmetic), an infinity
(negative), m × 2^e, or −0. -/
inductive Num where
  | nan (sign : Option Bool)
  | inf (neg : Bool)
  | fin (m : Int) (e : Int)
  | negZero
deriving DecidableEq, Repr

/-- One element's accumulator: exact (R256), or the compensated pair of R258. -/
structure Acc where
  s : Num
  c : Num
  /-- A finite contribution has overflowed the pair (R258). -/
  wide : Bool
deriving DecidableEq, Repr

/-- An accumulator slot (R246, R267): the chunk it holds, who has contributed (endpoint, 0 the own leaf), leaf
contributions folded in, SAT, one accumulator per element (none: no contribution yet), the scale exponents seen in each
block (R257), and the TAGs of sparse entries by index. -/
structure Slotted where
  chunk : Nat
  from_ : List Nat
  contrib : Nat
  sat : Bool
  acc : List (Option Acc)
  scales : List (List Int)
  tags : Tbl Nat
  /-- PART 0 of a two-part sparse chunk has arrived from these children (R254). -/
  half : List Nat
deriving DecidableEq, Repr

/-- A plait message held for a step the leaf has not started (R270). -/
structure PHeld where
  srcEp : Nat
  hdr : BitVec 256
  data : Bytes
deriving DecidableEq, Repr

/-- A running step of a plait (R266 to R270). -/
structure PStep where
  step : Nat
  join : Nat
  startTick : Nat
  /-- Its timeout in ticks, as it was when the step started (R273, R277). -/
  limit : Nat
  /-- The leaf's descriptor, none while only messages have started the step. -/
  desc : Option Nat
  sat : Bool
  slots : List Slotted
  /-- Members ready (endpoint, 0 the own leaf) and leaves ready; PL_GO seen (R267). -/
  ready : List Nat
  leavesReady : Nat
  go : Bool
  /-- Next chunk that the own leaf sends up. -/
  nextUp : Nat
  /-- Downward messages accepted: rank, chunk, part (0 and 1 for the parts of a split chunk, 2 for a whole one). -/
  down : List (Nat × Nat × Nat)
  /-- Chunks seen of GATHER and FILTER on their way up: rank, chunk, CONTRIB. -/
  seen : List (Nat × Nat × Nat)
  held : List PHeld
  /-- What has been read of the own leaf's source, whether a sparse list has passed its checks (R249), and the status of
  a read that failed behind it. -/
  source : Bytes
  listed : Bool
  rfail : Option Nat
  /-- The SPARSE_SUM list has been handed to the destination. -/
  closed : Bool
  /-- SPARSE_SUM entries received for the destination, by chunk × 2 + part: how many, and their bytes. -/
  list : Tbl (Nat × Bytes)
deriving DecidableEq, Repr

/-- A plait record (R244): the 320 bytes written, the running step, the last step ended, the last step that a
descriptor of the own leaf started, and the scratch regions (bobbin × 16 + region) of each slot. -/
structure Plait where
  bytes : Bytes
  run : Option PStep
  last : Option Nat
  leafStep : Option Nat
  slots : List (List Nat)
deriving DecidableEq, Repr

/-! ### Contexts, queues, memory objects and events (R278 to R315) -/

/-- A context (R280) with its settings (R315). -/
structure Ctx where
  /-- 1 ACTIVE, 2 FAULTED, 3 RESETTING, 4 DESTROYING; a FREE context is not listed. -/
  state : Nat
  partition : Nat
  pasid : Nat
  faultReason : Nat
  ownerProc : Nat
  resets : Nat
  /-- Completion slots that could not be written, oldest first (R312). -/
  overflow : List Bytes
  /-- Slots go to the overflow ring since the first failed slot write (R312). -/
  spill : Bool
  intrBase : Nat
  intrLog2 : Nat
  msiAddr : Nat
  msiData : Nat
  faultEvent : Nat
  faultRecord : Bytes
  intrSeq : Nat
  /-- BOUNCE pins (handles, 0 none): host to device, device to host, and their sequence floors (R309). -/
  bouncePins : List Nat
  floors : List Nat
  /-- Pattern sequence floor (R322). -/
  patFloor : Nat
deriving DecidableEq, Repr

/-- A queue (R294). -/
structure Queue where
  /-- 0 IDLE, 1 ARMED, 2 HALTED, 3 EXHAUSTED. -/
  state : Nat
  keyPin : Nat
  /-- The key value, kept until the last slot under it has been sealed (R305). -/
  key : Bytes
  ringBase : Nat
  ringLog2 : Nat
  complBase : Nat
  doorbell : Nat
  aliveNext : Nat
  consumer : Nat
  producer : Nat
  rejects : Nat
  /-- The refusal of R300 has been recorded. -/
  refused : Bool
  /-- A fetch is outstanding. -/
  fetching : Bool
deriving DecidableEq, Repr

/-- A memory object (R283). Its DEV_COUNT counts the references R286 names. -/
structure MemObj where
  /-- 0 FREE, 1 LIVE, 2 DYING, 3 DETACHED; a FREE entry keeps its GEN. -/
  state : Nat
  kind : Nat
  read : Bool
  write : Bool
  ctx : Nat
  partition : Nat
  gen : Nat
  base : Nat
  length : Nat
  kidx : Nat
  dev : Nat
  host : Nat
deriving DecidableEq, Repr

/-- An event (R289). -/
structure Event where
  /-- 0 FREE, 1 UNSIGNALLED, 2 SIGNALLED, 3 DETACHED; a FREE entry keeps its GEN. -/
  state : Nat
  hostSignal : Bool
  shared : Bool
  intr : Bool
  orphan : Bool
  dying : Bool
  sigStatus : Nat
  ctx : Nat
  partition : Nat
  gen : Nat
  signallers : Nat
  dev : Nat
  host : Nat
  cookie : Nat
  /-- Who signalled it last: island and local sequence of the signaller's record (R472). -/
  sigIsland : Nat
  sigLseq : Nat
deriving DecidableEq, Repr

/-- A descriptor fetched and not completed, or an executing pattern node (R298 to R303, R331): its queue (context × 4
+ queue), number, alive value, plaintext, the key it was verified under, whether it has started, and for a node its
launch record (pattern × 16 + record), node and chain. -/
structure Desc where
  queue : Nat
  seq : Nat
  alive : Nat
  bytes : Bytes
  key : Bytes
  /-- It verified with another ALIVE: completes MALFORMED (R298). -/
  badAlive : Bool
  started : Bool
  startTick : Nat
  /-- Handles it holds references on: memory objects, events, events it can signal. -/
  objs : List Nat
  evs : List Nat
  node : Option (Nat × Nat × Nat)
  /-- Its work has ended: status, RESULT, FAULT_HANDLE, FAULT_OFFSET. -/
  outcome : Option (Nat × Nat × Nat × Nat)
  /-- Launch record started by a LAUNCH descriptor. -/
  launch : Option Nat
  /-- Order in which it started (R290, R329), 0 before. -/
  order : Nat
  /-- Handle of the BOUNCE pin it started under (R309), 0 before. -/
  pin : Nat
deriving DecidableEq, Repr

/-- The start scheduler (R333): the place in the round of weights 4, 2 and 1, and, by priority × 64 + partition, the
deficit left, then the partition served last by priority, the context served last by priority × 64 + partition, and
the chain candidate served last by priority × 1,024 + context. -/
structure Sched where
  place : Nat
  deficit : Tbl Nat
  lastPart : Tbl Nat
  lastCtx : Tbl Nat
  lastChain : Tbl Nat
deriving DecidableEq, Repr

/-- What an access of a transfer gave: its status, how many of its bytes lie below the lowest line that failed, and what
a read gave from the first byte of its first line. -/
structure Got where
  st : Nat
  good : Nat
  data : Bytes
deriving DecidableEq, Repr

/-- An access that a transfer has made: handle, offset and length, its place in its first line, its answer once it has
come. -/
structure Access where
  handle : Nat
  off : Nat
  len : Nat
  write : Bool
  lead : Nat
  got : Option Got
deriving DecidableEq, Repr

/-- A transfer of a descriptor, a node or a service unit's job (R303, R308, R398, R402): the source of R224 it acts for,
what its fabric requests carry (virtual lane, ACCESS_KEY, FLAG), the PASID of its HOST accesses; how many of its pieces
it has dealt with; what is still to be read (handle, offset, length) and written (handle, offset, bytes), what has been
read, the access under way; and where a read and a write failed (status, handle, offset). -/
structure XferRun where
  src : Nat
  vl : Nat
  key : Nat
  flag : Bool
  pasid : Option Nat
  pos : Nat
  reads : List (Nat × Nat × Nat)
  writes : List (Nat × Nat × Bytes)
  buf : Bytes
  acc : Option Access
  rfail : Option (Nat × Nat × Nat)
  wfail : Option (Nat × Nat × Nat)
deriving DecidableEq, Repr

/-- The host channel. -/
structure HostCh where
  ctxs : Tbl Ctx
  queues : Tbl Queue
  objs : Tbl MemObj
  events : Tbl Event
  descs : Tbl Desc
  nextDesc : Nat
  /-- Transfers under way, by descriptor or job. -/
  xfers : Tbl XferRun
  /-- EVENT_QUERY_SEL of each partition window (R291). -/
  querySel : Tbl Nat
  /-- Starts made so far, and the start scheduler (R333). -/
  starts : Nat
  sched : Sched
deriving DecidableEq, Repr

/-! ### Patterns (R316 to R335) -/

/-- A directory entry (R317) with its image and pending parameter block. -/
structure Pattern where
  /-- 0 FREE, 1 LOADING, 2 READY, 3 REPLACING. -/
  state : Nat
  ctx : Nat
  partition : Nat
  chainsM1 : Nat
  chainPrio : Nat
  nodes : Nat
  frameBase : Nat
  paramSeq : Nat
  event : Nat
  launches : Nat
  entry : List Nat
  /-- The node frames, 64 B each (R318). -/
  image : Bytes
  /-- The pending parameter block (R327). -/
  params : List Nat
  /-- Fixed references (R325): memory objects, events, events it can signal. -/
  objs : List Nat
  evs : List Nat
  sigs : List Nat
deriving DecidableEq, Repr

/-- A launch record in use (R330), held under pattern × 16 + record: its descriptor, the snapshot, and for each chain
the next node to start (none at its end). -/
structure Launch where
  /-- 1 LIVE, 2 ENDING. -/
  state : Nat
  qid : Nat
  desc : Nat
  launchNo : Nat
  fences : Nat
  paramSeq : Nat
  params : List Nat
  first : Option (Nat × Nat)
  satSeen : Bool
  chains : List (Option Nat)
  /-- FAULT_HANDLE and FAULT_OFFSET of the first failing node (R332). -/
  faultHandle : Nat
  faultOffset : Nat
deriving DecidableEq, Repr

/-- A pattern load under way (R323): pattern, image address, writing session, bytes of the image fetched so far, and
the bytes wanted (0 until the header has given NODES), the extent taken. -/
structure Load where
  pattern : Nat
  addr : Nat
  sess : Nat
  got : Bytes
  want : Nat
  base : Option Nat
  /-- The host-to-device BOUNCE pin of the context when the header was checked (R323). -/
  pin : Nat
deriving DecidableEq, Repr

/-- The pattern store. -/
structure Patterns where
  dir : Tbl Pattern
  launches : Tbl Launch
  loads : Tbl Load
  nextLoad : Nat
  /-- LAUNCH descriptors that wait for a record or for a load, in the order in which they started (R329). -/
  waiting : List Nat
deriving DecidableEq, Repr

/-- An armed dump (R477). -/
structure DumpEnt where
  nameHash : Nat
  step : Nat
  partition : Nat
  sealNo : Nat
  oneShot : Bool
  raw : Bytes
deriving DecidableEq, Repr

/-! ### The block -/

/-- One Kamez block. -/
structure State where
  cfg : KzConfig
  /-- Static inputs as sampled (R80). -/
  pins : StaticPins
  seq : Seq
  always : AlwaysOn
  power : Power
  tap : Tap
  fuses : Fuses
  flash : Flash
  fw : Fw
  lc : Lc
  keys : Keys
  dict : Dict
  recovery : Recovery
  log : TackLog
  dumps : Tbl DumpEnt
  tension : Tension
  parts : Tbl Partition
  sources : Tbl Source
  domain : Domain
  gang : Gang
  shuttle : Shuttle
  purl : Purl
  ports : Ports
  tally : Tally
  fabric : Fabric
  links : Links
  plaits : Tbl Plait
  host : HostCh
  patterns : Patterns
  /-- Tick of the last snapshot (R355). -/
  interval : Nat
  /-- Settings and counters of the object dictionary, by index × 256 + subindex; an unlisted one holds its default. -/
  od : Tbl Nat
  /-- Management ticks since power-on (R14). -/
  tick : Nat
  /-- What has left the block, newest first: the model's own record. -/
  out : List Out
  /-- Commands waiting, first in, first out. -/
  pending : List Instr
  /-- The model's own counter of free values (log entry 3). -/
  free : Nat
deriving DecidableEq, Repr

/-! ### The state after power-on reset

Every register is at the value the spec gives for reset. A new block: no fuse is blown, the flash window is empty
(log entry 4). -/

/-- The reset sequencer at step 0 of R434. -/
def Seq.reset : Seq where
  phase := 0
  basting := 0
  measured := false
  tried := []
  mgmtReset := true
  lastMgmtCause := 0
  tamperHold := false
  since := 0
  deferred := none
  held := false
  halted := false

/-- Supply, clocks and pads: KZ_PFAIL_N high and not yet counted, KZ_REFCLK present, no port enabled (R52, R87, R94). -/
def Power.reset : Power where
  puEn := 0x3F
  pfailLow := false
  holdupArmed := false
  pfailHighSince := 0
  quiescing := false
  quiesced := false
  refclk := true
  recalibrations := 0
  period := []
  throttle := 0
  retention := false
  enabled := []
  stopped := []
  ctlRdy := []

/-- Nothing sensed yet: LC_WORD and the root state as a new block's fuses give them (R101, R446). -/
def Fuses.reset : Fuses where
  words := []
  rootState := 0
  corrected := 0
  root := []
  serial := 0
  lcWord := 0
  wipes := 0
  floor := 0
  signer := []
  blow := none

def Flash.reset : Flash where
  slots := []
  identity := []
  banks := []
  user := []
  reqs := []

/-- No image runs and nothing is staged (R442 to R445, R453). -/
def Fw.reset : Fw where
  active := 0xFF
  status := 0
  total := 0
  staged := []
  checking := false
  staged_ok := false
  step := 0
  restoring := none
  epoch := 0
  version := []
  passed := []
  slotRows := []
  aliasIssued := false

/-- A pricking with no pins (R109, R114): the root pins appear at start-up. -/
def Keys.reset : Keys where
  pins := []
  held := []
  kidx := []
  cache := []
  missQueue := []
  inval := []
  invalWaiting := []
  useClock := 0
  keyDrbg := { live := false, requests := 0 }
  roundDrbg := { live := false, requests := 0 }
  entropy := 0
  entropyFails := 0
  entropyFailTick := 0
  fwMeasurement := []
  seedPending := 0
  inc := none

/-- A mailbox at its reset values (R421). -/
def Mailbox.reset : Mailbox where
  reqLen := 0
  kind := 0
  state := 0
  donePend := false
  rspLen := 0
  completed := 0
  msiAddr := 0
  msiData := 0
  reqBuf := []
  rspBuf := []

def Dict.reset : Dict where
  i3cQ := []
  vl0Q := []
  mailQ := []
  debugQ := []
  asm := []
  i3cAddr := 0
  i3cEid := 0
  mailbox := Mailbox.reset
  debugBox := Mailbox.reset
  perSession := []

def Recovery.reset : Recovery where
  hbRunning := false
  hbWritten := false
  hbMisses := 0
  hbSince := 0
  hang := []
  records := []
  recordNo := 0
  ticks := []
  inWindow := 0
  runs := []
  consent := false
  quarantined := false
  last := []

def TackLog.reset : TackLog where
  recs := []
  lseq := []
  state := 0
  triggerIndex := 0
  postLeft := 0

def Tension.reset : Tension where
  units := []
  nextUnit := 0
  held := []
  ticketsOut := []
  grants := []
  streams := []
  pillows := []
  backlog := []
  roundKeys := []
  scratch := []
  bookedNodes := 0
  closed := false
  turns := []
  admitted := []
  delayed := []
  wrr := []
  drr := []
  lastPort := []

def Domain.reset : Domain where
  memberSlot := none
  sampleNo := 0
  sampleState := 0
  nonce := []
  store := []
  memberCert := []
  sessions := []
  nextSession := 1
  stagedTotal := 0
  staged := []
  charter := none
  pending := 0
  status := 0
  state := 0
  memberIndex := 0xFFFF
  carries := []
  lastCarry := []
  activationWaits := false

def Gang.reset : Gang where
  aUp := false
  bUp := false
  aBroken := false
  bBroken := false
  panel := 0
  members := []
  unacked := []
  nextFrame := 0
  nextSeq := 1
  seen := []
  heldSeed := []
  since := 0

def Shuttle.reset : Shuttle where
  owner := none
  ticket := 0
  leaseLeft := 0
  waiting := []
  lastHolder := 0
  regs := []
  state := 0
  status := 0
  refs := []
  job := 0

def Purl.reset : Purl where
  parts := []
  running := none
  startTick := 0
  refs := []
  job := []
  xfer := 0

def Ports.reset : Ports where
  granted := []
  owned := []
  inReqs := []
  nextIn := 0
  heldReqs := []
  heldMarks := []
  outReqs := []
  memReads := []
  merge := []
  waitOut := []
  interleave := 0

def Tally.reset : Tally where
  regions := []
  nodes := []
  walks := []
  lastWalk := []
  lineWrites := []
  migrations := []
  damage := []
  damageDropped := 0
  useClock := 0
  scrubNext := 0
  lastScrub := 0

def Fabric.reset : Fabric where
  routes := []
  peers := []
  out := []
  seq := 0
  sources := []
  faults := []
  overwritten := 0
  useClock := 0
  offers := []
  offerTable := []
  tokens := []
  handovers := [0, 0, 0, 0]
  tray := { regions := [], cells := [], replay := [], mem := [], poison := [] }

def Links.reset : Links where
  ports := []
  cong := []
  echoDue := []
  echoed := []

def HostCh.reset : HostCh where
  ctxs := []
  queues := []
  objs := []
  events := []
  descs := []
  nextDesc := 0
  xfers := []
  querySel := []
  starts := 0
  sched := { place := 0, deficit := [], lastPart := [], lastCtx := [], lastChain := [] }

def Patterns.reset : Patterns where
  dir := []
  launches := []
  loads := []
  nextLoad := 0
  waiting := []

/-- The block right after power-on reset (R430, R432, R434): the largest configuration of R6 (log entry 5), the
accelerator profile's static inputs not yet sampled, START_COUNT 1. -/
def State.reset : State where
  cfg := .kz1024
  pins := { profile := 0, gangSize := 0, gangId := 0, flWin := 0, i3cSa := 0, jep106 := 0 }
  seq := Seq.reset
  always := { lastResetCause := 1, startCount := 1, failedStarts := 0, tamperEvents := 0, quarantined := false }
  power := Power.reset
  tap := { sel := 0, dr := 0 }
  fuses := Fuses.reset
  flash := Flash.reset
  fw := Fw.reset
  lc := { progress := 0, target := 0, req := none }
  keys := Keys.reset
  dict := Dict.reset
  recovery := Recovery.reset
  log := TackLog.reset
  dumps := []
  tension := Tension.reset
  parts := []
  sources := []
  domain := Domain.reset
  gang := Gang.reset
  shuttle := Shuttle.reset
  purl := Purl.reset
  ports := Ports.reset
  tally := Tally.reset
  fabric := Fabric.reset
  links := Links.reset
  plaits := []
  host := HostCh.reset
  patterns := Patterns.reset
  interval := 0
  od := []
  tick := 0
  out := []
  pending := []
  free := 0

end Sys2Proof.Machine
end

