-- ==== Sys2Proof/Machine/Memory.lean ====
section
/-! DEFINITION. The tray's byte memory (R151, R223): a list of (address, byte) cells in one canonical form. -/

namespace Sys2Proof.Machine

/-- What an address that nothing has written reads as (log entry 12). -/
def unlisted : Byte := 0

/-- The canonical form above an address: addresses strictly rising, no cell equal to the unlisted value. -/
def Memory.wfFrom : Nat → List Host.Cell → Bool
  | _, [] => true
  | lo, c :: cs => decide (lo ≤ c.1) && c.2 != unlisted && Memory.wfFrom (c.1 + 1) cs

/-- The canonical form. -/
def Memory.wf (m : List Host.Cell) : Bool := Memory.wfFrom 0 m

/-- Read one byte. -/
def Memory.read : List Host.Cell → Nat → Byte
  | [], _ => unlisted
  | c :: cs, a => if c.1 = a then c.2 else Memory.read cs a

/-- Write one byte; writing the unlisted value removes the cell. -/
def Memory.write : List Host.Cell → Nat → Byte → List Host.Cell
  | [], a, b => if b = unlisted then [] else [(a, b)]
  | c :: cs, a, b =>
    if a < c.1 then (if b = unlisted then c :: cs else (a, b) :: c :: cs)
    else if a = c.1 then (if b = unlisted then cs else (a, b) :: cs)
    else c :: Memory.write cs a b

/-- Read `n` bytes, lowest address first. -/
def Memory.readN (m : List Host.Cell) (a n : Nat) : Bytes := (List.range n).map fun k => Memory.read m (a + k)

/-- Write bytes, lowest address first. -/
def Memory.writeN : List Host.Cell → Nat → Bytes → List Host.Cell
  | m, _, [] => m
  | m, a, b :: bs => Memory.writeN (Memory.write m a b) (a + 1) bs

end Sys2Proof.Machine
end

