-- ==== Sys2Proof/Machine/Sizes.lean ====
section
/-! DEFINITION. The sizes of a configuration (R6, R8), the fixed table sizes (R7, R483), the completion status codes
(R307) and the abort codes (R413). -/

namespace Sys2Proof.Machine

/-- BOBBINS. -/
def bobbinsOf : KzConfig → Nat
  | .kz8 => 8 | .kz32 => 32 | .kz128 => 128 | .kz256 => 256 | .kz512 => 512 | .kz1024 => 1024
/-- PILLOWS. -/
def pillowsOf : KzConfig → Nat
  | .kz8 => 1 | .kz32 => 1 | .kz128 => 4 | .kz256 => 8 | .kz512 => 16 | .kz1024 => 32
/-- LAST_PILLOW_BOBBINS. -/
def lastPillowOf : KzConfig → Nat
  | .kz8 => 8 | _ => 32
/-- CLOCK_ISLANDS: eight fixed islands and one per pillow. -/
def islandsOf (c : KzConfig) : Nat := 8 + pillowsOf c
/-- MESH_PORTS. -/
def meshPortsOf : KzConfig → Nat
  | .kz8 => 2 | .kz32 => 4 | .kz128 => 8 | .kz256 => 16 | .kz512 => 24 | .kz1024 => 32
/-- MEMORY_PORTS. -/
def memPortsOf : KzConfig → Nat
  | .kz8 => 1 | .kz32 => 2 | .kz128 => 4 | .kz256 => 8 | .kz512 => 12 | .kz1024 => 16
/-- LINK_FLIT_PORTS. -/
def linkPortsOf : KzConfig → Nat
  | .kz8 => 2 | .kz32 => 4 | .kz128 => 8 | .kz256 => 12 | .kz512 => 18 | .kz1024 => 18
/-- CONTEXTS. -/
def contextsOf : KzConfig → Nat
  | .kz8 => 64 | .kz32 => 128 | .kz128 => 256 | .kz256 => 512 | .kz512 => 1024 | .kz1024 => 1024
/-- PARTITIONS. -/
def partitionsOf : KzConfig → Nat
  | .kz8 => 4 | .kz32 => 8 | .kz128 => 16 | .kz256 => 32 | .kz512 => 64 | .kz1024 => 64
/-- CONFIG_NAME. -/
def configNameOf : KzConfig → String
  | .kz8 => "KZ-8" | .kz32 => "KZ-32" | .kz128 => "KZ-128" | .kz256 => "KZ-256" | .kz512 => "KZ-512"
  | .kz1024 => "KZ-1024"

/-! ### Completion status codes (R307) -/
def stDone : Nat := 0x00
def stStale : Nat := 0x01
def stDenied : Nat := 0x02
def stTargetDead : Nat := 0x03
def stIntegrity : Nat := 0x04
def stUnknown : Nat := 0x05
def stContextReset : Nat := 0x06
def stTableFull : Nat := 0x07
def stPatternBusy : Nat := 0x08
def stAbandoned : Nat := 0x09
def stPoisoned : Nat := 0x0A
def stOrphaned : Nat := 0x0B
def stPeerGone : Nat := 0x0C
def stReplayed : Nat := 0x0D
def stMalformed : Nat := 0x0E
def stKeyGone : Nat := 0x0F
def stAborted : Nat := 0x10
def stSaturated : Nat := 0x11
def stTimeout : Nat := 0x12

/-! ### Abort codes (R413) -/
def abNoObject : Nat := 0x0101
def abNoSub : Nat := 0x0102
def abAccess : Nat := 0x0201
def abWriteOnly : Nat := 0x0202
def abReadOnly : Nat := 0x0203
def abType : Nat := 0x0301
def abRange : Nat := 0x0302
def abBusy : Nat := 0x0401
def abState : Nat := 0x0402
def abAuth : Nat := 0x0501

/-- Object number: index × 256 + subindex. -/
def obj (idx sub : Nat) : Nat := idx * 256 + sub

end Sys2Proof.Machine
end

