-- ==== Sys2Proof/Machine/Ops.lean ====
section
/-! DEFINITION. The shared operations: outputs, object values, free values and draws, the tacking log, the questions
that many rules ask of the block, and the secure functions of R113 and R298. -/

namespace Sys2Proof.Machine

/-! ### Outputs, free values, draws -/

/-- Hand something over at a port. -/
def emit (o : Out) (s : State) : State := { s with out := o :: s.out }

/-- The next free value and the state that has used it up (log entry 3). -/
def freshNat (s : State) : Nat × State := (Config.freeNat s.free, { s with free := s.free + 1 })

/-- `n` free bytes (log entry 3). -/
def freshBytes (n : Nat) (s : State) : Bytes × State :=
  (le n (Config.freeNat s.free), { s with free := s.free + 1 })

/-- A random draw of `len` bytes (log entry 2). -/
def draw (len : Nat) (s : State) : Bytes × State := (Config.drawn len s.free, { s with free := s.free + 1 })

/-! ### Objects of the dictionary held as numbers -/

/-- The default of a setting whose default is not 0 (Default column of the object listings). -/
def defaultOf (k : Nat) : Nat :=
  if k / 256 = 0x7401 then 16
  else if k / 256 = 0x4004 then 1
  else if k / 256 = 0x4007 then
    [0, 16, 64, 96, 96, 128, 32, 32, 32].getD (k % 256) 0
  else if k = obj 0x2101 3 then 0xFFFF
  else if k = obj 0x3000 1 then 4032
  else if k = obj 0x3000 2 then 2
  else if k = obj 0x3000 3 then 1
  else if k = obj 0x3000 5 then 1000
  else if k = obj 0x3101 2 then 0xFFFF
  else if k = obj 0x4000 1 then 2 ^ 40
  else if k = obj 0x4000 2 then 50000
  else if k = obj 0x4000 3 then 3
  else if k = obj 0x4000 4 then 100
  else if k = obj 0x4000 5 then 8
  else if k = obj 0x4000 6 then 1000000
  else if k = obj 0x4000 7 then 16
  else if k = obj 0x4000 8 then 64
  else if k = obj 0x4000 9 then 16
  else if k = obj 0x4000 0xA then 64
  else if k = obj 0x4000 0xB then 50
  else if k = obj 0x4000 0xC then 10
  else if k = obj 0x5000 2 then 20000
  else if k = obj 0x5000 3 then 2000
  else if k = obj 0x5000 4 then 64
  else if k = obj 0x5000 5 then 1000000
  else if k = obj 0x5000 6 then 500000
  else if k = obj 0x5101 3 then 200000
  else if k = obj 0x6000 1 then 100000
  else if k = obj 0x7002 1 then 10000
  else if k = obj 0x7101 3 then 0xFFFF
  else if k = obj 0x8020 7 then 10000
  else if k = obj 0xA000 1 then 5000
  else if k = obj 0xA000 2 then 8
  else if k = obj 0xA000 3 then 10000000
  else if k = obj 0xA020 2 then 1
  else if k = obj 0xA020 3 then 0x0F
  else if k = obj 0xA020 4 then 1
  else if k = obj 0xA020 6 then 1024
  else if k = obj 0xC000 1 then 50000
  else if k = obj 0xC010 1 then 1000000
  else 0

/-- The value of a stored object. -/
def setting (s : State) (idx sub : Nat) : Nat := tgetD s.od (obj idx sub) (defaultOf (obj idx sub))

/-- Store an object's value. -/
def setOd (idx sub v : Nat) (s : State) : State := { s with od := tput s.od (obj idx sub) v }

/-- Advance a counter by `n`. Counters are held without a bound and read modulo their width (R412). -/
def countBy (idx sub n : Nat) (s : State) : State := setOd idx sub (setting s idx sub + n) s

/-- Advance a counter by one. -/
def count (idx sub : Nat) (s : State) : State := countBy idx sub 1 s

/-- A per-session object of a session (0 the mailbox, k + 1 SPDM session k) (R425). -/
def perSession (s : State) (sess idx sub : Nat) : Nat :=
  tgetD s.dict.perSession (sess * 2 ^ 24 + obj idx sub) (defaultOf (obj idx sub))

/-- Set a per-session object. -/
def setPerSession (sess idx sub v : Nat) (s : State) : State :=
  { s with dict.perSession := tput s.dict.perSession (sess * 2 ^ 24 + obj idx sub) v }

/-- Discard a session's objects (R425). -/
def dropSession (sess : Nat) (s : State) : State :=
  { s with dict.perSession := s.dict.perSession.filter fun e => e.1 / 2 ^ 24 != sess }

/-- The session number of a request: 0 for the mailbox, k + 1 for SPDM session k, none outside a session (R425). -/
def sessOf (r : OdReq) : Option Nat :=
  match r.sess with
  | some k => some (k + 1)
  | none => if r.path = .mailbox then some 0 else none

/-- Set a per-session object for the session of a request, if it has one. -/
def setMine (r : OdReq) (idx sub v : Nat) (s : State) : State :=
  match sessOf r with
  | some k => setPerSession k idx sub v s
  | none => s

/-! ### What the block is -/

/-- Profile sampled at start-up: 0 accelerator, 1 switch, 2 tray, 3 invalid (R1). -/
def profile (s : State) : Nat := s.pins.profile.toNat

/-- A thermometer word: one plus the index of its highest blown bit, 0 when none is blown (R103). -/
def thermometer (w : Nat) : Nat := if w = 0 then 0 else Nat.log2 w + 1

/-- The eight-bit groups of LC_WORD blown from the lowest upward, when the pattern is legal (R446). -/
def lcGroups (w : Nat) : Option Nat := (List.range 7).find? fun n => w == 2 ^ (8 * n) - 1

/-- LC_STATE (R446): 0 OPEN for an even number of groups, 1 CLOSED for an odd number below 6, 2 LOCKED. -/
def lcState (s : State) : Nat :=
  match lcGroups s.fuses.lcWord with
  | some n => if n % 2 = 0 then 0 else 1
  | none => 2

/-- The block is in basting mode (R438). -/
def basting (s : State) : Bool := s.seq.basting != 0

/-- Firmware runs: start-up step 8 has been passed and the management island is out of reset (R434, R435). -/
def firmwareUp (s : State) : Bool := s.seq.phase ≥ 8 && !s.seq.mgmtReset && !basting s

/-- The dictionary engine serves requests: firmware runs, or basting serves the I3C sideband (R408, R439). -/
def engineUp (s : State) : Bool := firmwareUp s || (basting s && s.seq.phase ≥ 1)

/-- Start-up is complete (R435 step 10): data ports may be used. -/
def running (s : State) : Bool := s.seq.phase ≥ 10

/-- The life-cycle state is OPEN (R446). -/
def isOpen (s : State) : Bool := lcState s == 0

/-! ### The tacking log (R472 to R475) -/

/-- Bits of CLASS_MASK for a record type; none for those always logged (R473). -/
def tackClass : Nat → Option Nat
  | 1 => some 0
  | 2 => some 0
  | 3 => some 1
  | 4 => some 2
  | 5 => some 3
  | _ => none

/-- A record of this type is logged (R473, R474). -/
def tackOn (rtype : Nat) (s : State) : Bool :=
  setting s 0xA020 1 == 1 &&
    match tackClass rtype with
    | some b => tbit (setting s 0xA020 3) b
    | none => true

/-- Records the log holds. -/
def logCapacity : Nat := 65536

/-- Put a record into the log as LOG_MODE and LOG_STATE say (R474): 2 FULL and 4 FROZEN drop it; a full log that
wraps loses its oldest record; one that stops is FULL with its last record; POST_TRIGGER counts down to FROZEN. -/
def logPut (r : BitVec 256) (s : State) : State :=
  let l := s.log
  if l.state = 4 || l.state = 2 then count 0xA020 0xA s
  else if l.recs.length ≥ logCapacity && setting s 0xA020 2 = 0 then
    count 0xA020 0xA { s with log.state := 2 }
  else
    let full := decide (l.recs.length ≥ logCapacity)
    let kept := if full then l.recs.drop 1 else l.recs
    let idx := if full && l.state = 3 then l.triggerIndex - 1 else l.triggerIndex
    let left := if l.state = 3 then l.postLeft - 1 else l.postLeft
    let filled := setting s 0xA020 2 = 0 && l.recs.length + 1 ≥ logCapacity
    let st := if l.state = 3 && left = 0 then 4 else if filled then 2 else l.state
    let s := if full then count 0xA020 0xA s else s
    { s with log := { l with recs := kept ++ [r], state := st, triggerIndex := idx, postLeft := left } }

/-- A tacking record's fields (R472). -/
structure Tack where
  rtype : Nat
  island : Nat
  partition : Nat
  context : Nat
  object : Nat
  sigIsland : Nat
  sigEp : Nat
  sigLseq : Nat
  detail : Nat
deriving DecidableEq, Repr

/-- The 256 bits of a record with its LSEQ (R472). -/
def tackWord (t : Tack) (lseq : Nat) : BitVec 256 :=
  BitVec.ofNat 256 (pack [(4, t.rtype), (6, t.island), (6, t.partition), (10, t.context), (6, 0), (32, lseq),
    (64, t.object), (6, t.sigIsland), (10, 0), (16, t.sigEp), (32, t.sigLseq), (64, t.detail)])

/-- The LSEQ the island's next record takes. -/
def nextLseq (s : State) (island : Nat) : Nat := tgetD s.log.lseq island 0 % 2 ^ 32

/-- Write a record when its type is logged. -/
def tackRaw (t : Tack) (s : State) : State :=
  if tackOn t.rtype s then
    let n := nextLseq s t.island
    logPut (tackWord t n) { s with log.lseq := tput s.log.lseq t.island (n + 1) }
  else s

/-- A trigger from source bit `src` (R475): acts only in TRIGGER_FREEZE mode while LOG_STATE is RUNNING. -/
def trigger (src : Nat) (s : State) : State :=
  if setting s 0xA020 1 = 1 && setting s 0xA020 2 = 2 && s.log.state = 1 && tbit (setting s 0xA020 4) src then
    let s := tackRaw { rtype := 7, island := 0, partition := 0, context := 0, object := 2 ^ src, sigIsland := 0x3E,
                       sigEp := 0, sigLseq := 0, detail := 0 } s
    let post := setting s 0xA020 6
    { s with log.state := if post = 0 then 4 else 3, log.triggerIndex := s.log.recs.length - 1,
             log.postLeft := post }
  else s

/-- Write a record, and trigger on its OBJECT (R473, R475). -/
def tack (t : Tack) (s : State) : State :=
  if tackOn t.rtype s then
    let s := tackRaw t s
    if t.object = setting s 0xA020 5 then trigger 3 s else s
  else s

/-! ### Key derivation and sealing (R113, R298) -/

/-- The host-port island of an event, the trace and the management islands (R29). -/
def mgmtIsland : Nat := 0

/-- The bytes of a bit vector, little-endian. -/
def bvBytes {w : Nat} (n : Nat) (v : BitVec w) : Bytes := le n v.toNat

end Sys2Proof.Machine
end

