-- ==== Sys2Proof/Machine/Beats.lean ====
section
/-! DEFINITION. Beats and credits at the ports (R52 to R54), and the outbound requests of the mesh ports (R58, R62,
R282). -/

namespace Sys2Proof.Machine

/-- The credits listed for a port and class. -/
def creditOf (l : List (PortId × Nat × Nat)) (p : PortId) (c : Nat) : Nat :=
  match l.find? fun e => e.1 == p && e.2.1 == c with
  | some e => e.2.2
  | none => 0

/-- Set the credits of a port and class. -/
def creditSet (l : List (PortId × Nat × Nat)) (p : PortId) (c n : Nat) : List (PortId × Nat × Nat) :=
  (p, c, n) :: l.filter fun e => !(e.1 == p && e.2.1 == c)

/-- The port's enable is high and its clock runs (R52, R87). -/
def portUp (s : State) (p : PortId) : Bool := s.power.enabled.contains p && !s.power.stopped.contains p

/-- Send a message of `n` beats on a class of a port, or let it wait for credits behind the earlier ones (R53). A
message goes when the block holds a credit for each of its beats (log entry 6). -/
def sendBeats (p : PortId) (c n : Nat) (o : Out) (s : State) : State :=
  let have_ := creditOf s.ports.owned p c
  if portUp s p && n ≤ have_ && !(s.ports.waitOut.any fun w => w.1 == p && w.2.1 == c) then
    emit o { s with ports.owned := creditSet s.ports.owned p c (have_ - n) }
  else { s with ports.waitOut := s.ports.waitOut ++ [(p, c, n, o)] }

/-- Offer each waiting message its credits again, in order. -/
def flushWaiting (s : State) : State :=
  each s.ports.waitOut (fun w s => sendBeats w.1 w.2.1 w.2.2.1 w.2.2.2 s) { s with ports.waitOut := [] }

/-- Drop what waits at a port whose enable has fallen (R54). -/
def dropWaiting (p : PortId) (s : State) : State :=
  { s with ports.waitOut := s.ports.waitOut.filter fun w => !(w.1 == p),
           ports.owned := s.ports.owned.filter fun e => !(e.1 == p),
           ports.granted := s.ports.granted.filter fun e => !(e.1 == p) }

/-- Beats of a message with `len` bytes of data: 128 B a beat, at least one (R56). -/
def beatsOf (len : Nat) : Nat := Nat.max 1 (ceilDiv len 128)

/-- The mesh port an outbound request takes: the lowest-numbered one that holds the credits, else port 0
(log entry 6). -/
def outPort (s : State) (beats : Nat) : Nat :=
  ((List.range (meshPortsOf s.cfg)).find? fun n =>
    portUp s (.mesh n) && decide (beats ≤ creditOf s.ports.owned (.mesh n) 1)).getD 0

/-- Issue an outbound mesh request (R62): take the lowest free tag, record what waits for the response, send it on
class 1 REQ. -/
def meshIssue (purpose : MeshPurpose) (addr len : Nat) (write : Bool) (pasid : Option Nat) (data : Bytes)
    (s : State) : State :=
  let beats := if write then beatsOf len else 1
  let n := outPort s beats
  let tag := (lowestFree s.ports.outReqs 65536 0).getD 0
  let req : OutReq := { port := n, purpose := purpose, addr := addr, len := len, write := write, pasid := pasid,
                        issueTick := s.tick }
  sendBeats (.mesh n) 1 beats (.meshReq n tag write addr len pasid data)
    { s with ports.outReqs := tput s.ports.outReqs tag req }

/-- Answer an inbound mesh request on class 0 RSP (R59). -/
def meshAnswer (port opc src tag status : Nat) (poison : Bool) (data : Bytes) (s : State) : State :=
  sendBeats (.mesh port) 0 (beatsOf data.length) (.meshRsp port opc src tag status poison data) s

/-- A message-signalled interrupt: 4 B written without PASID; none when the address is 0 (R292, R422). -/
def sendMsi (addr data : Nat) (s : State) : State :=
  if addr = 0 then s else meshIssue .msi addr 4 true none (le 4 data) s

end Sys2Proof.Machine
end

