-- ==== Sys2Proof/Machine/Mgmt.lean ====
section
/-! DEFINITION. The link flit ports as the rest of the block sees them, and VL0 messages in segments (R183, R193, R205,
R420). -/

namespace Sys2Proof.Machine

/-! ### Ports (R193) -/

/-- A port at reset: DISABLED. -/
def noLink : Link :=
  { state := 0, phyUp := false, phyEn := false, reason := 0, epochs := [], initiator := false, secretSlot := none,
    replay := [], nakFor := none, nakPending := false, queue := [], ackDue := false, owe := List.replicate 8 0,
    credits := List.replicate 8 0, partnerCredits := List.replicate 8 0, stitch := none, asm := none, rekey := none,
    partner := none, tagTicks := [], protoTicks := [], stitchFails := 0, resends := 0, progressTick := 0,
    allot := [], announced := [], counters := List.replicate 20 0 }

def linkAt (s : State) (p : Nat) : Link := tgetD s.links.ports p noLink

def setLink (p : Nat) (f : Link → Link) (s : State) : State :=
  { s with links.ports := tput s.links.ports p (f (linkAt s p)) }

/-- The port is LINKED. -/
def linked (s : State) (p : Nat) : Bool := (linkAt s p).state == 4

/-- The block's own endpoint (R205). -/
def ownEndpoint (s : State) : Nat := setting s 0x5000 1

/-! ### VL0 messages (R183) -/

/-- A byte string in pieces of `n`. -/
def chunks (n : Nat) : Nat → Bytes → List Bytes
  | 0, _ => []
  | fuel + 1, bs => if bs.isEmpty then [] else bs.take n :: chunks n fuel (bs.drop n)

/-- The segments of a VL0 message (R183). -/
def segments (mtype room : Nat) (m : Bytes) : List Bytes :=
  let cs := chunks room 128 m
  (List.range cs.length).map fun i =>
    let c := cs.getD i []
    le 1 mtype ++ [0] ++ le 2 i ++ le 2 cs.length ++ le 2 c.length ++ c

/-- Put a VL0 message for an endpoint in the port's queue: HOP groups in LINKED, CLEAR flits before it, which go to the
link partner only. -/
def queueMgmtTo (p src dst mtype : Nat) (m : Bytes) (s : State) : State :=
  let hop := linked s p
  let gs := (segments mtype (if hop then 936 else 216) m).map fun b =>
    { vl := 0, keymode := if hop then 0 else 2, dst := if hop then dst else 0xFFFF, src := src, body := b, lines := [],
      cmark := false : TxGroup }
  emit (.linkMsg p mtype m) (setLink p (fun x => { x with queue := x.queue ++ gs }) s)

/-- A VL0 message of the block to its link partner. -/
def queueMgmt (p mtype : Nat) (m : Bytes) (s : State) : State := queueMgmtTo p (ownEndpoint s) 0xFFFF mtype m s

end Sys2Proof.Machine
end

