-- ==== Sys2Proof/Machine/Objects.lean ====
section
/-! DEFINITION. The objects of the dictionary as the spec lists them (R429 and the object listings of every chapter):
for each index its profiles, and for each run of subindices its type, length, access class, range, direction and
whether it is held per session. -/

namespace Sys2Proof.Machine

/-- A run of subindices of one index: first subindex, how many, type code (R409), bytes in a message, access class
(0 PUB, 1 MGR, 2 OPR, 3 FW), range, direction (0 read and write, 1 read-only, 2 write-only), held per session
(R425). -/
structure ObjRow where
  sub : Nat
  n : Nat
  ty : Nat
  len : Nat
  cls : Nat
  lo : Nat
  hi : Nat
  dir : Nat
  mine : Bool
deriving DecidableEq, Repr

/-- One index: its profiles (bit 0 accelerator, bit 1 switch, bit 2 tray), and its rows. -/
structure ObjIndex where
  idx : Nat
  profiles : Nat
  rows : List ObjRow
deriving DecidableEq, Repr

/-- Indices 0x1000 to 0x2100. -/
def objIndices0 : List ObjIndex := [
  ⟨0x1000, 7, [
    ⟨1, 1, 8, 16, 0, 0, 0, 1, false⟩,  -- VENDOR_NAME
    ⟨2, 1, 8, 8, 0, 0, 18446744073709551615, 1, false⟩,  -- PRODUCT_NAME
    ⟨3, 1, 2, 1, 0, 0, 255, 1, false⟩,  -- BLOCK_REVISION
    ⟨4, 1, 4, 4, 0, 0, 4294967295, 1, false⟩,  -- VENDOR_IANA
    ⟨5, 1, 8, 32, 0, 0, 0, 1, false⟩,  -- FW_VERSION
    ⟨6, 1, 2, 1, 0, 0, 255, 1, false⟩,  -- FW_EPOCH
    ⟨7, 1, 9, 0, 0, 0, 0, 1, false⟩,  -- DEVICEID_CERT
    ⟨8, 1, 9, 0, 0, 0, 0, 1, false⟩,  -- ALIAS_CERT
    ⟨9, 1, 3, 2, 0, 0, 65535, 1, false⟩  -- OD_VERSION
    ]⟩,
  ⟨0x1001, 7, [
    ⟨1, 1, 3, 2, 0, 0, 65535, 1, false⟩,  -- MAX_MESSAGE
    ⟨2, 1, 2, 1, 0, 0, 255, 1, false⟩,  -- QUEUE_DEPTH
    ⟨3, 1, 2, 1, 0, 0, 255, 1, false⟩,  -- I3C_ADDRESS
    ⟨4, 1, 2, 1, 0, 0, 255, 1, false⟩,  -- I3C_EID
    ⟨5, 1, 2, 1, 1, 0, 254, 0, false⟩  -- VL0_EID
    ]⟩,
  ⟨0x1002, 7, [
    ⟨1, 1, 6, 4, 2, 0, 4294967295, 1, false⟩  -- JUNCTION_TEMP
    ]⟩,
  ⟨0x1010, 7, [
    ⟨1, 1, 3, 2, 0, 0, 65535, 1, false⟩,  -- BOBBINS
    ⟨2, 1, 2, 1, 0, 0, 255, 1, false⟩,  -- PILLOWS
    ⟨3, 1, 2, 1, 0, 0, 255, 1, false⟩,  -- LAST_PILLOW_BOBBINS
    ⟨4, 1, 2, 1, 0, 0, 255, 1, false⟩,  -- CLOCK_ISLANDS
    ⟨5, 1, 2, 1, 0, 0, 255, 1, false⟩,  -- MESH_PORTS
    ⟨6, 1, 2, 1, 0, 0, 255, 1, false⟩,  -- MEMORY_PORTS
    ⟨7, 1, 2, 1, 0, 0, 255, 1, false⟩,  -- LINK_FLIT_PORTS
    ⟨8, 1, 2, 1, 0, 0, 255, 1, false⟩,  -- LINK_LANES
    ⟨9, 1, 3, 2, 0, 0, 65535, 1, false⟩,  -- CONTEXTS
    ⟨10, 1, 2, 1, 0, 0, 255, 1, false⟩,  -- PARTITIONS
    ⟨11, 1, 3, 2, 0, 0, 65535, 1, false⟩,  -- TALLY_ROOTS
    ⟨12, 1, 3, 2, 0, 0, 65535, 1, false⟩,  -- KEY_INDICES
    ⟨13, 1, 3, 2, 0, 0, 65535, 1, false⟩,  -- PIN_CACHE
    ⟨14, 1, 8, 8, 0, 0, 18446744073709551615, 1, false⟩  -- CONFIG_NAME
    ]⟩,
  ⟨0x1011, 7, [
    ⟨0, 1, 2, 1, 0, 0, 255, 1, false⟩  -- PROFILE
    ]⟩,
  ⟨0x1013, 7, [
    ⟨1, 1, 2, 1, 0, 0, 255, 1, false⟩,  -- PANEL_SIZE
    ⟨2, 1, 2, 1, 0, 0, 255, 1, false⟩,  -- MEMBER_ID
    ⟨3, 1, 2, 1, 0, 0, 255, 1, false⟩,  -- PANEL_STATE
    ⟨4, 1, 1, 1, 0, 0, 1, 1, false⟩,  -- GANG_A_UP
    ⟨5, 1, 1, 1, 0, 0, 1, 1, false⟩  -- GANG_B_UP
    ]⟩,
  ⟨0x2000, 7, [
    ⟨1, 1, 4, 4, 1, 0, 4294967295, 1, false⟩,  -- PINS_LIVE
    ⟨2, 1, 3, 2, 1, 0, 65535, 1, false⟩,  -- HELD_USED
    ⟨3, 1, 5, 8, 2, 0, 18446744073709551615, 1, false⟩,  -- CACHE_MISSES
    ⟨4, 1, 5, 8, 2, 0, 18446744073709551615, 1, false⟩,  -- DERIVATIONS
    ⟨5, 1, 5, 8, 1, 0, 18446744073709551615, 1, false⟩,  -- KEY_GONE_COUNT
    ⟨6, 1, 4, 4, 1, 0, 4294967295, 1, false⟩,  -- INVALIDATIONS
    ⟨7, 1, 2, 1, 1, 0, 255, 1, false⟩,  -- INVALIDATE_ACTIVE
    ⟨8, 1, 4, 4, 0, 0, 4294967295, 1, false⟩,  -- PIN_TABLE_SIZE
    ⟨9, 1, 5, 8, 2, 0, 18446744073709551615, 1, false⟩  -- UNWRAP_FAILS
    ]⟩,
  ⟨0x2001, 7, [
    ⟨1, 1, 2, 1, 0, 0, 255, 1, false⟩,  -- ROOT_STATE
    ⟨2, 1, 5, 8, 0, 0, 18446744073709551615, 1, false⟩,  -- DEVICE_SERIAL
    ⟨3, 1, 2, 1, 0, 0, 255, 1, false⟩,  -- FW_EPOCH_FLOOR
    ⟨4, 1, 2, 1, 0, 0, 255, 1, false⟩,  -- STORAGE_WIPES
    ⟨5, 1, 7, 48, 0, 0, 0, 1, false⟩,  -- FW_SIGNER_DIGEST
    ⟨6, 1, 2, 1, 2, 0, 255, 1, false⟩  -- FUSE_CORRECTED
    ]⟩,
  ⟨0x2002, 7, [
    ⟨1, 1, 4, 4, 1, 0, 4294967295, 2, false⟩,  -- PIN_INVALIDATE
    ⟨2, 1, 2, 1, 1, 0, 1, 0, false⟩,  -- INVALIDATE_MODE
    ⟨3, 1, 3, 2, 2, 0, 65535, 0, true⟩,  -- PIN_RECORD_SELECT
    ⟨4, 1, 7, 24, 2, 0, 0, 1, false⟩  -- PIN_RECORD
    ]⟩,
  ⟨0x2003, 7, [
    ⟨1, 1, 3, 2, 2, 0, 65535, 2, false⟩,  -- USER_FLASH_WIPE
    ⟨2, 1, 2, 1, 2, 0, 255, 2, false⟩  -- RAISE_EPOCH_FLOOR
    ]⟩,
  ⟨0x2030, 7, [
    ⟨1, 1, 2, 1, 0, 0, 255, 1, false⟩,  -- ENTROPY_STATE
    ⟨2, 1, 4, 4, 2, 0, 4294967295, 1, false⟩,  -- RCT_FAILS
    ⟨3, 1, 4, 4, 2, 0, 4294967295, 1, false⟩,  -- APT_FAILS
    ⟨4, 1, 5, 8, 2, 0, 18446744073709551615, 1, false⟩,  -- DRBG_RESEEDS
    ⟨5, 1, 7, 128, 2, 0, 0, 1, false⟩,  -- RAW_SAMPLE
    ⟨6, 1, 2, 1, 2, 0, 255, 1, false⟩  -- STARTUP_RETRIES
    ]⟩,
  ⟨0x2100, 3, [
    ⟨0, 1, 11, 0, 1, 0, 0, 1, false⟩  -- KEY_INDEX_TABLE
    ]⟩
  ]

/-- Indices 0x2101 to 0x4006. -/
def objIndices1 : List ObjIndex := [
  ⟨0x2101, 3, [
    ⟨1, 1, 4, 4, 1, 0, 4294967295, 2, false⟩,  -- KIDX_BIND
    ⟨2, 1, 3, 2, 1, 0, 65535, 2, false⟩,  -- KIDX_UNBIND
    ⟨3, 1, 3, 2, 1, 0, 65535, 1, true⟩,  -- LAST_KIDX
    ⟨4, 1, 3, 2, 1, 0, 65535, 1, false⟩  -- KIDX_FREE
    ]⟩,
  ⟨0x3000, 3, [
    ⟨1, 1, 3, 2, 1, 2048, 4094, 0, false⟩,  -- REKEY_THRESHOLD
    ⟨2, 1, 2, 1, 1, 1, 4, 0, false⟩,  -- PREFETCH_DEPTH
    ⟨3, 1, 1, 1, 1, 0, 1, 0, false⟩,  -- SEQ_PREFETCH
    ⟨4, 1, 10, 4, 1, 0, 1000000, 0, false⟩,  -- SCRUB_INTERVAL
    ⟨5, 1, 10, 4, 1, 100, 100000, 0, false⟩,  -- TRAY_RETRY
    ⟨6, 1, 2, 1, 1, 0, 1, 0, false⟩,  -- MEM_INTERLEAVE
    ⟨7, 1, 3, 2, 0, 0, 65535, 1, false⟩,  -- TALLY_CACHE_ENTRIES
    ⟨8, 1, 1, 1, 1, 0, 1, 2, false⟩,  -- TALLY_FLUSH
    ⟨9, 1, 3, 2, 1, 0, 65535, 1, false⟩,  -- DIRTY_NODES
    ⟨10, 1, 2, 1, 0, 0, 255, 1, false⟩  -- MEM_INTERLEAVE_ACTIVE
    ]⟩,
  ⟨0x3100, 1, [
    ⟨0, 1, 11, 0, 1, 0, 0, 1, false⟩  -- REGION_TABLE
    ]⟩,
  ⟨0x3101, 1, [
    ⟨1, 1, 7, 16, 1, 0, 0, 2, false⟩,  -- REGION_CREATE
    ⟨2, 1, 3, 2, 1, 0, 65535, 1, true⟩,  -- LAST_REGION
    ⟨3, 1, 3, 2, 1, 0, 65535, 2, false⟩,  -- REGION_RELEASE
    ⟨4, 1, 3, 2, 1, 0, 65535, 1, false⟩,  -- ROOTS_FREE
    ⟨5, 1, 2, 1, 1, 0, 255, 1, true⟩  -- LAST_CREATE_STATUS
    ]⟩,
  ⟨0x3102, 1, [
    ⟨0, 1, 11, 0, 1, 0, 0, 1, false⟩  -- DAMAGE_LIST
    ]⟩,
  ⟨0x4000, 7, [
    ⟨1, 1, 5, 8, 1, 2097152, 1099511627776, 0, false⟩,  -- REKEY_GROUPS
    ⟨2, 1, 10, 4, 1, 5000, 1000000, 0, false⟩,  -- STITCH_TIMEOUT
    ⟨3, 1, 2, 1, 1, 1, 16, 0, false⟩,  -- STITCH_RETRIES
    ⟨4, 1, 10, 4, 1, 10, 10000, 0, false⟩,  -- ACK_TIMEOUT
    ⟨5, 1, 2, 1, 1, 2, 64, 0, false⟩,  -- REPLAY_LIMIT
    ⟨6, 1, 10, 4, 1, 10000, 100000000, 0, false⟩,  -- VIOLATION_WINDOW
    ⟨7, 1, 3, 2, 1, 1, 1024, 0, false⟩,  -- TAG_REKEY_LIMIT
    ⟨8, 1, 3, 2, 1, 1, 4096, 0, false⟩,  -- TAG_QUARANTINE_LIMIT
    ⟨9, 1, 3, 2, 1, 1, 4096, 0, false⟩,  -- PROTO_QUARANTINE_LIMIT
    ⟨10, 1, 2, 1, 1, 1, 127, 0, false⟩,  -- CMARK_DEPTH
    ⟨11, 1, 10, 4, 1, 10, 10000, 0, false⟩,  -- CMARK_HOLDOFF
    ⟨12, 1, 10, 4, 1, 1, 1000, 0, false⟩  -- CMARK_RECOVERY
    ]⟩,
  ⟨0x4001, 7, [
    ⟨1, 18, 2, 1, 0, 0, 255, 1, false⟩  -- LINK_STATE
    ]⟩,
  ⟨0x4002, 7, [
    ⟨1, 18, 2, 1, 1, 0, 255, 1, false⟩  -- QUARANTINE_REASON
    ]⟩,
  ⟨0x4003, 7, [
    ⟨1, 1, 2, 1, 1, 0, 255, 2, false⟩  -- LINK_RELEASE
    ]⟩,
  ⟨0x4004, 7, [
    ⟨1, 18, 2, 1, 1, 0, 1, 0, false⟩  -- LINK_ADMIN
    ]⟩,
  ⟨0x4005, 7, [
    ⟨1, 18, 4, 4, 1, 0, 4294967295, 1, false⟩  -- HOP_EPOCH
    ]⟩,
  ⟨0x4006, 7, [
    ⟨1, 1, 2, 1, 1, 0, 255, 2, false⟩  -- REKEY_NOW
    ]⟩
  ]

/-- Indices 0x4007 to 0x6000. -/
def objIndices2 : List ObjIndex := [
  ⟨0x4007, 7, [
    ⟨1, 8, 3, 2, 1, 1, 256, 0, false⟩  -- VL_CREDITS
    ]⟩,
  ⟨0x4008, 7, [
    ⟨0, 1, 11, 0, 1, 0, 0, 1, false⟩  -- PARTNER_TABLE
    ]⟩,
  ⟨0x5000, 7, [
    ⟨1, 1, 3, 2, 1, 1, 65534, 0, false⟩,  -- ENDPOINT_ID
    ⟨2, 1, 10, 4, 1, 2000, 1000000, 0, false⟩,  -- REMOTE_TIMEOUT
    ⟨3, 1, 10, 4, 1, 100, 500000, 0, false⟩,  -- ATOMIC_RETRY
    ⟨4, 1, 3, 2, 1, 0, 4096, 0, false⟩,  -- CLAIM_CELLS
    ⟨5, 1, 10, 4, 1, 100000, 100000000, 0, false⟩,  -- OFFER_TIMEOUT
    ⟨6, 1, 10, 4, 1, 10000, 50000000, 0, false⟩,  -- ACCEPT_WAIT
    ⟨7, 1, 4, 4, 1, 0, 4294967295, 1, false⟩,  -- OUTSTANDING
    ⟨8, 1, 3, 2, 1, 0, 65535, 1, false⟩,  -- SOURCES_USED
    ⟨9, 1, 4, 4, 0, 0, 4294967295, 1, false⟩  -- INC
    ]⟩,
  ⟨0x5001, 1, [
    ⟨0, 1, 11, 0, 1, 0, 0, 1, false⟩  -- REGION_ACCESS
    ]⟩,
  ⟨0x5002, 1, [
    ⟨1, 64, 3, 2, 1, 0, 65535, 0, false⟩  -- JOB_TAG
    ]⟩,
  ⟨0x5010, 7, [
    ⟨0, 1, 11, 0, 1, 0, 0, 1, false⟩  -- ROUTE_TABLE
    ]⟩,
  ⟨0x5011, 7, [
    ⟨1, 1, 7, 12, 1, 0, 0, 2, false⟩  -- ROUTE_WRITE
    ]⟩,
  ⟨0x5012, 7, [
    ⟨0, 1, 11, 0, 1, 0, 0, 1, false⟩  -- PEER_TABLE
    ]⟩,
  ⟨0x5020, 1, [
    ⟨0, 1, 11, 0, 1, 0, 0, 1, false⟩  -- FABRIC_FAULTS
    ]⟩,
  ⟨0x5100, 4, [
    ⟨0, 1, 11, 0, 1, 0, 0, 1, false⟩  -- TRAY_REGION_TABLE
    ]⟩,
  ⟨0x5101, 4, [
    ⟨1, 1, 7, 16, 1, 0, 0, 2, false⟩,  -- TRAY_REGION_PROVISION
    ⟨2, 1, 3, 2, 1, 0, 4095, 2, false⟩,  -- TRAY_REGION_RESET
    ⟨3, 1, 10, 4, 1, 200000, 10000000, 0, false⟩,  -- REPLAY_HOLD
    ⟨4, 1, 3, 2, 1, 0, 65535, 1, false⟩  -- CELLS_FREE
    ]⟩,
  ⟨0x6000, 3, [
    ⟨1, 1, 10, 4, 1, 1000, 10000000, 0, false⟩,  -- PLAIT_TIMEOUT
    ⟨2, 1, 3, 2, 0, 0, 65535, 1, false⟩,  -- PLAITS_MAX
    ⟨3, 1, 3, 2, 1, 0, 65535, 1, false⟩,  -- PLAITS_USED
    ⟨4, 1, 4, 4, 1, 0, 4294967295, 1, false⟩  -- SCRATCH_FREE
    ]⟩
  ]

/-- Indices 0x6010 to 0x7200. -/
def objIndices3 : List ObjIndex := [
  ⟨0x6010, 3, [
    ⟨0, 1, 11, 0, 1, 0, 0, 1, false⟩  -- PLAIT_TABLE
    ]⟩,
  ⟨0x6011, 3, [
    ⟨1, 1, 7, 320, 1, 0, 0, 2, false⟩,  -- PLAIT_CREATE
    ⟨2, 1, 3, 2, 1, 0, 65535, 2, false⟩  -- PLAIT_DELETE
    ]⟩,
  ⟨0x7000, 1, [
    ⟨1, 1, 4, 4, 0, 0, 4294967295, 1, false⟩,  -- MEMOBJS_MAX
    ⟨2, 1, 4, 4, 0, 0, 4294967295, 1, false⟩,  -- EVENTS_MAX
    ⟨3, 1, 4, 4, 1, 0, 4294967295, 1, false⟩,  -- MEMOBJS_USED
    ⟨4, 1, 4, 4, 1, 0, 4294967295, 1, false⟩,  -- EVENTS_USED
    ⟨5, 1, 3, 2, 1, 0, 65535, 1, false⟩,  -- CONTEXTS_USED
    ⟨6, 1, 2, 1, 0, 0, 255, 1, false⟩  -- INFLIGHT_PER_QUEUE
    ]⟩,
  ⟨0x7002, 7, [
    ⟨1, 1, 10, 4, 1, 1000, 1000000, 0, false⟩  -- MESH_RSP_TIMEOUT
    ]⟩,
  ⟨0x7100, 1, [
    ⟨0, 1, 11, 0, 1, 0, 0, 1, false⟩  -- CONTEXT_TABLE
    ]⟩,
  ⟨0x7101, 1, [
    ⟨1, 1, 7, 16, 1, 0, 0, 2, false⟩,  -- CONTEXT_CREATE
    ⟨2, 1, 3, 2, 1, 0, 65535, 2, false⟩,  -- CONTEXT_DESTROY
    ⟨3, 1, 3, 2, 1, 0, 65535, 1, true⟩,  -- LAST_CONTEXT
    ⟨4, 1, 3, 2, 1, 0, 65535, 2, false⟩,  -- CONTEXT_RESUME
    ⟨5, 1, 4, 4, 1, 0, 4294967295, 2, false⟩  -- PROCESS_RELEASE
    ]⟩,
  ⟨0x7103, 1, [
    ⟨1, 1, 3, 2, 1, 0, 65535, 0, true⟩  -- QUEUE_SELECT
    ]⟩,
  ⟨0x7104, 1, [
    ⟨1, 1, 2, 1, 1, 0, 255, 1, false⟩,  -- QUEUE_STATE
    ⟨2, 1, 4, 4, 1, 0, 4294967295, 1, false⟩,  -- QUEUE_KEY_PIN
    ⟨3, 1, 5, 8, 1, 0, 18446744073709551615, 0, false⟩,  -- RING_BASE
    ⟨4, 1, 2, 1, 1, 4, 16, 0, false⟩,  -- RING_LOG2
    ⟨5, 1, 5, 8, 1, 0, 18446744073709551615, 0, false⟩,  -- COMPL_BASE
    ⟨6, 1, 3, 2, 1, 0, 65535, 0, false⟩,  -- DOORBELL_SLOT
    ⟨7, 1, 4, 4, 1, 0, 4294967295, 1, false⟩,  -- ALIVE_NEXT
    ⟨8, 1, 4, 4, 1, 0, 4294967295, 1, false⟩,  -- CONSUMER
    ⟨9, 1, 4, 4, 1, 0, 4294967295, 1, false⟩,  -- PRODUCER
    ⟨10, 1, 1, 1, 1, 1, 1, 2, false⟩,  -- QUEUE_RESTART
    ⟨11, 1, 4, 4, 1, 0, 4294967295, 1, false⟩  -- REJECTS
    ]⟩,
  ⟨0x7105, 1, [
    ⟨1, 1, 5, 8, 1, 0, 18446744073709551615, 0, false⟩,  -- INTR_RING_BASE
    ⟨2, 1, 2, 1, 1, 4, 12, 0, false⟩,  -- INTR_RING_LOG2
    ⟨3, 1, 5, 8, 1, 0, 18446744073709551615, 0, false⟩,  -- MSI_ADDR
    ⟨4, 1, 4, 4, 1, 0, 4294967295, 0, false⟩,  -- MSI_DATA
    ⟨5, 1, 4, 4, 1, 0, 4294967295, 0, false⟩,  -- FAULT_EVENT
    ⟨6, 1, 7, 16, 1, 0, 0, 1, false⟩,  -- FAULT_RECORD
    ⟨7, 1, 2, 1, 1, 0, 255, 1, false⟩,  -- OVERFLOW_USED
    ⟨8, 1, 7, 64, 1, 0, 0, 1, false⟩,  -- OVERFLOW_POP
    ⟨9, 1, 7, 16, 1, 0, 0, 1, false⟩  -- BOUNCE_NEXT_SEQ
    ]⟩,
  ⟨0x7106, 1, [
    ⟨1, 1, 7, 32, 1, 0, 0, 2, false⟩,  -- MEMOBJ_CREATE
    ⟨2, 1, 4, 4, 1, 0, 4294967295, 1, true⟩,  -- LAST_HANDLE
    ⟨3, 1, 4, 4, 1, 0, 4294967295, 2, false⟩,  -- MEMOBJ_FREE
    ⟨4, 1, 4, 4, 1, 0, 4294967295, 2, false⟩,  -- MEMOBJ_HOST_REF
    ⟨5, 1, 4, 4, 1, 0, 4294967295, 0, true⟩,  -- MEMOBJ_SELECT
    ⟨6, 1, 7, 32, 1, 0, 0, 1, false⟩  -- MEMOBJ_RECORD
    ]⟩,
  ⟨0x7107, 1, [
    ⟨1, 1, 7, 16, 1, 0, 0, 2, false⟩,  -- EVENT_CREATE
    ⟨2, 1, 4, 4, 1, 0, 4294967295, 1, true⟩,  -- LAST_EVENT
    ⟨3, 1, 4, 4, 1, 0, 4294967295, 2, false⟩,  -- EVENT_FREE
    ⟨4, 1, 4, 4, 1, 0, 4294967295, 2, false⟩,  -- EVENT_HOST_REF
    ⟨5, 1, 4, 4, 1, 0, 4294967295, 0, true⟩,  -- EVENT_SELECT
    ⟨6, 1, 7, 24, 1, 0, 0, 1, false⟩  -- EVENT_RECORD
    ]⟩,
  ⟨0x7200, 1, [
    ⟨0, 1, 11, 0, 1, 0, 0, 1, false⟩  -- PATTERN_TABLE
    ]⟩
  ]

/-- Indices 0x7201 to 0x8010. -/
def objIndices4 : List ObjIndex := [
  ⟨0x7201, 1, [
    ⟨1, 1, 7, 16, 1, 0, 0, 2, false⟩,  -- PATTERN_LOAD
    ⟨2, 1, 2, 1, 1, 0, 255, 2, false⟩,  -- PATTERN_DELETE
    ⟨3, 1, 7, 168, 1, 0, 0, 2, false⟩,  -- PATTERN_PATCH
    ⟨4, 1, 2, 1, 1, 0, 255, 1, true⟩,  -- LAST_PATTERN_STATUS
    ⟨5, 1, 3, 2, 1, 0, 65535, 1, false⟩,  -- FRAMES_FREE
    ⟨6, 1, 3, 2, 1, 0, 65535, 1, false⟩,  -- LARGEST_EXTENT
    ⟨7, 1, 3, 2, 1, 0, 65535, 1, false⟩  -- PATTERNS_USED
    ]⟩,
  ⟨0x7202, 1, [
    ⟨0, 1, 11, 0, 1, 0, 0, 1, false⟩  -- PATTERN_SEQ_FLOOR
    ]⟩,
  ⟨0x7203, 1, [
    ⟨0, 1, 11, 0, 1, 0, 0, 1, false⟩  -- LAUNCH_TABLE
    ]⟩,
  ⟨0x7300, 1, [
    ⟨0, 1, 11, 0, 1, 0, 0, 1, false⟩  -- PARTITION_TABLE
    ]⟩,
  ⟨0x7301, 1, [
    ⟨1, 1, 7, 96, 1, 0, 0, 2, false⟩,  -- PARTITION_CREATE
    ⟨2, 1, 2, 1, 1, 0, 255, 2, false⟩,  -- PARTITION_RESET
    ⟨3, 1, 2, 1, 1, 0, 255, 2, false⟩,  -- PARTITION_REMOVE
    ⟨4, 1, 2, 1, 1, 0, 1, 0, false⟩,  -- TEARDOWN_MODE
    ⟨5, 1, 2, 1, 1, 0, 255, 1, false⟩  -- PARTITIONS_USED
    ]⟩,
  ⟨0x7302, 1, [
    ⟨0, 1, 11, 0, 1, 0, 0, 1, false⟩  -- SOURCE_MAP
    ]⟩,
  ⟨0x7303, 1, [
    ⟨1, 1, 7, 8, 1, 0, 18446744073709551615, 2, false⟩  -- SOURCE_WRITE
    ]⟩,
  ⟨0x7400, 1, [
    ⟨1, 64, 2, 1, 2, 0, 64, 0, false⟩  -- RESERVED_SLOTS
    ]⟩,
  ⟨0x7401, 1, [
    ⟨1, 64, 2, 1, 1, 1, 255, 0, false⟩  -- BOBBIN_SHARE
    ]⟩,
  ⟨0x8000, 7, [
    ⟨1, 1, 2, 1, 0, 0, 255, 1, false⟩,  -- DOMAIN_STATE
    ⟨2, 1, 5, 8, 0, 0, 18446744073709551615, 1, false⟩,  -- DOMAIN_SESSION
    ⟨3, 1, 4, 4, 0, 0, 4294967295, 1, false⟩,  -- CHARTER_SEQ
    ⟨4, 1, 7, 48, 0, 0, 0, 1, false⟩,  -- CHARTER_HASH
    ⟨5, 1, 3, 2, 0, 0, 65535, 1, false⟩,  -- MEMBER_INDEX
    ⟨6, 1, 4, 4, 0, 0, 4294967295, 1, false⟩,  -- RESETS_CONTEXT
    ⟨7, 1, 4, 4, 0, 0, 4294967295, 1, false⟩,  -- RESETS_PARTITION
    ⟨8, 1, 4, 4, 0, 0, 4294967295, 1, false⟩  -- RESETS_MANAGEMENT
    ]⟩,
  ⟨0x8001, 7, [
    ⟨1, 1, 7, 48, 0, 0, 0, 2, false⟩,  -- OWNER_CLAIM
    ⟨2, 1, 7, 48, 0, 0, 0, 1, false⟩,  -- OWNER_KEY_HASH
    ⟨3, 1, 2, 1, 0, 0, 255, 1, false⟩  -- IDENTITY_STATE
    ]⟩,
  ⟨0x8010, 7, [
    ⟨1, 1, 7, 32, 0, 0, 0, 2, false⟩,  -- SAMPLE_NONCE
    ⟨2, 1, 2, 1, 0, 0, 255, 1, false⟩,  -- SAMPLE_STATE
    ⟨3, 1, 4, 4, 0, 0, 4294967295, 1, false⟩,  -- SAMPLE_NO
    ⟨4, 1, 7, 48, 0, 0, 0, 1, false⟩  -- SAMPLE_DIGEST
    ]⟩
  ]

/-- Indices 0x8011 to 0xA010. -/
def objIndices5 : List ObjIndex := [
  ⟨0x8011, 7, [
    ⟨0, 1, 11, 0, 0, 0, 0, 1, false⟩  -- CERT_STORE
    ]⟩,
  ⟨0x8020, 7, [
    ⟨1, 1, 4, 4, 1, 0, 4294967295, 2, false⟩,  -- CHARTER_BEGIN
    ⟨2, 1, 7, 1032, 1, 0, 0, 2, false⟩,  -- CHARTER_CHUNK
    ⟨3, 1, 1, 1, 1, 1, 1, 2, false⟩,  -- CHARTER_COMMIT
    ⟨4, 1, 2, 1, 1, 0, 255, 1, false⟩,  -- CHARTER_STATUS
    ⟨5, 1, 4, 4, 1, 0, 4294967295, 1, false⟩,  -- STAGED_BYTES
    ⟨6, 1, 1, 1, 1, 1, 1, 2, false⟩,  -- DISSOLVE
    ⟨7, 1, 10, 4, 1, 1000, 1000000, 0, false⟩  -- SEED_RETRY
    ]⟩,
  ⟨0x8030, 7, [
    ⟨0, 1, 11, 0, 1, 0, 0, 1, false⟩  -- SPDM_SESSIONS
    ]⟩,
  ⟨0x9000, 7, [
    ⟨1, 1, 2, 1, 0, 0, 255, 1, false⟩,  -- LAST_RESET_CAUSE
    ⟨2, 1, 4, 4, 0, 0, 4294967295, 1, false⟩,  -- START_COUNT
    ⟨3, 1, 2, 1, 0, 0, 255, 1, false⟩,  -- FAILED_STARTS
    ⟨4, 1, 2, 1, 0, 0, 255, 1, false⟩,  -- BASTING_REASON
    ⟨5, 1, 2, 1, 0, 0, 255, 1, false⟩,  -- START_PHASE
    ⟨6, 1, 2, 1, 0, 0, 255, 1, false⟩,  -- LAST_MGMT_CAUSE
    ⟨7, 1, 4, 4, 2, 0, 4294967295, 1, false⟩  -- TAMPER_EVENTS
    ]⟩,
  ⟨0x9001, 7, [
    ⟨1, 1, 3, 2, 1, 0, 65535, 2, false⟩,  -- SOFT_RESET
    ⟨2, 1, 3, 2, 1, 0, 65535, 2, false⟩  -- MGMT_RESET
    ]⟩,
  ⟨0x9004, 7, [
    ⟨1, 1, 1, 1, 0, 0, 1, 1, false⟩,  -- HOLDUP_ARMED
    ⟨2, 1, 1, 1, 0, 0, 1, 1, false⟩,  -- QUIESCED
    ⟨3, 1, 4, 4, 0, 0, 4294967295, 1, false⟩,  -- PFAIL_FALLS
    ⟨4, 1, 4, 4, 2, 0, 4294967295, 1, false⟩,  -- PFAIL_GLITCHES
    ⟨5, 1, 1, 1, 0, 0, 1, 1, false⟩  -- REFCLK_PRESENT
    ]⟩,
  ⟨0x9010, 7, [
    ⟨1, 1, 2, 1, 0, 0, 255, 1, false⟩,  -- LC_STATE
    ⟨2, 1, 2, 1, 0, 0, 255, 1, false⟩,  -- LC_GROUPS
    ⟨3, 1, 5, 8, 0, 0, 18446744073709551615, 1, false⟩,  -- LC_WORD
    ⟨4, 1, 4, 4, 1, 0, 4294967295, 2, false⟩,  -- LC_REQUEST
    ⟨5, 1, 2, 1, 0, 0, 255, 1, false⟩  -- LC_PROGRESS
    ]⟩,
  ⟨0x9020, 7, [
    ⟨1, 1, 2, 1, 0, 0, 255, 1, false⟩,  -- FW_SLOT_ACTIVE
    ⟨2, 1, 4, 4, 1, 0, 4294967295, 2, false⟩,  -- FW_STAGE_BEGIN
    ⟨3, 1, 7, 1032, 1, 0, 0, 2, false⟩,  -- FW_STAGE_CHUNK
    ⟨4, 1, 4, 4, 1, 0, 4294967295, 1, false⟩,  -- FW_STAGED_BYTES
    ⟨5, 1, 1, 1, 1, 1, 1, 2, false⟩,  -- FW_STAGE_COMMIT
    ⟨6, 1, 1, 1, 1, 1, 1, 2, false⟩,  -- FW_ACTIVATE
    ⟨7, 1, 2, 1, 1, 0, 255, 1, false⟩  -- FW_STATUS
    ]⟩,
  ⟨0x9021, 7, [
    ⟨0, 1, 11, 0, 0, 0, 0, 1, false⟩  -- FW_SLOTS
    ]⟩,
  ⟨0x9030, 7, [
    ⟨1, 1, 2, 1, 1, 0, 1, 0, false⟩  -- POWER_STATE
    ]⟩,
  ⟨0xA000, 7, [
    ⟨1, 1, 10, 4, 1, 0, 10000000, 0, false⟩,  -- HANG_TICKS
    ⟨2, 1, 2, 1, 2, 1, 64, 0, false⟩,  -- ESCALATE_COUNT
    ⟨3, 1, 10, 4, 2, 1000, 4000000000, 0, false⟩,  -- ESCALATE_WINDOW
    ⟨4, 1, 2, 1, 0, 0, 255, 1, false⟩,  -- SERVICE_STATE
    ⟨5, 1, 2, 1, 1, 0, 255, 1, false⟩,  -- RESETS_IN_WINDOW
    ⟨6, 1, 3, 2, 2, 0, 65535, 2, false⟩,  -- QUARANTINE_CONSENT
    ⟨7, 1, 1, 1, 0, 0, 1, 1, false⟩,  -- CONSENT_GIVEN
    ⟨8, 1, 5, 8, 0, 0, 18446744073709551615, 1, false⟩  -- TICK_NOW
    ]⟩,
  ⟨0xA010, 1, [
    ⟨1, 1, 3, 2, 1, 0, 65535, 1, false⟩,  -- RESET_CONTEXT
    ⟨2, 1, 2, 1, 1, 0, 255, 1, false⟩,  -- RESET_PARTITION
    ⟨3, 1, 2, 1, 1, 0, 255, 1, false⟩,  -- RESET_CAUSE
    ⟨4, 1, 2, 1, 1, 0, 255, 1, false⟩,  -- RESET_QUEUE
    ⟨5, 1, 4, 4, 1, 0, 4294967295, 1, false⟩,  -- RESET_RECORD_NO
    ⟨6, 1, 5, 8, 1, 0, 18446744073709551615, 1, false⟩  -- RESET_TICK
    ]⟩
  ]

/-- Indices 0xA011 to 0xB033. -/
def objIndices6 : List ObjIndex := [
  ⟨0xA011, 1, [
    ⟨1, 1, 3, 2, 1, 0, 65535, 2, false⟩  -- CONTEXT_RESET
    ]⟩,
  ⟨0xA012, 1, [
    ⟨0, 1, 11, 0, 2, 0, 0, 1, false⟩  -- RECOVERY_RECORDS
    ]⟩,
  ⟨0xA020, 7, [
    ⟨1, 1, 1, 1, 2, 0, 1, 0, false⟩,  -- LOG_ENABLE
    ⟨2, 1, 2, 1, 2, 0, 2, 0, false⟩,  -- LOG_MODE
    ⟨3, 1, 2, 1, 2, 0, 15, 0, false⟩,  -- CLASS_MASK
    ⟨4, 1, 2, 1, 2, 0, 31, 0, false⟩,  -- TRIGGER_MASK
    ⟨5, 1, 5, 8, 2, 0, 18446744073709551615, 0, false⟩,  -- TRIGGER_OBJECT
    ⟨6, 1, 4, 4, 2, 0, 65535, 0, false⟩,  -- POST_TRIGGER
    ⟨7, 1, 1, 1, 2, 1, 1, 2, false⟩,  -- TRIGGER_NOW
    ⟨8, 1, 2, 1, 2, 0, 255, 1, false⟩,  -- LOG_STATE
    ⟨9, 1, 4, 4, 2, 0, 4294967295, 1, false⟩,  -- RECORDS
    ⟨10, 1, 5, 8, 2, 0, 18446744073709551615, 1, false⟩,  -- DROPPED
    ⟨11, 1, 1, 1, 2, 1, 1, 2, false⟩,  -- LOG_CLEAR
    ⟨12, 1, 4, 4, 2, 0, 4294967295, 1, false⟩  -- TRIGGER_INDEX
    ]⟩,
  ⟨0xA021, 7, [
    ⟨0, 1, 11, 0, 2, 0, 0, 1, false⟩  -- LOG_SEALED
    ]⟩,
  ⟨0xA030, 1, [
    ⟨1, 1, 7, 16, 2, 0, 0, 2, false⟩,  -- DUMP_ARM
    ⟨2, 1, 2, 1, 2, 0, 15, 2, false⟩  -- DUMP_DISARM
    ]⟩,
  ⟨0xA031, 1, [
    ⟨0, 1, 11, 0, 2, 0, 0, 1, false⟩  -- DUMP_TABLE
    ]⟩,
  ⟨0xB000, 7, [
    ⟨1, 12, 5, 8, 2, 0, 18446744073709551615, 1, false⟩  -- Counters
    ]⟩,
  ⟨0xB001, 7, [
    ⟨1, 32, 5, 8, 2, 0, 18446744073709551615, 1, false⟩  -- PILLOW_ISSUE
    ]⟩,
  ⟨0xB030, 7, [
    ⟨1, 1, 5, 8, 2, 0, 18446744073709551615, 1, false⟩,  -- HOLD_TICKET
    ⟨2, 1, 5, 8, 2, 0, 18446744073709551615, 1, false⟩,  -- HOLD_EGRESS
    ⟨3, 1, 5, 8, 2, 0, 18446744073709551615, 1, false⟩,  -- HOLD_KEY
    ⟨4, 1, 5, 8, 2, 0, 18446744073709551615, 1, false⟩,  -- HOLD_TALLY
    ⟨5, 1, 5, 8, 2, 0, 18446744073709551615, 1, false⟩  -- HOLD_SPAN
    ]⟩,
  ⟨0xB031, 7, [
    ⟨1, 1, 5, 8, 2, 0, 18446744073709551615, 1, false⟩,  -- CREDIT_OVERRUN
    ⟨2, 1, 5, 8, 2, 0, 18446744073709551615, 1, false⟩,  -- MEM_UNKNOWN_TAG
    ⟨3, 1, 5, 8, 2, 0, 18446744073709551615, 1, false⟩,  -- MEM_READ_TIMEOUT
    ⟨4, 1, 5, 8, 2, 0, 18446744073709551615, 1, false⟩,  -- LINK_RX_WHILE_DOWN
    ⟨5, 1, 5, 8, 2, 0, 18446744073709551615, 1, false⟩,  -- LINK_PACING_EXCESS
    ⟨6, 1, 5, 8, 2, 0, 18446744073709551615, 1, false⟩,  -- GANG_RESEND
    ⟨7, 1, 5, 8, 2, 0, 18446744073709551615, 1, false⟩,  -- FLASH_AUTH_FAIL
    ⟨8, 1, 5, 8, 2, 0, 18446744073709551615, 1, false⟩,  -- PORT_CLOCK_FAULT
    ⟨9, 1, 5, 8, 2, 0, 18446744073709551615, 1, false⟩,  -- LATE_RESPONSE
    ⟨10, 1, 5, 8, 2, 0, 18446744073709551615, 1, false⟩  -- WINDOW_WRITE_DISCARDS
    ]⟩,
  ⟨0xB032, 7, [
    ⟨1, 1, 2, 1, 2, 0, 255, 1, false⟩  -- THROTTLE_LEVEL
    ]⟩,
  ⟨0xB033, 3, [
    ⟨1, 1, 5, 8, 2, 0, 18446744073709551615, 1, false⟩,  -- MERGE_FILLS
    ⟨2, 1, 5, 8, 2, 0, 18446744073709551615, 1, false⟩,  -- MERGE_READS
    ⟨3, 1, 5, 8, 2, 0, 18446744073709551615, 1, false⟩,  -- MERGE_FULL_HOLDS
    ⟨4, 1, 5, 8, 2, 0, 18446744073709551615, 1, false⟩,  -- TALLY_HITS
    ⟨5, 1, 5, 8, 2, 0, 18446744073709551615, 1, false⟩,  -- TALLY_MISSES
    ⟨6, 1, 5, 8, 2, 0, 18446744073709551615, 1, false⟩,  -- NODE_FETCHES
    ⟨7, 1, 5, 8, 2, 0, 18446744073709551615, 1, false⟩,  -- NODE_WRITEBACKS
    ⟨8, 1, 5, 8, 2, 0, 18446744073709551615, 1, false⟩,  -- MIRROR_USED
    ⟨9, 1, 5, 8, 2, 0, 18446744073709551615, 1, false⟩,  -- MIRROR_REPAIRS
    ⟨10, 1, 5, 8, 2, 0, 18446744073709551615, 1, false⟩,  -- LINE_MAC_FAILS
    ⟨11, 1, 5, 8, 2, 0, 18446744073709551615, 1, false⟩,  -- NODE_MAC_FAILS
    ⟨12, 1, 5, 8, 2, 0, 18446744073709551615, 1, false⟩,  -- SPAN_REKEYS
    ⟨13, 1, 4, 4, 2, 0, 4294967295, 1, false⟩,  -- REGIONS_DAMAGED
    ⟨14, 1, 4, 4, 2, 0, 4294967295, 1, false⟩  -- REGIONS_RETIRED
    ]⟩
  ]

/-- Indices 0xB040 to 0xC010. -/
def objIndices7 : List ObjIndex := [
  ⟨0xB040, 7, [
    ⟨0, 1, 11, 0, 2, 0, 0, 1, false⟩  -- LINK_COUNTERS
    ]⟩,
  ⟨0xB041, 7, [
    ⟨1, 1, 3, 2, 2, 0, 65535, 1, false⟩,  -- CONGESTED_DESTS
    ⟨2, 1, 5, 8, 2, 0, 18446744073709551615, 1, false⟩  -- CMARK_HALVINGS
    ]⟩,
  ⟨0xB050, 7, [
    ⟨1, 1, 5, 8, 2, 0, 18446744073709551615, 1, false⟩,  -- TAG_HOLDS
    ⟨2, 1, 5, 8, 2, 0, 18446744073709551615, 1, false⟩,  -- FLAG_HOLDS
    ⟨3, 1, 5, 8, 2, 0, 18446744073709551615, 1, false⟩,  -- CHANNEL_HOLDS
    ⟨4, 1, 5, 8, 2, 0, 18446744073709551615, 1, false⟩,  -- REMOTE_TIMEOUTS
    ⟨5, 1, 5, 8, 2, 0, 18446744073709551615, 1, false⟩,  -- REISSUES
    ⟨6, 1, 5, 8, 2, 0, 18446744073709551615, 1, false⟩,  -- ATOMIC_RETRIES
    ⟨7, 1, 5, 8, 2, 0, 18446744073709551615, 1, false⟩,  -- REPLAY_HITS
    ⟨8, 1, 5, 8, 2, 0, 18446744073709551615, 1, false⟩,  -- REPLAY_UNKNOWN
    ⟨9, 1, 5, 8, 2, 0, 18446744073709551615, 1, false⟩,  -- REPLAY_FULL
    ⟨10, 1, 5, 8, 2, 0, 18446744073709551615, 1, false⟩,  -- ACCESS_DENIALS
    ⟨11, 1, 5, 8, 2, 0, 18446744073709551615, 1, false⟩,  -- CHECKED_DENIALS
    ⟨12, 1, 11, 0, 1, 0, 0, 1, false⟩,  -- HANDOVERS
    ⟨13, 1, 5, 8, 2, 0, 18446744073709551615, 1, false⟩,  -- DUPLICATE_RSP
    ⟨14, 1, 5, 8, 2, 0, 18446744073709551615, 1, false⟩,  -- MSG_ERRORS
    ⟨15, 1, 4, 4, 1, 0, 4294967295, 1, false⟩  -- RELEASE_UNSENT
    ]⟩,
  ⟨0xB060, 3, [
    ⟨1, 1, 5, 8, 2, 0, 18446744073709551615, 1, false⟩,  -- STEPS_DONE
    ⟨2, 1, 5, 8, 2, 0, 18446744073709551615, 1, false⟩,  -- STEPS_SATURATED
    ⟨3, 1, 5, 8, 2, 0, 18446744073709551615, 1, false⟩,  -- STEPS_ABORTED
    ⟨4, 1, 5, 8, 2, 0, 18446744073709551615, 1, false⟩,  -- STEPS_INTEGRITY
    ⟨5, 1, 5, 8, 2, 0, 18446744073709551615, 1, false⟩,  -- STEP_TIMEOUTS
    ⟨6, 1, 5, 8, 2, 0, 18446744073709551615, 1, false⟩,  -- SPREAD_BLOCKS
    ⟨7, 1, 5, 8, 2, 0, 18446744073709551615, 1, false⟩,  -- JOIN_MISMATCH
    ⟨8, 1, 5, 8, 2, 0, 18446744073709551615, 1, false⟩,  -- STALE_MSGS
    ⟨9, 1, 5, 8, 2, 0, 18446744073709551615, 1, false⟩,  -- PLAIT_MSG_ERRORS
    ⟨10, 1, 5, 8, 2, 0, 18446744073709551615, 1, false⟩  -- SEED_REFUSALS
    ]⟩,
  ⟨0xB070, 1, [
    ⟨1, 1, 5, 8, 2, 0, 18446744073709551615, 1, false⟩,  -- DESC_FETCHED
    ⟨2, 1, 5, 8, 2, 0, 18446744073709551615, 1, false⟩,  -- DESC_REJECTED
    ⟨3, 1, 5, 8, 2, 0, 18446744073709551615, 1, false⟩,  -- DOORBELL_DISCARDS
    ⟨4, 1, 5, 8, 2, 0, 18446744073709551615, 1, false⟩,  -- WINDOW_DISCARDS
    ⟨5, 1, 5, 8, 2, 0, 18446744073709551615, 1, false⟩,  -- BOUNCE_TAG_FAILS
    ⟨6, 1, 5, 8, 2, 0, 18446744073709551615, 1, false⟩,  -- INTR_LOST
    ⟨7, 1, 5, 8, 2, 0, 18446744073709551615, 1, false⟩,  -- FAULTS
    ⟨8, 1, 5, 8, 2, 0, 18446744073709551615, 1, false⟩  -- ABANDONED_EVENTS
    ]⟩,
  ⟨0xB071, 1, [
    ⟨1, 1, 5, 8, 2, 0, 18446744073709551615, 1, false⟩,  -- LOADS
    ⟨2, 1, 5, 8, 2, 0, 18446744073709551615, 1, false⟩,  -- LOAD_FAILS
    ⟨3, 1, 5, 8, 2, 0, 18446744073709551615, 1, false⟩,  -- PATCHES
    ⟨4, 1, 5, 8, 2, 0, 18446744073709551615, 1, false⟩,  -- PATCH_REJECTS
    ⟨5, 1, 5, 8, 2, 0, 18446744073709551615, 1, false⟩,  -- LAUNCHES_STARTED
    ⟨6, 1, 5, 8, 2, 0, 18446744073709551615, 1, false⟩,  -- LAUNCH_BUSY
    ⟨7, 1, 5, 8, 2, 0, 18446744073709551615, 1, false⟩,  -- NODES_STARTED
    ⟨8, 1, 5, 8, 2, 0, 18446744073709551615, 1, false⟩  -- FENCE_ABANDONS
    ]⟩,
  ⟨0xB072, 1, [
    ⟨1, 1, 5, 8, 2, 0, 18446744073709551615, 1, false⟩,  -- PARTITION_RESETS
    ⟨2, 1, 5, 8, 2, 0, 18446744073709551615, 1, false⟩,  -- PARTITION_REMOVALS
    ⟨3, 1, 5, 8, 2, 0, 18446744073709551615, 1, false⟩,  -- BIND_FAILS
    ⟨4, 1, 5, 8, 2, 0, 18446744073709551615, 1, false⟩,  -- UNATTRIBUTED
    ⟨5, 1, 5, 8, 2, 0, 18446744073709551615, 1, false⟩,  -- CONFIRM_FAILS
    ⟨6, 1, 4, 4, 2, 0, 4294967295, 1, false⟩  -- POWER_MW
    ]⟩,
  ⟨0xB080, 7, [
    ⟨1, 1, 5, 8, 2, 0, 18446744073709551615, 1, false⟩,  -- SAMPLES_ISSUED
    ⟨2, 1, 4, 4, 2, 0, 4294967295, 1, false⟩,  -- CHARTER_COMMITS
    ⟨3, 1, 4, 4, 2, 0, 4294967295, 1, false⟩,  -- CHARTER_REJECTS
    ⟨4, 1, 4, 4, 2, 0, 4294967295, 1, false⟩,  -- SEED_CARRIES
    ⟨5, 1, 4, 4, 2, 0, 4294967295, 1, false⟩,  -- SEED_CONFLICTS
    ⟨6, 1, 5, 8, 2, 0, 18446744073709551615, 1, false⟩,  -- SPDM_ERRORS
    ⟨7, 1, 5, 8, 2, 0, 18446744073709551615, 1, false⟩  -- SESSIONS_OPENED
    ]⟩,
  ⟨0xB090, 7, [
    ⟨1, 1, 5, 8, 2, 0, 18446744073709551615, 1, false⟩,  -- SHUTTLE_GRANTS
    ⟨2, 1, 5, 8, 2, 0, 18446744073709551615, 1, false⟩,  -- LEASE_EXPIRIES
    ⟨3, 1, 5, 8, 2, 0, 18446744073709551615, 1, false⟩,  -- SHUTTLE_REVOKES
    ⟨4, 1, 5, 8, 2, 0, 18446744073709551615, 1, false⟩,  -- SHUTTLE_JOBS
    ⟨5, 1, 5, 8, 2, 0, 18446744073709551615, 1, false⟩,  -- SHUTTLE_FAILS
    ⟨6, 1, 5, 8, 2, 0, 18446744073709551615, 1, false⟩,  -- PURL_JOBS
    ⟨7, 1, 5, 8, 2, 0, 18446744073709551615, 1, false⟩,  -- PURL_REFUSED
    ⟨8, 1, 5, 8, 2, 0, 18446744073709551615, 1, false⟩,  -- PURL_TIMEOUTS
    ⟨9, 1, 5, 8, 2, 0, 18446744073709551615, 1, false⟩  -- SERVICE_DISCARDS
    ]⟩,
  ⟨0xB0A0, 7, [
    ⟨1, 1, 5, 8, 2, 0, 18446744073709551615, 1, false⟩,  -- REQUESTS
    ⟨2, 1, 5, 8, 2, 0, 18446744073709551615, 1, false⟩,  -- ABORTS
    ⟨3, 1, 5, 8, 2, 0, 18446744073709551615, 1, false⟩,  -- ACCESS_FAULTS
    ⟨4, 1, 5, 8, 2, 0, 18446744073709551615, 1, false⟩,  -- QUEUE_FULL
    ⟨5, 1, 5, 8, 2, 0, 18446744073709551615, 1, false⟩,  -- MCTP_DISCARDS
    ⟨6, 1, 5, 8, 2, 0, 18446744073709551615, 1, false⟩  -- MAILBOX_DISCARDS
    ]⟩,
  ⟨0xC000, 7, [
    ⟨1, 1, 10, 4, 1, 1000, 50000, 0, false⟩,  -- SHUTTLE_MAX_LEASE
    ⟨2, 1, 4, 4, 1, 0, 4294967295, 1, false⟩,  -- SHUTTLE_OWNER
    ⟨3, 1, 1, 1, 1, 1, 1, 2, false⟩  -- SHUTTLE_REVOKE
    ]⟩,
  ⟨0xC010, 7, [
    ⟨1, 1, 10, 4, 1, 10000, 10000000, 0, false⟩,  -- PURL_TIMEOUT
    ⟨2, 1, 2, 1, 1, 0, 255, 1, false⟩,  -- PURL_RUNNING
    ⟨3, 1, 2, 1, 1, 0, 255, 2, false⟩  -- PURL_ABORT
    ]⟩
  ]

/-- Every index of the dictionary. -/
def objIndices : List ObjIndex :=
  objIndices0 ++ objIndices1 ++ objIndices2 ++ objIndices3 ++ objIndices4 ++ objIndices5 ++ objIndices6 ++ objIndices7

end Sys2Proof.Machine
end

