-- ==== Sys2Proof/Machine/Access.lean ====
section
/-! DEFINITION. The dictionary engine's checks and answers (R407 to R417, R424 to R426): which objects exist, what class
a request is granted, the order of the checks, and what an answer does. -/

namespace Sys2Proof.Machine

/-! ### Which objects exist (R407, R408, R429) -/

/-- Indices that exist in basting mode (R408, R439). -/
def bastingIndex (idx : Nat) : Bool :=
  (0x1000 ≤ idx && idx ≤ 0x10FF) || [0x2001, 0x2030, 0x9000, 0x9001, 0x9004, 0x9010, 0x9020, 0x9021].contains idx

/-- The index, when it exists in the block's profile and mode. In basting mode for reason PROFILE no profile is valid
and the indices of basting mode exist (R3). -/
def findIndex (s : State) (idx : Nat) : Option ObjIndex :=
  match objIndices.find? fun o => o.idx == idx with
  | some o =>
    if basting s then (if bastingIndex idx then some o else none)
    else if tbit o.profiles (profile s) then some o else none
  | none => none

/-- Instances of an array index (R407): none when the index is no array. -/
def arraySize (s : State) (idx : Nat) : Option Nat :=
  if [0x4001, 0x4002, 0x4004, 0x4005].contains idx then some (linkPortsOf s.cfg)
  else if [0x5002, 0x7400, 0x7401].contains idx then some (partitionsOf s.cfg)
  else if idx = 0xB001 then some (pillowsOf s.cfg)
  else if idx = 0x4007 then some 8
  else none

/-- Highest subindex of an index; none for a variable (R407). -/
def highestSub (s : State) (o : ObjIndex) : Option Nat :=
  match arraySize s o.idx with
  | some n => some n
  | none =>
    if o.rows.any fun r => r.sub == 0 then none
    else some (o.rows.foldl (fun m r => Nat.max m (r.sub + r.n - 1)) 0)

/-- HIGHEST_SUB's own row (R407). -/
def highestRow : ObjRow := ⟨0, 1, 2, 1, 0, 0, 255, 1, false⟩

/-- The row of a subindex, when it exists (R407, R408, R10). CMARK_DEPTH exists in the switch profile only. -/
def findRow (s : State) (o : ObjIndex) (sub : Nat) : Option ObjRow :=
  match highestSub s o with
  | some h =>
    if sub = 0 then some highestRow
    else if sub > h then none
    else if o.idx = 0x4000 && sub = 0xA && profile s ≠ 1 then none
    else o.rows.find? fun r => r.sub ≤ sub && sub < r.sub + r.n
  | none => o.rows.find? fun r => r.sub == sub

/-! ### Rights (R20, R371, R424) -/

/-- Bytes of the installed charter. -/
def charterSlice (s : State) (off n : Nat) : Option Bytes :=
  match s.domain.charter with
  | some c => some (slice c off n)
  | none => none

/-- The session holds the OPR right: its digest is OPERATOR_KEY_HASH of the installed charter (R371). -/
def oprRight (s : State) (k : Nat) : Bool :=
  match tget s.domain.sessions k, charterSlice s 24 48 with
  | some x, some h => x.digest == h
  | _, _ => false

/-- The session holds the MGR right (R371). -/
def mgrRight (s : State) (k : Nat) : Bool :=
  match tget s.domain.sessions k, charterSlice s 72 48 with
  | some x, some h => x.digest == h && h != zeroBytes 48
  | _, _ => false

/-- The request came in CLEAR flits, which reach PUB objects only (R183). -/
def inClear (s : State) (r : OdReq) : Bool :=
  r.path == .vl0 && match s.dict.vl0Q with
    | m :: _ => !linked s m.port
    | [] => false

/-- The highest class a request is granted: 0 PUB, 1 MGR, 2 OPR (R20, R183, R424, R439). A quiesced block answers PUB
only (R96). -/
def granted (s : State) (r : OdReq) : Nat :=
  if s.power.quiesced || inClear s r then 0
  else match r.sess with
    | some k => if oprRight s k then 2 else if mgrRight s k then 1 else 0
    | none => if r.path = .mailbox then 1 else if basting s && r.path = .i3c then 1 else 0

/-- The write of 0 to POWER_STATE over I3C outside a session while in retention (R93, R424). -/
def wakeGrant (s : State) (r : OdReq) (idx sub v : Nat) : Bool :=
  s.power.retention && r.path == .i3c && r.sess.isNone && idx == 0x9030 && sub == 1 && v == 0

/-- The path is up and, inside a session, the session is open (R408, R422, R423, R427, R439). -/
def pathUp (s : State) (r : OdReq) : Bool :=
  engineUp s &&
  (match r.path with
   | .i3c => true
   | .vl0 => running s && !s.power.retention && !s.power.quiesced && !basting s
   | .mailbox => running s && !s.power.retention && !s.power.quiesced && !basting s
   | .debug => running s && !s.power.retention && !s.power.quiesced && !basting s && r.sess.isSome) &&
  (match r.sess with
   | some k => match tget s.domain.sessions k with
     | some x => x.opened
     | none => false
   | none => true)

/-! ### The order of the checks (R414) -/

/-- STR values: printable bytes, then zeros only (R409). -/
def strOk : Bytes → Bool
  | [] => true
  | b :: bs => if b = 0 then bs.all (· == 0) else (0x20 ≤ b.toNat && b.toNat ≤ 0x7E) && strOk bs

/-- The Range/unit column of a number (R414 check 7), with the columns that name more than an interval. -/
def rangeOk (s : State) (idx sub : Nat) (row : ObjRow) (v : Nat) : Bool :=
  if row.len = 0 || row.ty = 7 || row.ty = 8 then true
  else
    row.lo ≤ v && v ≤ row.hi &&
    (if idx = 0x3000 && sub = 4 then v = 0 || v ≥ 10
     else if idx = 0x4000 && sub = 8 then v ≥ setting s 0x4000 7
     else if idx = 0x4007 then
       (if sub = 1 then 4 ≤ v && v ≤ 64 else true) &&
       ((List.range 8).map fun n => if n + 1 = sub then v else setting s 0x4007 (n + 1)).sum ≤ 496
     else if idx = 0x5000 && sub = 4 then v % 8 = 0
     else if idx = 0x7103 then v ≤ 4 * contextsOf s.cfg - 1
     else if idx = 0x7104 && (sub = 3 || sub = 5) then v % 4096 = 0
     else if idx = 0x7104 && sub = 6 then v ≤ 4095 || v = 0xFFFF
     else if idx = 0x7105 && sub = 1 then v % 4096 = 0
     else if idx = 0x7400 then v ≤ 2 * lastPillowOf s.cfg
     else if idx = 0xA000 && sub = 1 then v = 0 || v ≥ 500
     else true)

/-- Check 4 of R414 (R424, R425). -/
def classCheck (s : State) (r : OdReq) (row : ObjRow) : Nat :=
  if row.mine && (sessOf r).isNone then abAuth
  else if row.cls ≤ granted s r then 0
  else if row.cls = 3 then abAccess
  else if r.sess.isSome then abAccess else abAuth

/-- Checks 2 to 5 of R414: the row found, or the abort. -/
def odFind (s : State) (r : OdReq) (idx sub : Nat) : Except Nat ObjRow :=
  match findIndex s idx with
  | none => .error abNoObject
  | some o => match findRow s o sub with
    | none => .error abNoSub
    | some row => if classCheck s r row = 0 then .ok row else .error (classCheck s r row)

/-- Checks 2 to 7 of a WRITE of `data`; 0 when all pass. -/
def writeGate (s : State) (r : OdReq) (idx sub : Nat) (data : Bytes) : Nat :=
  let v := ofLe data
  match odFind s r idx sub with
  | .error a => if wakeGrant s r idx sub v && data.length = 1 then 0 else a
  | .ok row =>
    if row.dir = 1 then abReadOnly
    else if data.length ≠ row.len && !(idx = 0x8020 && sub = 2 && 8 ≤ data.length && data.length ≤ 1032) then abType
    else if !rangeOk s idx sub row v then abRange
    else 0

/-- Checks 2 to 6 of a READ (`table` false) or TABLE_READ. -/
def readGate (s : State) (r : OdReq) (idx sub : Nat) (table : Bool) : Nat :=
  match odFind s r idx sub with
  | .error a => a
  | .ok row =>
    if row.dir = 2 then abWriteOnly
    else if table != (row.ty == 0xB) then abType
    else 0

/-- Type code of an object, 0 when it does not exist (R416). -/
def typeOf (s : State) (idx sub : Nat) : Nat :=
  match findIndex s idx with
  | none => 0
  | some o => match findRow s o sub with
    | none => 0
    | some row => row.ty

/-! ### Answers (R416, R422, R426) -/

/-- The 16 B response header and its data (R416). -/
def odBytes (r : OdReq) (op ty idx sub abort rows total : Nat) (data : Bytes) : Bytes :=
  le 16 (pack [(8, op + 0x80), (8, ty), (16, r.txn.toNat), (16, idx), (8, sub), (8, 0), (16, abort), (16, rows),
    (16, total), (16, 0)]) ++ data

/-- A mailbox that holds a request completes with a response (R422). -/
def mailboxDone (m : Mailbox) (rsp : Bytes) : Mailbox :=
  { m with state := 2, donePend := true, rspLen := rsp.length, completed := (m.completed + 1) % 2 ^ 32, rspBuf := rsp }

/-- A response as an MCTP message: behind the request's message type byte, and behind the class bytes of a dictionary
message (R418). -/
def asMessage (m : DictMsg) (rsp : Bytes) : Bytes := (m.bytes.take (if num m.bytes 0 1 = 0x7F then 8 else 1)) ++ rsp

/-- The response to a VL0 message, to the SRC_EP and the port it came from, its EIDs exchanged and TO clear (R420, log
entry 36). -/
def vl0Respond (m : DictMsg) (rsp : Bytes) (s : State) : State :=
  if 2 ≤ (linkAt s m.port).state && (linkAt s m.port).state ≤ 4 then
    queueMgmtTo m.port (ownEndpoint s) m.srcEp 0x10
      (le 1 m.src ++ le 1 (setting s 0x1001 5) ++ le 1 (m.tag % 8) ++ [0] ++ asMessage m rsp) s
  else s

/-- Deliver a response on a path: the path's queue loses its head, to whose sender the response goes, and a mailbox that
is BUSY turns DONE and sends its interrupt (R418, R419, R420, R422, R423, R426). -/
def respond (p : OdPath) (rsp : Bytes) (s : State) : State :=
  match p with
  | .i3c => match s.dict.i3cQ with
    | [] => s
    | m :: rest => emit (.mctpMsg m.src m.tag (asMessage m rsp)) { s with dict.i3cQ := rest }
  | .vl0 => match s.dict.vl0Q with
    | [] => s
    | m :: rest => vl0Respond m rsp { s with dict.vl0Q := rest }
  | .mailbox =>
    if s.dict.mailbox.state = 1 then
      sendMsi s.dict.mailbox.msiAddr s.dict.mailbox.msiData
        { s with dict.mailbox := mailboxDone s.dict.mailbox rsp, dict.mailQ := s.dict.mailQ.drop 1 }
    else { s with dict.mailQ := s.dict.mailQ.drop 1 }
  | .debug =>
    if s.dict.debugBox.state = 1 then
      sendMsi s.dict.debugBox.msiAddr s.dict.debugBox.msiData
        { s with dict.debugBox := mailboxDone s.dict.debugBox rsp, dict.debugQ := s.dict.debugQ.drop 1 }
    else { s with dict.debugQ := s.dict.debugQ.drop 1 }

/-- Count a request and its outcome (R414, R428). -/
def countAnswer (abort : Nat) (s : State) : State :=
  let s := count 0xB0A0 1 s
  let s := if abort ≠ 0 then count 0xB0A0 2 s else s
  if abort = abAccess || abort = abAuth then count 0xB0A0 3 s else s

/-- Deliver the answer to a dictionary request: inside a session it follows the status DONE in a secured record
(R424). -/
def deliver (r : OdReq) (b : Bytes) (s : State) : State :=
  match r.sess.bind (tget s.domain.sessions) with
  | some x => respond r.path (Config.securedRecord x.secret s.free ([0] ++ b)) { s with free := s.free + 1 }
  | none => respond r.path b s

/-- Answer a request (R416). -/
def answer (r : OdReq) (op idx sub abort rows total : Nat) (data : Bytes) (s : State) : State :=
  let ty := typeOf s idx sub
  let data := if abort = 0 then data else []
  deliver r (odBytes r op ty idx sub abort rows total data)
    (emit (.od r (op + 0x80) ty idx sub abort rows total data) (countAnswer abort s))

/-- What an owning rule makes of a write: the state after it, an abort, or an answer that a later command sends
(R426). -/
inductive Own where
  | ok (s : State)
  | abort (code : Nat)
  | later (s : State)
deriving DecidableEq, Repr

/-- The owning rule's conditions in the order in which the rule lists them: the first that holds decides (R414). -/
def firstAbort : List (Bool × Nat) → Option Nat
  | [] => none
  | (c, a) :: rest => if c then some a else firstAbort rest

/-- Conditions, then the effect. -/
def guarded (conds : List (Bool × Nat)) (t : State) : Own :=
  match firstAbort conds with
  | some a => .abort a
  | none => .ok t

/-- A write whose answer leaves before its effect, which ends the path it came on (log entry 29). -/
def answered (r : OdReq) (idx sub : Nat) (f : State → State) (s : State) : Own :=
  .later (f (answer r 2 idx sub 0 0 0 [] s))

/-- A WRITE executed by the engine (R414, R426): lost when no engine serves its path; else checked, carried out by the
owning rule and answered. An aborted request changes nothing. -/
def odWrite (r : OdReq) (idx sub : Nat) (data : Bytes) (own : State → Own) (s : State) : State :=
  if pathUp s r then
    let g := writeGate s r idx sub data
    if g ≠ 0 then answer r 2 idx sub g 0 0 [] s
    else match own s with
      | .ok t => answer r 2 idx sub 0 0 0 [] t
      | .abort a => answer r 2 idx sub a 0 0 [] s
      | .later t => t
  else s

end Sys2Proof.Machine
end

