-- ==== Sys2Proof/Machine/Keys.lean ====
section
/-! DEFINITION. The pricking: pins, derivation, the held store, the key-index table, the pin cache, invalidation, user
flash and entropy (R100 to R140). -/

namespace Sys2Proof.Machine

/-! ### Pins (R106 to R114) -/

/-- Purposes of R108. -/
def puDeviceId : Nat := 0x10
def puStorage : Nat := 0x11
def puFirmware : Nat := 0x20
def puDomain : Nat := 0x30
def puSolo : Nat := 0x31
def puPanel : Nat := 0x32
def puPartition : Nat := 0x40
def puInfra : Nat := 0x41
def puLinks : Nat := 0x42
def puWrap : Nat := 0x43
def puOperator : Nat := 0x44
def puLocal : Nat := 0x50
def puPool : Nat := 0x51
def puHop : Nat := 0x52
def puQueue : Nat := 0x53
def puBounce : Nat := 0x54
def puSeal : Nat := 0x55

/-- PIN_INDEX and GEN of a handle (R106). -/
def pinIdx (h : Nat) : Nat := h % 65536
def pinGen (h : Nat) : Nat := h / 65536 % 65536
def pinHandle (i g : Nat) : Nat := i + 65536 * g

/-- A pin that names nothing. -/
def noPin : Pin :=
  { parent := 0, parentGen := 0, gen := 0, level := 0, kind := 0, state := 0, purpose := 0, objA := 0, objB := 0,
    heldSlot := 0, source := 0, childSerial := 0 }

/-- The record at an index. -/
def pinAt (s : State) (i : Nat) : Pin := tgetD s.keys.pins i noPin

/-- The chain from a record up to pin 0 is LIVE, each PARENT_GEN equal to the parent's GEN (R110). -/
def chainLive (s : State) : Nat → Nat → Nat → Bool
  | 0, _, _ => false
  | fuel + 1, i, g =>
    let p := pinAt s i
    p.state == 1 && p.gen == g && (i == 0 || chainLive s fuel p.parent p.parentGen)

/-- A handle is live (R110). -/
def live (s : State) (h : Nat) : Bool := chainLive s 6 (pinIdx h) (pinGen h)

/-- The indices of a pin and its ancestors, itself first. -/
def ancestors (s : State) : Nat → Nat → List Nat
  | 0, _ => []
  | fuel + 1, i => if i = 0 then [0] else i :: ancestors s fuel (pinAt s i).parent

/-- The record is the pin `root` or lies below it. -/
def below (s : State) (root i : Nat) : Bool := (ancestors s 6 i).contains root

/-- The label of a record (R112). -/
def label (p : Pin) (gen : Nat) : Bytes :=
  le 1 p.level ++ le 1 p.purpose ++ le 2 gen ++ le 4 p.objA ++ le 4 p.objB ++ zeroBytes 4 ++ text "KZ-PRICKING-V1" 16

/-- The KDF of R113: `bits` bits under the parent's value. -/
def kdf (parent lab ctx : Bytes) (bits : Nat) : Bytes :=
  let blk := fun i => Config.hmac384 parent (be 4 i ++ lab ++ [0] ++ ctx ++ be 4 bits)
  (((List.range (ceilDiv bits 384)).flatMap fun i => blk (i + 1))).take (bits / 8)

/-- The context of a derived pin (R108, R114). -/
def pinContext (s : State) (purpose : Nat) : Bytes :=
  if purpose = puDeviceId then Config.romDigest
  else if purpose = puFirmware then s.keys.fwMeasurement
  else []

/-- The value of a pin (R107, R113): the sensed root, a held slot, or derived from its parent. -/
def pinValue (s : State) : Nat → Nat → Bytes
  | 0, _ => []
  | fuel + 1, i =>
    let p := pinAt s i
    if p.kind = 0 then s.fuses.root
    else if p.kind = 2 then tgetD s.keys.held p.heldSlot []
    else kdf (pinValue s fuel p.parent) (label p p.gen) (pinContext s p.purpose)
      (if p.purpose = puLocal then 512 else 256)

/-- The value a handle names. -/
def keyOf (s : State) (h : Nat) : Bytes := pinValue s 6 (pinIdx h)

/-- Does a purpose carry a serial (R108). -/
def hasSerial (purpose : Nat) : Bool :=
  [puPartition, puInfra, puLocal, puPool, puQueue, puSeal].contains purpose

/-- The lowest free pin index from 4 upwards (R106): FREE, and neither fixed nor RETIRED. -/
def freePin (s : State) : Option Nat := lowestSuch (fun i => (pinAt s i).state == 0) 65532 4

/-- The lowest free slot of the held store (R115). -/
def freeSlot (s : State) : Option Nat := lowestFree s.keys.held 12288 0

/-- What a new pin is: purpose, level, kind, label fields (OBJ_B only where no serial is carried), parent handle, the
held value and its source. -/
structure NewPin where
  purpose : Nat
  level : Nat
  kind : Nat
  objA : Nat
  objB : Nat
  parent : Nat
  value : Bytes
  source : Nat
deriving DecidableEq, Repr

/-- Put a record at an index, with a held slot when it is HELD. -/
def placePin (n : NewPin) (i slot : Nat) (s : State) : State :=
  let pi := pinIdx n.parent
  let serial := (pinAt s pi).childSerial + 1
  let p : Pin :=
    { parent := pi, parentGen := pinGen n.parent, gen := (pinAt s i).gen, level := n.level, kind := n.kind, state := 1,
      purpose := n.purpose, objA := n.objA, objB := if hasSerial n.purpose then serial else n.objB, heldSlot := slot,
      source := n.source, childSerial := 0 }
  let s := if hasSerial n.purpose then
      { s with keys.pins := tmod s.keys.pins pi fun q => { q with childSerial := serial } } else s
  let s := { s with keys.pins := tput s.keys.pins i p }
  if n.kind = 2 then { s with keys.held := tput s.keys.held slot n.value } else s

/-- Create a pin (R106, R108, R111, R115, R129): its handle, or KEY_GONE under a dying parent, or TABLE_FULL. -/
def createPin (n : NewPin) (s : State) : Except Nat (Nat × State) :=
  if !live s n.parent then .error stKeyGone
  else if hasSerial n.purpose && (pinAt s (pinIdx n.parent)).childSerial ≥ 0xFFFFFFFF then .error stTableFull
  else match freePin s with
    | none => .error stTableFull
    | some i =>
      if n.kind = 2 then
        match freeSlot s with
        | none => .error stTableFull
        | some slot => .ok (pinHandle i (pinAt s i).gen, placePin n i slot s)
      else .ok (pinHandle i (pinAt s i).gen, placePin n i 0 s)

/-- The first live pin of a purpose whose record a test holds of. -/
def findPin (s : State) (purpose : Nat) (t : Pin → Bool) : Option Nat :=
  match tfind s.keys.pins fun i p => p.purpose == purpose && t p && live s (pinHandle i p.gen) with
  | some (i, p) => some (pinHandle i p.gen)
  | none => none

/-- The pin of the seed in force: DOMAIN_SEED, else SOLO_SEED. -/
def seedPin (s : State) : Option Nat :=
  match findPin s puDomain fun _ => true with
  | some h => some h
  | none => findPin s puSolo fun _ => true

/-- The INFRA pin. -/
def infraPin (s : State) : Option Nat := findPin s puInfra fun _ => true

/-! ### Random bits (R136 to R138) -/

/-- The key DRBG serves: instantiated, and the entropy source OK. -/
def drbgServes (s : State) : Bool := s.keys.keyDrbg.live && s.keys.entropy == 1

/-- A generate request of the key DRBG; `fresh` for a RANDOM pin, which is preceded by a reseed (R137). None when it
refuses. -/
def keyDraw (len : Nat) (fresh : Bool) (s : State) : Option (Bytes × State) :=
  if drbgServes s then
    let due := fresh || s.keys.keyDrbg.requests ≥ 65536
    let s := if due then count 0x2030 4 { s with keys.keyDrbg.requests := 0 } else s
    let s := { s with keys.keyDrbg.requests := s.keys.keyDrbg.requests + ceilDiv len 64 }
    some (draw len s)
  else none

/-- A 16-bit generator seed of the rounding DRBG: it serves until its next reseed falls due (R137, R138). -/
def roundDraw (s : State) : Option (Bytes × State) :=
  if s.keys.roundDrbg.live then
    if s.keys.roundDrbg.requests ≥ 65536 then
      if s.keys.entropy = 1 then
        some (draw 16 (count 0x2030 4 { s with keys.roundDrbg.requests := 1 }))
      else none
    else some (draw 16 { s with keys.roundDrbg.requests := s.keys.roundDrbg.requests + 1 })
  else none

/-- The longest run of equal bits of a sample stays below 81 (repetition count, R136). -/
def longestRun : List Bool → Bool → Nat → Nat → Nat
  | [], _, run, best => Nat.max run best
  | b :: bs, last, run, best =>
    if b == last then longestRun bs last (run + 1) best else longestRun bs b 1 (Nat.max run best)

/-- The raw bits of a window, first bit first. -/
def rawBits (raw : BitVec 1024) : List Bool := (List.range 1024).map fun i => raw.getLsbD i

/-- The repetition count test fails: 81 identical consecutive bits (R136). -/
def rctFails (raw : BitVec 1024) : Bool :=
  match rawBits raw with
  | [] => false
  | b :: bs => longestRun bs b 1 0 ≥ 81

/-- The adaptive proportion test fails: 840 occurrences of the window's first bit (R136). -/
def aptFails (raw : BitVec 1024) : Bool :=
  let bs := rawBits raw
  (bs.filter (· == bs.headD false)).length ≥ 840

/-- Count the tests a window failed. -/
def countHealth (raw : BitVec 1024) (s : State) : State :=
  let s := if rctFails raw then count 0x2030 2 s else s
  if aptFails raw then count 0x2030 3 s else s

/-! ### Wrapped keys and user flash (R117, R118, R133) -/

/-- The 16 B header of a wrapped key (R117). -/
def wrapHeader (purpose level objA objB : Nat) (wide : Bool) : Bytes :=
  [1] ++ le 1 purpose ++ le 1 level ++ le 1 (bit wide) ++ le 4 objA ++ le 4 objB ++ zeroBytes 4

/-- A key wrapped under another (R117). -/
def wrap (under iv : Bytes) (purpose level objA objB : Nat) (value : Bytes) : Bytes :=
  let hd := wrapHeader purpose level objA objB (decide (value.length = 64))
  hd ++ iv ++ Config.gcmSeal under iv hd value

/-- Unwrap a 256-bit key of the expected purpose and level (R118): OBJ_A, OBJ_B and the value. -/
def unwrap (under : Bytes) (purpose level : Nat) (w : Bytes) : Option (Nat × Nat × Bytes) :=
  if w.length = 76 && num w 0 1 = 1 && num w 1 1 = purpose && num w 2 1 = level && num w 3 1 = 0 && zeros w 12 4 then
    match Config.gcmOpen under (slice w 16 12) (slice w 0 16) (slice w 28 32) (slice w 60 16) with
    | some v => some (num w 4 4, num w 8 4, v)
    | none => none
  else none

/-- R94: a transition, blow, program or erase may start. -/
def powerGood (s : State) : Bool := !s.power.pfailLow && s.power.holdupArmed

/-- The STORAGE pin is live. -/
def storageKey (s : State) : Option Bytes :=
  let h := pinHandle 2 (pinAt s 2).gen
  if live s h then some (keyOf s h) else none

/-- Seal a user-flash record (R133); none when no IV or no STORAGE is to be had. -/
def sealRecord (id : Nat) (body : Bytes) (s : State) : Option (Bytes × State) :=
  match storageKey s, keyDraw 12 false s with
  | some k, some (iv, s) =>
    let wc := match tget s.flash.user id with
      | some old => num old 8 8 + 1
      | none => 1
    let hd := le 4 id ++ le 4 body.length ++ le 8 wc
    some (hd ++ iv ++ Config.gcmSeal k iv (hd ++ iv) body, s)
  | _, _ => none

/-- Write a user-flash record; the program is issued at the flash port (R78, R133). -/
def writeRecord (id : Nat) (body : Bytes) (s : State) : Option State :=
  match sealRecord id body s with
  | some (r, s) =>
    some (emit (.flash 1 (0xA40000 + 4096 * id) r.length)
      { s with flash.user := tput s.flash.user id r,
               flash.reqs := s.flash.reqs ++ [{ op := 1, addr := 0xA40000 + 4096 * id, record := some id }] })
  | none => none

/-- The body of a user-flash record; absent when its tag fails (R79, R133). -/
def readRecord (s : State) (id : Nat) : Option Bytes :=
  match storageKey s, tget s.flash.user id with
  | some k, some r =>
    let n := num r 4 4
    Config.gcmOpen k (slice r 16 12) (slice r 0 28) (slice r 28 n) (slice r (28 + n) 16)
  | _, _ => none

/-- Record identifiers of the model (log entry 7): the owner's hash and the memory interleave. -/
def recOwner : Nat := 1
def recInterleave : Nat := 2

/-! ### Key indices (R120 to R123) -/

/-- A FREE entry of the key-index table. -/
def kidxAt (s : State) (k : Nat) : Option Kidx := tget s.keys.kidx k

/-- An index lies in some partition's allotment. -/
def allotted (s : State) (k : Nat) : Bool :=
  s.parts.any fun e => e.2.state != 0 && e.2.kidxBase ≤ k && k < e.2.kidxBase + e.2.kidxCount

/-- The lowest free key index of a partition, or of the unallotted ones when `infra` (R122). -/
def freeKidx (s : State) (part : Nat) (infra : Bool) : Option Nat :=
  if infra then lowestSuch (fun k => !thas s.keys.kidx k && !allotted s k) 4095 1
  else match tget s.parts part with
    | some p => lowestSuch (fun k => !thas s.keys.kidx k) p.kidxCount p.kidxBase
    | none => none

/-- Bind an index to a pin. -/
def bindKidx (k pin part kind : Nat) (infra : Bool) (s : State) : State :=
  let e : Kidx := { pin := pinIdx pin, gen := pinGen pin, partition := part, infra := infra, kind := kind, state := 1,
                    orphaned := false }
  { s with keys.kidx := tput s.keys.kidx k e }

/-- The check of a key index by tension (R123): DONE when it may be used. `pool`: named in a fabric address. -/
def kidxCheck (s : State) (k : Nat) (part : Option Nat) (pool : Bool) : Nat :=
  match kidxAt s k with
  | none => stDenied
  | some e =>
    if (e.kind == 1) == pool then stDenied
    else if !e.infra && part != some e.partition then stDenied
    else if e.state = 2 || e.orphaned || !live s (pinHandle e.pin e.gen) then stKeyGone
    else stDone

/-- Count a use refused under R110. -/
def countKeyGone (st : Nat) (s : State) : State := if st = stKeyGone then count 0x2000 5 s else s

/-! ### The pin cache (R124 to R126) -/

/-- A pin is in the cache and its entry is not orphaned. Pins of levels 0 to 4 are locked in while live. -/
def cached (s : State) (h : Nat) : Bool :=
  (pinAt s (pinIdx h)).level < 5 ||
    match tget s.keys.cache (pinIdx h) with
    | some e => e.gen == pinGen h && !e.orphaned
    | none => false

/-- Some admitted unit or round-key slot refers to a pin index (R124). -/
def pinInUse (s : State) (i : Nat) : Bool :=
  (s.tension.units.any fun e => e.2.desc.pins.any fun h => pinIdx h == i) ||
  (s.tension.roundKeys.any fun e => e.2.any fun h => pinIdx h == i)

/-- Use a cached pin: it becomes the most recently used. -/
def touchPin (h : Nat) (s : State) : State :=
  { s with keys.useClock := s.keys.useClock + 1,
           keys.cache := tmod s.keys.cache (pinIdx h) fun e => { e with lastUse := s.keys.useClock + 1 } }

/-- Ask for a fill (R125): at most 64 wait in the miss queue. -/
def missPin (h : Nat) (s : State) : State :=
  if s.keys.missQueue.contains h || s.keys.missQueue.length ≥ 64 then s
  else count 0x2000 3 { s with keys.missQueue := s.keys.missQueue ++ [h] }

/-- Entries of the cache that the table of R124 has room for beside the locked pins. -/
def cacheRoom (s : State) : Nat :=
  8192 - tcount s.keys.pins fun _ p => decide (p.level < 5) && p.state == 1

/-- The least recently used replaceable entry (R124). -/
def cacheVictim (s : State) : Option Nat :=
  match (s.keys.cache.filter fun e => !pinInUse s e.1) with
  | [] => none
  | e :: es => some (es.foldl (fun m x => if x.2.lastUse < m.2.lastUse then x else m) e).1

/-! ### Invalidation (R127 to R130) -/

/-- Some admitted unit uses a pin of the subtree. -/
def subtreeInUse (s : State) (i : Nat) : Bool :=
  s.tension.units.any fun e => e.2.desc.pins.any fun h => below s i (pinIdx h)

/-- Remove an admitted unit and give back what it holds: its bobbin backlog, its tickets, its booked nodes (R48). -/
def dropUnit (n : Nat) (s : State) : State :=
  match tget s.tension.units n with
  | none => s
  | some u =>
    let key := u.desc.partition.getD 0 * 64 + u.pillow
    { s with tension.units := tdel s.tension.units n,
             tension.bookedNodes := s.tension.bookedNodes - u.desc.booked,
             tension.backlog := if u.cls = 0 || u.issued then s.tension.backlog
               else tmod s.tension.backlog u.bobbin (· - u.desc.cost),
             tension.ticketsOut := if u.cls = 0 && !u.issued then
               tmod s.tension.ticketsOut key (· - u.desc.cost) else s.tension.ticketsOut }

/-- Remove every admitted unit that a test holds of; each completes with a status (R48). -/
def squashUnits (t : UnitRec → Bool) (st : Nat) (s : State) : State :=
  each (s.tension.units.filter fun e => t e.2) (fun e s => emit (.unit e.1 st) (dropUnit e.1 s)) s

/-- Complete the waiting units that a test holds of, without entering (R128 step 2). -/
def refuseHeld (t : UnitDesc → Bool) (st : Nat) (s : State) : State :=
  each (s.tension.held.filter fun u => t u.1) (fun _ s => emit (.unit 0 st) s)
    { s with tension.held := s.tension.held.filter fun u => !t u.1 }

/-- Steps 1 to 4 of R128 for the pin at an index. -/
def startInval (i : Nat) (squash : Bool) (absorbed : List Nat) (s : State) : State :=
  let p := pinAt s i
  let sub := fun j => below s i j
  let s1 := { s with
    keys.pins := tmod s.keys.pins i fun q =>
      { q with state := 2, gen := if p.gen ≥ 0xFFFF then p.gen else p.gen + 1 },
    keys.cache := tmapAll s.keys.cache fun j e => if sub j then { e with orphaned := true } else e,
    keys.kidx := tmapAll s.keys.kidx fun _ e => if sub e.pin then { e with orphaned := true } else e,
    keys.inval := tput s.keys.inval i { squash := squash, absorbed := absorbed, startTick := s.tick },
    tally.walks := s.tally.walks.filter fun w =>
      !(match tget s.tally.regions w.slot with | some r => sub r.pin | none => false),
    tally.migrations := s.tally.migrations.filter fun m =>
      !(match tget s.tally.regions m.1 with | some r => sub r.pin | none => false),
    tension.roundKeys := tmapAll s.tension.roundKeys fun _ l => l.filter fun h => !sub (pinIdx h) }
  let s2 := refuseHeld (fun u => u.pins.any fun h => sub (pinIdx h)) stKeyGone s1
  if squash then squashUnits (fun u => u.desc.pins.any fun h => sub (pinIdx h)) stKeyGone s2 else s2

/-- Request the invalidation of a pin from inside the block (R127 to R129): absorbed by an enclosing one, absorbing
running ones below it, waiting when 16 run. A FREE or RETIRED record needs none. -/
def invalidate (h : Nat) (squash : Bool) (s : State) : State :=
  let i := pinIdx h
  if (pinAt s i).state ≠ 1 || (pinAt s i).gen ≠ pinGen h then s
  else
    match (ancestors s 6 i).find? fun a => thas s.keys.inval a with
    | some a =>
      let f := fun (v : Inval) => { v with absorbed := v.absorbed ++ [i], squash := v.squash || squash }
      { s with keys.inval := tmod s.keys.inval a f }
    | none =>
      let inner := s.keys.inval.filter fun e => below s i e.1
      if inner.isEmpty && s.keys.inval.length ≥ 16 then
        { s with keys.invalWaiting := s.keys.invalWaiting ++ [(i, squash)] }
      else
        let abs := inner.flatMap fun e => e.1 :: e.2.absorbed
        let sq := squash || inner.any fun e => e.2.squash
        startInval i sq abs { s with keys.inval := s.keys.inval.filter fun e => !below s i e.1 }

/-- A record is freed by the sweep (R111, R128 step 5). -/
def sweepPin (named : Bool) (p : Pin) : Pin :=
  let stuck := decide (p.gen ≥ 0xFFFF)
  let g := if named || stuck then p.gen else p.gen + 1
  { noPin with gen := g, state := if stuck then 4 else 0 }

/-- Free the region of a POOL_REGION pin: its slot, its key index and its tally entries (R173). -/
def freeRegion (slot : Nat) (s : State) : State :=
  match tget s.tally.regions slot with
  | none => s
  | some r =>
    { s with tally.regions := tdel s.tally.regions slot,
             tally.nodes := s.tally.nodes.filter fun n => n.slot != slot,
             tally.walks := s.tally.walks.filter fun w => w.slot != slot,
             tally.migrations := s.tally.migrations.filter fun m => m.1 != slot,
             tally.damage := s.tally.damage.filter fun d => d.1 != slot,
             tally.lineWrites := s.tally.lineWrites.filter fun w => w.1 != slot,
             tally.lastWalk := tdel s.tally.lastWalk slot,
             keys.kidx := tdel s.keys.kidx r.kidx }

/-- Steps 5 and 6 of R128 for the pin at an index. The slots of its regions go with it, but for those that a hand-over
still needs (R240, R241). -/
def sweep (i : Nat) (s : State) : State :=
  let sub := fun j => below s i j
  let abs := match tget s.keys.inval i with | some v => v.absorbed.length | none => 0
  let slots := (s.keys.pins.filter fun e => sub e.1 && e.2.kind == 2).map fun e => e.2.heldSlot
  let held := fun k => (s.fabric.offers.any fun o => o.slot == k) || s.fabric.tokens.any fun x => x.slot == k
  let regs := (s.tally.regions.filter fun e => sub e.2.pin && !held e.1).map (·.1)
  let s := each regs freeRegion s
  let s := { s with
    keys.held := s.keys.held.filter fun e => !slots.contains e.1,
    keys.cache := s.keys.cache.filter fun e => !sub e.1,
    keys.missQueue := s.keys.missQueue.filter fun h => !sub (pinIdx h),
    keys.kidx := s.keys.kidx.filter fun e => !(sub e.2.pin && e.2.kind == 1),
    keys.pins := tmapAll s.keys.pins fun j p => if sub j && p.state != 0 && p.state != 4 then sweepPin (j == i) p else p,
    keys.inval := tdel s.keys.inval i }
  let s := countBy 0x2000 6 (1 + abs) s
  match s.keys.invalWaiting with
  | (j, sq) :: rest =>
    let s := { s with keys.invalWaiting := rest }
    if (pinAt s j).state = 1 then invalidate (pinHandle j (pinAt s j).gen) sq s else s
  | [] => s

/-- A seed and what hangs directly under it (R119, R121, R132): the seed pin, INFRA, key index 0x000, and for a domain
LINKS, DOMAIN_WRAP and OPERATOR (R380). -/
def installSeed (dom : Bool) (session : Nat) (value : Bytes) (source : Nat) (s : State) : State :=
  let parent := pinHandle 3 (pinAt s 3).gen
  let seed : NewPin :=
    { purpose := if dom then puDomain else puSolo, level := 3, kind := 2, objA := if dom then session % 2 ^ 32 else 0,
      objB := if dom then session / 2 ^ 32 else 0, parent := parent, value := value, source := source }
  match createPin seed s with
  | .error _ => s
  | .ok (sh, s) =>
    let derived := fun pu (s : State) =>
      match createPin { purpose := pu, level := 4, kind := 1, objA := 0, objB := 0, parent := sh, value := [],
                        source := 0 } s with
      | .ok (_, s) => s
      | .error _ => s
    let s := if dom then derived puOperator (derived puWrap (derived puLinks s)) else s
    let s := derived puInfra s
    match infraPin s with
    | none => s
    | some inf =>
      match createPin { purpose := puLocal, level := 5, kind := 1, objA := 0, objB := 0, parent := inf, value := [],
                        source := 0 } s with
      | .error _ => s
      | .ok (lh, s) => bindKidx 0 lh 0 1 true s

/-- Panel size and member number (R74, R80). -/
def panelSize (s : State) : Nat := s.pins.gangSize.toNat + 1
def memberId (s : State) : Nat := s.pins.gangId.toNat

/-- The member draws the seeds and the member key (R119, R384, R385): it stands alone, is member 0, or the panel has
split. -/
def leads (s : State) : Bool := panelSize s == 1 || memberId s == 0 || s.gang.panel == 3

/-- Draw a SOLO_SEED with a fresh reseed (R119, R132); it waits while the key DRBG refuses (R138). A member that does not
lead its panel waits for member 0's (log entry 25). -/
def drawSolo (s : State) : State :=
  if !leads s then s
  else match keyDraw 32 true s with
    | some (v, s) => installSeed false 0 v 0 { s with keys.seedPending := 0 }
    | none => { s with keys.seedPending := 1 }

/-- Put a member key seed into the held store in place of an earlier one (R361). -/
def setMember (v : Bytes) (s : State) : State :=
  let s := match s.domain.memberSlot with
    | some k => { s with keys.held := tdel s.keys.held k }
    | none => s
  match freeSlot s with
  | some k => { s with keys.held := tput s.keys.held k v, domain.memberSlot := some k }
  | none => { s with domain.memberSlot := none }

/-- Zeroise the member key seed. -/
def dropMember (s : State) : State :=
  match s.domain.memberSlot with
  | some k => { s with keys.held := tdel s.keys.held k, domain.memberSlot := none }
  | none => s

/-- Draw the member key seed (R359); it waits while the key DRBG refuses (R138). -/
def drawMember (s : State) : State :=
  if !leads s then s
  else match keyDraw 32 false s with
    | some (v, s) => setMember v s
    | none => s

/-! ### The commands of the key island -/

/-- PIN_INVALIDATE (R127, R129): level-5 handles that are live; a repeated request is not live. -/
def ownPinInvalidate (v : Nat) (s : State) : Own :=
  guarded [((pinAt s (pinIdx v)).state != 0 && (pinAt s (pinIdx v)).level < 5, abRange), (!live s v, abState),
    (decide (s.keys.inval.length ≥ 16), abBusy)]
    (invalidate v (setting s 0x2002 2 == 1) s)

/-- KIDX_BIND (R122). -/
def ownKidxBind (r : OdReq) (v : Nat) (s : State) : Own :=
  let part := fld v 0 6
  let infra := tbit v 6
  let parent := if infra then infraPin s
    else match tget s.parts part with
      | some p => if p.state = 1 then some (pinHandle p.pin p.pinGen) else none
      | none => none
  match firstAbort [(v / 128 != 0 || decide (part ≥ partitionsOf s.cfg), abRange),
      ((match parent with | some h => !live s h | none => true), abState)], parent, freeKidx s part infra with
  | some a, _, _ => .abort a
  | none, some h, some k =>
    (match createPin { purpose := puLocal, level := 5, kind := 1, objA := k, objB := 0, parent := h, value := [],
                       source := 0 } s with
     | .ok (lh, s) => .ok (setMine r 0x2101 3 k (bindKidx k lh (if infra then 0 else part) 1 infra s))
     | .error _ => .abort abBusy)
  | none, _, _ => .abort abBusy

def execKidxBind (r : OdReq) (v : BitVec 32) (s : State) : Host.Outcome State Fault Refusal :=
  .next (odWrite r 0x2101 1 (le 4 v.toNat) (ownKidxBind r v.toNat) s)

/-- An ancestor of the pin at an index is being invalidated (R129). -/
def nested (s : State) (i : Nat) : Bool := (ancestors s 6 i).any fun a => a != i && thas s.keys.inval a

/-- KIDX_UNBIND (R122): the entry reads UNBINDING until the sweep frees it. Inside a subtree that is being invalidated it
completes with the enclosing invalidation; while its own pin's invalidation runs it is refused (R129). -/
def ownKidxUnbind (v : Nat) (s : State) : Own :=
  match kidxAt s v with
  | none => if v = 0 || v > 0xFFF then .abort abRange else .abort abState
  | some e =>
    guarded [(v == 0, abRange), (e.state != 1 || e.kind == 2 || thas s.keys.inval e.pin, abState),
      (!nested s e.pin && decide (s.keys.inval.length ≥ 16), abBusy)]
      (invalidate (pinHandle e.pin e.gen) (setting s 0x2002 2 == 1)
        { s with keys.kidx := tmod s.keys.kidx v fun x => { x with state := 2 } })

/-- A health test fails in operation (R136, R138): the source is FAILED until a later start-up test passes. -/
def execEntropyHealthFail (raw : BitVec 1024) (s : State) : Host.Outcome State Fault Refusal :=
  .next (if s.keys.entropy = 1 && (rctFails raw || aptFails raw) then
    let s := countHealth raw s
    { s with keys.entropy := 2, keys.entropyFails := 1, keys.entropyFailTick := s.tick }
  else s)

/-- INC is drawn once (R218). -/
def drawInc (s : State) : State :=
  match s.keys.inc, keyDraw 4 false s with
  | none, some (b, s) => { s with keys.inc := some (ofLe b) }
  | _, _ => s

/-- The draws that waited for the key DRBG are made (R138): the SOLO_SEED, INC and the member key seed. -/
def pendingDraws (s : State) : State :=
  let s := if s.keys.seedPending = 1 then drawSolo s else s
  let s := if s.seq.phase ≥ 7 && !basting s then drawInc s else s
  if s.seq.phase ≥ 8 && !basting s && s.fw.step = 0 && s.domain.memberSlot.isNone then drawMember s else s

/-- The start-up test rerun 1,000 ticks after a failure (R138): a pass reseeds both generators; the third consecutive
failure makes the source DEAD. -/
def entropyRetest (raw : BitVec 1024) (s : State) : State :=
  if s.keys.entropy = 2 && s.tick ≥ s.keys.entropyFailTick + 1000 then
    let s := count 0x2030 6 s
    if rctFails raw || aptFails raw then
      let s := countHealth raw s
      let n := s.keys.entropyFails + 1
      { s with keys.entropyFails := n, keys.entropyFailTick := s.tick, keys.entropy := if n ≥ 3 then 3 else 2 }
    else
      let s := countBy 0x2030 4 2 { s with keys.entropy := 1, keys.entropyFails := 0,
                                            keys.keyDrbg := { live := true, requests := 0 },
                                            keys.roundDrbg := { live := true, requests := 0 } }
      pendingDraws s
  else s

/-- RAW_SAMPLE (R139): 1,024 raw bits in the open state; the bits are free values. -/
def readRaw (r : OdReq) (s : State) : State :=
  let g := readGate s r 0x2030 5 false
  if g ≠ 0 then answer r 1 0x2030 5 g 0 0 [] s
  else if !isOpen s then answer r 1 0x2030 5 abState 0 0 [] s
  else
    let (raw, s) := freshBytes 128 s
    answer r 1 0x2030 5 0 0 0 raw s

def execRawSampleRead (r : OdReq) (s : State) : Host.Outcome State Fault Refusal :=
  .next (if pathUp s r then readRaw r s else s)

/-- A fill ends (R125): the oldest miss is installed over the least recently used replaceable entry; a pin that is no
longer live is dropped (R129), and a full cache with nothing replaceable keeps the miss waiting (R126). -/
def fillPin (s : State) : State :=
  match s.keys.missQueue with
  | [] => s
  | h :: rest =>
    if !live s h then { s with keys.missQueue := rest }
    else if s.keys.cache.length ≥ cacheRoom s && (cacheVictim s).isNone then s
    else
      let s := if s.keys.cache.length ≥ cacheRoom s then
          (match cacheVictim s with
           | some v => { s with keys.cache := tdel s.keys.cache v }
           | none => s)
        else s
      let s := if (pinAt s (pinIdx h)).kind = 1 then count 0x2000 4 s else s
      { s with keys.missQueue := rest, keys.useClock := s.keys.useClock + 1,
               keys.cache := tput s.keys.cache (pinIdx h)
                 { gen := pinGen h, orphaned := false, lastUse := s.keys.useClock + 1 } }

end Sys2Proof.Machine
end

