-- ==== Sys2Proof/Machine/HostBase.lean ====
section
/-! DEFINITION. What the host channel is made of: handles, references, events and their signalling, descriptors and
their fields, sealed completion slots, faults and fetching (R278 to R315). -/

namespace Sys2Proof.Machine

/-! ### Handles, contexts, queues (R278 to R280, R294) -/

/-- INDEX and GEN of a memory-object or event handle (R278). -/
def hIdx (h : Nat) : Nat := h % 2 ^ 18
def hGen (h : Nat) : Nat := h / 2 ^ 18 % 2 ^ 14
def mkHandle (i g : Nat) : Nat := i + 2 ^ 18 * g

/-- A queue as CONTEXT_CREATE leaves it (R281). -/
def newQueue : Queue :=
  { state := 0, keyPin := 0, key := [], ringBase := 0, ringLog2 := 8, complBase := 0, doorbell := 0xFFFF,
    aliveNext := 0, consumer := 0, producer := 0, rejects := 0, refused := false, fetching := false }

/-- A context as CONTEXT_CREATE makes it (R281, R315). -/
def newCtx (part pasid proc : Nat) : Ctx :=
  { state := 1, partition := part, pasid := pasid, faultReason := 0, ownerProc := proc, resets := 0, overflow := [],
    spill := false, intrBase := 0, intrLog2 := 6, msiAddr := 0, msiData := 0, faultEvent := 0,
    faultRecord := zeroBytes 16, intrSeq := 0, bouncePins := [0, 0], floors := [0, 0], patFloor := 0 }

/-- A partition exists and no teardown of it runs (R349, R352). -/
def partLive (s : State) (p : Nat) : Bool :=
  match tget s.parts p with | some x => x.state == 1 | none => false

def ctxAt (s : State) (c : Nat) : Option Ctx := tget s.host.ctxs c

/-- STATE of a context: 0 FREE when it is not listed. -/
def ctxState (s : State) (c : Nat) : Nat :=
  match ctxAt s c with | some x => x.state | none => 0

def queueAt (s : State) (q : Nat) : Queue := tgetD s.host.queues q newQueue

def setQueue (q : Nat) (f : Queue → Queue) (s : State) : State :=
  { s with host.queues := tput s.host.queues q (f (queueAt s q)) }

def setCtx (c : Nat) (f : Ctx → Ctx) (s : State) : State := { s with host.ctxs := tmod s.host.ctxs c f }

/-! ### Memory objects (R283, R286, R287) -/

def noObj : MemObj :=
  { state := 0, kind := 0, read := false, write := false, ctx := 0, partition := 0, gen := 0, base := 0, length := 0,
    kidx := 0, dev := 0, host := 0 }

def objAt (s : State) (i : Nat) : MemObj := tgetD s.host.objs i noObj

/-- An object whose counts are both zero is freed and its GEN advances (R278, R287). A LIVE object without host
references is DYING. -/
def settleObj (o : MemObj) : MemObj :=
  if o.state = 0 then o
  else if o.host = 0 && o.dev = 0 then { noObj with gen := (o.gen + 1) % 2 ^ 14 }
  else if o.host = 0 && o.state = 1 then { o with state := 2 }
  else o

def modObj (i : Nat) (f : MemObj → MemObj) (s : State) : State :=
  { s with host.objs := tmod s.host.objs i fun o => settleObj (f o) }

/-- Add and drop a device reference on a memory object. -/
def refObj (i : Nat) (s : State) : State := modObj i (fun o => { o with dev := o.dev + 1 }) s
def unrefObj (i : Nat) (s : State) : State := modObj i (fun o => { o with dev := o.dev - 1 }) s

/-! ### Events (R289 to R293) -/

def noEvent : Event :=
  { state := 0, hostSignal := false, shared := false, intr := false, orphan := false, dying := false, sigStatus := 0,
    ctx := 0, partition := 0, gen := 0, signallers := 0, dev := 0, host := 0, cookie := 0, sigIsland := 0x3E,
    sigLseq := 0 }

def eventAt (s : State) (i : Nat) : Event := tgetD s.host.events i noEvent

/-- An event whose counts are both zero is freed (R287). One that only device references hold is DYING. An event of a
destroyed context stays until its abandonment is settled (R293, log entry 8). -/
def settleEvent (e : Event) : Event :=
  if e.state = 0 then e
  else if e.host = 0 && e.dev = 0 then { noEvent with gen := (e.gen + 1) % 2 ^ 14 }
  else if e.host = 0 && e.state ≠ 3 then { e with dying := true }
  else e

def modEvent (i : Nat) (f : Event → Event) (s : State) : State :=
  { s with host.events := tmod s.host.events i fun e => settleEvent (f e) }

/-! ### Transfers (R224, R303) -/

/-- The sources of R224 that are no SRC_ID (log entry 41): a context, and a partition where there are no contexts. -/
def ctxSource (c : Nat) : Nat := 65536 + c
def partSource (p : Nat) : Nat := 66560 + p

/-- A request that a transfer of the block makes: its port is its source's number, its class its job's. -/
def internal (q : MeshReq) : Bool := decide (q.port ≥ 65536)

def modXfer (job : Nat) (f : XferRun → XferRun) (s : State) : State :=
  { s with host.xfers := tmod s.host.xfers job f }

/-- The access of a transfer has its answer. -/
def accessDone (job st good : Nat) (data : Bytes) (s : State) : State :=
  modXfer job (fun x => { x with acc := x.acc.map fun a => { a with got := some { st := st, good := good, data := data } } }) s

/-- A transfer ends: what it has asked for and tension holds is withdrawn. -/
def dropJob (job : Nat) (s : State) : State :=
  { s with host.xfers := tdel s.host.xfers job,
           ports.heldReqs := s.ports.heldReqs.filter fun q => !(internal q && q.vch == job),
           ports.heldMarks := s.ports.heldMarks.filter fun m => !(decide (m.1 ≥ 65536) && m.2.1 == job) }

/-- A write that the transfer of a descriptor has made is not acknowledged (R303). -/
def writeDue (s : State) (job : Nat) : Bool :=
  match tget s.host.xfers job with
  | some x => (match x.acc with | some a => a.write && a.got.isNone | none => false)
  | none => false

/-! ### The shuttle lock and the purl job (R395, R396, R402, R404) -/

/-- A context may own the shuttle lock for a partition: ACTIVE and of the partition; the switch and tray profiles have no
contexts and ignore the field (R390, R395). -/
def lockable (s : State) (part c : Nat) : Bool :=
  profile s != 0 || match ctxAt s c with
    | some x => x.state == 1 && x.partition == part
    | none => false

/-- The lock is granted with its ticket, context and lease: every field takes its reset value (R394, R395). -/
def grantShuttle (part ticket c lease : Nat) (s : State) : State :=
  let sh : Shuttle :=
    { owner := some (part, c), ticket := ticket, leaseLeft := lease, waiting := tdel s.shuttle.waiting part,
      lastHolder := part, regs := [], state := 0, status := 0, refs := [], job := 0 }
  count 0xB090 1 { s with shuttle := sh }

/-- Pass a free lock on: the pending requests in round-robin order after the last holder; one whose context is no longer
ACTIVE is dropped (R395). -/
def passShuttle : List Nat → State → State
  | [], s => s
  | p :: ps, s =>
    if s.shuttle.owner.isSome then s
    else match tget s.shuttle.waiting p with
      | none => passShuttle ps s
      | some (ticket, c, lease) =>
        if lockable s p c then grantShuttle p ticket c lease s
        else passShuttle ps { s with shuttle.waiting := tdel s.shuttle.waiting p }

/-- Partitions in round-robin order after one. -/
def roundAfter (s : State) (last : Nat) : List Nat :=
  (List.range (partitionsOf s.cfg)).map fun i => (last + 1 + i) % partitionsOf s.cfg

/-- The lock is freed (R396): a running job ends without a status, every field is reset, the lock passes on. -/
def freeShuttle (s : State) : State :=
  match s.shuttle.owner with
  | none => s
  | some (p, _) =>
    let s := each s.shuttle.refs unrefObj (if s.shuttle.state = 1 then count 0xB090 5 (dropJob s.shuttle.job s) else s)
    let sh : Shuttle :=
      { owner := none, ticket := 0, leaseLeft := 0, waiting := s.shuttle.waiting, lastHolder := p, regs := [], state := 0,
        status := 0, refs := [], job := 0 }
    passShuttle (roundAfter s sh.lastHolder) { s with shuttle := sh }

/-- The owning context has left ACTIVE (R396). -/
def loseShuttle (c : Nat) (s : State) : State :=
  if profile s = 0 && (match s.shuttle.owner with | some (_, x) => x == c | none => false) then freeShuttle s else s

/-- Reset values of a partition's purl registers (R401). -/
def newPurl : PurlRegs :=
  { regs := [], nextAlive := 1, resultAlive := 0, rstate := 0, rstatus := 0, result := 0, bytesDone := 0 }

def purlAt (s : State) (p : Nat) : PurlRegs := tgetD s.purl.parts p newPurl

/-- The running purl job ends: result and status written, references dropped (R392, R402). -/
def endPurl (st result done : Nat) (s : State) : State :=
  match s.purl.running with
  | none => s
  | some p =>
    let x := { purlAt s p with rstate := 2, rstatus := st, result := result, bytesDone := done }
    let s := each s.purl.refs unrefObj s
    let s := dropJob s.purl.xfer s
    { s with purl := { s.purl with parts := tput s.purl.parts p x, running := none, refs := [] } }

/-- CONTEXT of the running purl job (R401). -/
def purlCtx (s : State) : Nat := fld (tgetD s.purl.job 0 0).toNat 32 10

/-- The running purl job ends from outside after the bytes it has scanned; what RESULT then shows is a free value (log
entry 17). -/
def cutPurl (st : Nat) (s : State) : State :=
  let n := match tget s.host.xfers s.purl.xfer with | some x => x.buf.length | none => 0
  let (crc, s) := freshNat s
  endPurl st (crc % 2 ^ 64) n s

/-- A context is reset or destroyed (R404): its lock is freed, pending requests naming it are dropped, its running purl
job ends with CONTEXT_RESET after the bytes it has scanned. -/
def endServices (c : Nat) (s : State) : State :=
  let s := loseShuttle c { s with shuttle.waiting := s.shuttle.waiting.filter fun e => e.2.2.1 != c }
  if s.purl.running.isSome && profile s = 0 && purlCtx s = c then cutPurl stContextReset s else s

/-! ### Descriptors (R301, R302) -/

def opc (d : Desc) : Nat := num d.bytes 4 1
def flagOf (d : Desc) (b : Nat) : Bool := tbit (num d.bytes 5 1) b
def fComplete (d : Desc) : Bool := flagOf d 0
def fOverlap (d : Desc) : Bool := flagOf d 1
def fCont (d : Desc) : Bool := flagOf d 2
def fStore (d : Desc) : Bool := flagOf d 3
def fClearOk (d : Desc) : Bool := flagOf d 4
def fConsume (d : Desc) : Bool := flagOf d 5
def fBusyWait (d : Desc) : Bool := flagOf d 6

/-- Context of a descriptor. -/
def descCtx (d : Desc) : Nat := d.queue / 4

/-- Partition of a descriptor's context. -/
def descPart (s : State) (d : Desc) : Nat :=
  match ctxAt s (descCtx d) with | some c => c.partition | none => 0

/-- A node whose SIGNAL or WAIT names a local fence (R318): bit 0 of NODE_FLAGS stands in byte 56 of its frame. -/
def isFence (d : Desc) : Bool := d.node.isSome && tbit (num d.bytes 56 1) 0

/-- The memory-object handles a descriptor names (R302). -/
def objHandles (d : Desc) : List Nat :=
  let o := opc d
  if o = 0x01 || o = 0x02 || o = 0x03 || o = 0x04 || o = 0x0D || o = 0x10 || o = 0x11 then
    [num d.bytes 8 4, num d.bytes 12 4]
  else if o = 0x06 then [num d.bytes 8 4]
  else []

/-- The event handles a descriptor names (R302). -/
def eventHandles (d : Desc) : List Nat :=
  if (opc d = 0x08 || opc d = 0x09) && !isFence d then [num d.bytes 8 4] else []

/-- A handle names a LIVE memory object of its GEN. -/
def objFresh (s : State) (h : Nat) : Bool :=
  hIdx h != 0 && (objAt s (hIdx h)).state == 1 && (objAt s (hIdx h)).gen == hGen h

/-- A handle names an event that can take references: UNSIGNALLED or SIGNALLED, of its GEN, not DYING. -/
def eventFresh (s : State) (h : Nat) : Bool :=
  hIdx h != 0 && ((eventAt s (hIdx h)).state == 1 || (eventAt s (hIdx h)).state == 2) &&
    (eventAt s (hIdx h)).gen == hGen h && !(eventAt s (hIdx h)).dying

/-- Take the device references of a descriptor (R286, R298). -/
def takeRefs (d : Desc) (s : State) : Desc × State :=
  let objs := ((objHandles d).filter (objFresh s)).map hIdx
  let evs := ((eventHandles d).filter (eventFresh s)).map hIdx
  let sig := opc d == 0x08
  let s := each objs refObj s
  let s := each evs (fun i s => modEvent i (fun e =>
    { e with dev := e.dev + 1, signallers := if sig then e.signallers + 1 else e.signallers }) s) s
  ({ d with objs := objs, evs := evs }, s)

/-! ### Interrupts, signalling, abandonment (R290 to R293) -/

/-- The host-port island's number (R29). -/
def hostIsland : Nat := 2

/-- The interrupt record of a signalled event (R292). -/
def interrupt (i : Nat) (e : Event) (s : State) : State :=
  match ctxAt s e.ctx with
  | none => s
  | some c =>
    let r := le 8 e.cookie ++ le 4 (mkHandle i e.gen) ++ le 4 c.intrSeq
    let s := setCtx e.ctx (fun c => { c with intrSeq := (c.intrSeq + 1) % 2 ^ 32 }) s
    meshIssue (.record e.ctx) (c.intrBase + 16 * (c.intrSeq % 2 ^ c.intrLog2)) 16 true (some c.pasid) r s

/-- Give a started descriptor its outcome: status, RESULT, FAULT_HANDLE, FAULT_OFFSET. -/
def setOutcome (d st result fh fo : Nat) (s : State) : State :=
  { s with host.descs := tmod s.host.descs d fun x =>
                           if x.outcome.isNone then { x with outcome := some (st, result, fh, fo) } else x }

/-- A started WAIT descriptor or node that waits for an event. -/
def waitsOn (i : Nat) (d : Desc) : Bool :=
  d.started && d.outcome.isNone && (eventHandles d).any fun h => opc d == 0x09 && hIdx h == i

/-- A WAIT_END record (R472). -/
def tackWaitEnd (d : Desc) (i : Nat) (s : State) : State :=
  let e := eventAt s i
  tack { rtype := 2, island := hostIsland, partition := descPart s d, context := descCtx d,
         object := mkHandle i e.gen, sigIsland := e.sigIsland, sigEp := 0, sigLseq := e.sigLseq, detail := 0 } s

/-- Release a waiting descriptor with the event's status and cookie (R290, R302). -/
def releaseWait (i : Nat) (e : Nat × Desc) (s : State) : State :=
  setOutcome e.1 (eventAt s i).sigStatus (eventAt s i).cookie 0 0 (tackWaitEnd e.2 i s)

/-- The earliest-started of some descriptors. -/
def earliest : List (Nat × Desc) → Option (Nat × Desc)
  | [] => none
  | e :: es => some (es.foldl (fun m x => if x.2.order < m.2.order then x else m) e)

/-- Release the waiters of a SIGNALLED event (R290): all without CONSUME, then the earliest-started with CONSUME, which
returns the event to UNSIGNALLED unless it was abandoned; an abandoned event releases them all (R293). -/
def releaseWaiters (i : Nat) (s : State) : State :=
  let ws := s.host.descs.filter fun e => waitsOn i e.2
  let plain := ws.filter fun e => !fConsume e.2
  let eat := ws.filter fun e => fConsume e.2
  let s := each plain (releaseWait i) s
  if (eventAt s i).sigStatus = stAbandoned then each eat (releaseWait i) s
  else match earliest eat with
    | some e => modEvent i (fun x => { x with state := 1, sigStatus := 0 }) (releaseWait i e s)
    | none => s

/-- Signal an UNSIGNALLED event with a status (R290); any other event is unchanged. An ORPHAN that is signalled is
settled: it goes to DETACHED, or is freed (R288, R293). -/
def signalEvent (i st : Nat) (s : State) : State :=
  let e := eventAt s i
  if e.state ≠ 1 then s
  else
    let n := nextLseq s hostIsland
    let on := tackOn 1 s
    let s := tack { rtype := 1, island := hostIsland, partition := e.partition, context := e.ctx,
                    object := mkHandle i e.gen, sigIsland := 0x3E, sigEp := 0, sigLseq := 0, detail := 0 } s
    let s := modEvent i (fun x => { x with state := 2, sigStatus := st, sigIsland := if on then hostIsland else 0x3E,
                                           sigLseq := if on then n else 0 }) s
    let s := if e.intr then interrupt i e s else s
    let s := releaseWaiters i s
    if e.orphan then modEvent i (fun x => { x with state := 3, orphan := false }) s else s

/-- Abandon an event when its owner is gone and nothing can signal it (R293). -/
def abandon (i : Nat) (s : State) : State :=
  let e := eventAt s i
  if e.state = 1 && e.orphan && e.signallers = 0 then count 0xB070 8 (signalEvent i stAbandoned s) else s

/-- Drop a device reference on an event; `sig` one that could signal it. -/
def unrefEvent (i : Nat) (sig : Bool) (s : State) : State :=
  abandon i (modEvent i (fun e =>
    { e with dev := e.dev - 1, signallers := if sig then e.signallers - 1 else e.signallers }) s)

/-- Drop the device references of a descriptor. -/
def dropRefs (d : Desc) (s : State) : State :=
  let s := each d.objs unrefObj s
  each d.evs (fun i s => unrefEvent i (opc d == 0x08) s) s

/-! ### Faults (R311) -/

/-- An event of FAULT_REASON in a context. -/
def ctxFault (c reason queue status seq addr : Nat) (s : State) : State :=
  let s := count 0xB070 7 s
  match ctxAt s c with
  | none => s
  | some x =>
    if x.state ≠ 1 then s
    else
      let rec_ := le 1 reason ++ le 1 queue ++ le 1 status ++ [0] ++ le 4 seq ++ le 8 addr
      let s := loseShuttle c (setCtx c (fun y => { y with state := 2, faultReason := reason, faultRecord := rec_ }) s)
      if x.faultEvent = 0 then s else signalEvent (hIdx x.faultEvent) stDone s

/-! ### Completion slots (R304, R305, R312) -/

/-- The IV of a queue key's use (R298): its first byte, the queue, bytes 7:4, bytes 11:8. -/
def queueIv (use q mid low : Nat) : Bytes := le 1 use ++ [0] ++ be 2 q ++ be 4 mid ++ be 4 low

/-- The completion record (R304). -/
def completionRecord (st op q alive seq result fh fo : Nat) : Bytes :=
  le 1 st ++ le 1 op ++ le 2 (q / 4 + 1024 * (q % 4)) ++ le 4 alive ++ le 4 seq ++ le 8 result ++ le 4 fh ++ le 8 fo

/-- A sealed completion slot (R305): record, tag, clear trailer. KIND 0x02 completion, 0x03 rejection. -/
def sealSlot (key : Bytes) (kind q seq rejects alive : Nat) (rec_ : Bytes) : Bytes :=
  let trailer := le 4 seq ++ le 1 kind ++ zeroBytes 3 ++ le 4 rejects ++ le 4 alive
  Config.gcmSeal key (queueIv kind q (if kind = 3 then rejects else 0) alive) trailer rec_ ++ trailer

/-- Add a slot to the overflow ring of 64 entries (R312). -/
def spillSlot (c : Nat) (slot : Bytes) (s : State) : State :=
  setCtx c (fun x => { x with overflow := (x.overflow ++ [slot]).take 64 }) s

/-- Write a completion slot to host memory, or to the overflow ring once a write has failed (R305, R312). -/
def writeSlot (q seq : Nat) (slot : Bytes) (s : State) : State :=
  match ctxAt s (q / 4) with
  | none => s
  | some c =>
    if c.spill && c.state ≠ 1 then spillSlot (q / 4) slot s
    else
      let x := queueAt s q
      meshIssue (.completion (q / 4) (q % 4) slot) (x.complBase + 64 * (seq % 2 ^ x.ringLog2)) 64 true (some c.pasid)
        slot s

/-- The response to a completion-slot write (R311, R312). -/
def slotDone (c q : Nat) (slot : Bytes) (addr st : Nat) (s : State) : State :=
  if st = stDone then s
  else match ctxAt s c with
    | none => s
    | some x =>
      let s := ctxFault c 1 q st (num slot 48 4) addr s
      if x.state = 4 then s
      else setCtx c (fun y => { y with spill := true }) (spillSlot c slot s)

/-- The response to an interrupt-record write (R292, R311). -/
def recordDone (c addr st : Nat) (s : State) : State :=
  match ctxAt s c with
  | none => s
  | some x =>
    if st = stDone then sendMsi x.msiAddr x.msiData s
    else ctxFault c 4 0xFF st 0 addr (count 0xB070 6 s)

/-! ### Fetching (R297, R298, R300) -/

/-- Descriptors of a queue that have been fetched and not completed. -/
def queueDescs (s : State) (q : Nat) : List (Nat × Desc) :=
  s.host.descs.filter fun e => e.2.queue == q && e.2.node.isNone

/-- Pending descriptors of a queue: (PRODUCER − CONSUMER) mod 2^32. -/
def pendingOf (x : Queue) : Nat := (x.producer + 2 ^ 32 - x.consumer) % 2 ^ 32

/-- A rejection record (R298, R300). -/
def reject (q alive : Nat) (s : State) : State :=
  let x := queueAt s q
  let n := (x.rejects + 1) % 2 ^ 32
  let s := count 0xB070 2 (setQueue q (fun x => { x with rejects := n }) s)
  writeSlot q x.consumer
    (sealSlot x.key 3 q x.consumer n alive (completionRecord stReplayed 0 q alive x.consumer 0 0 0)) s

/-- Fetch up to eight slots when the queue may (R297): its context ACTIVE, its partition in no teardown (R350), the block
not QUARANTINED, the queue ARMED, no
fetch outstanding, fewer than 16 descriptors held; one request stays within the ring and within 4 KiB. An EXHAUSTED
queue that shows a pending descriptor refuses it once (R300). -/
def pumpFetch (q : Nat) (s : State) : State :=
  let x := queueAt s q
  match ctxAt s (q / 4) with
  | none => s
  | some c =>
    if c.state ≠ 1 || !partLive s c.partition || s.recovery.quarantined || pendingOf x = 0 then s
    else if x.state = 3 then
      (if x.refused then s else reject q 0xFFFFFFFF (setQueue q (fun x => { x with refused := true }) s))
    else if x.state ≠ 1 || x.fetching then s
    else
      let room := 16 - (queueDescs s q).length
      let slot := x.consumer % 2 ^ x.ringLog2
      let n := Nat.min 8 (Nat.min (pendingOf x) (Nat.min room (Nat.min (2 ^ x.ringLog2 - slot) (64 - slot % 64))))
      if n = 0 then s
      else meshIssue (.fetch q x.consumer n) (x.ringBase + 64 * slot) (64 * n) false (some c.pasid) []
        (setQueue q (fun x => { x with fetching := true }) s)

/-- A descriptor as fetched. -/
def newDesc (q seq alive : Nat) (bytes key : Bytes) (bad : Bool) : Desc :=
  { queue := q, seq := seq, alive := alive, bytes := bytes, key := key, badAlive := bad, started := false,
    startTick := 0, objs := [], evs := [], node := none, outcome := none, launch := none, order := 0, pin := 0 }

/-- Consume one fetched slot (R298, R300). -/
def consumeSlot (q : Nat) (slot : Bytes) (s : State) : State :=
  let x := queueAt s q
  let a := x.aliveNext
  let opened := if live s x.keyPin then
      Config.gcmOpen x.key (queueIv 1 q 0 a) [] (slice slot 0 48) (slice slot 48 16) else none
  match opened with
  | none => setQueue q (fun x => { x with state := 2 }) (reject q a s)
  | some pt =>
    let (d, s) := takeRefs (newDesc q x.consumer a pt x.key (num pt 0 4 != a)) s
    let s := count 0xB070 1 { s with
      host.descs := tput s.host.descs s.host.nextDesc d, host.nextDesc := s.host.nextDesc + 1 }
    setQueue q (fun x => { x with consumer := (x.consumer + 1) % 2 ^ 32, aliveNext := a + 1,
                                  state := if a ≥ 0xFFFFFFFE then 3 else x.state }) s

/-- Consume the fetched slots in order while the queue stays ARMED. -/
def consumeSlots (q : Nat) (data : Bytes) : Nat → Nat → State → State
  | 0, _, s => s
  | n + 1, k, s =>
    if (queueAt s q).state = 1 && ctxState s (q / 4) = 1 then
      consumeSlots q data n (k + 1) (consumeSlot q (slice data (64 * k) 64) s)
    else s

/-- The response to a descriptor fetch (R298, R311): discarded when the queue no longer waits for it. -/
def fetchDone (q first n addr st : Nat) (poison : Bool) (data : Bytes) (s : State) : State :=
  let x := queueAt s q
  if !x.fetching || x.consumer ≠ first then s
  else
    let s := setQueue q (fun x => { x with fetching := false }) s
    if x.state ≠ 1 then s
    else if st ≠ stDone || poison then ctxFault (q / 4) 2 (q % 4) st first addr s
    else pumpFetch q (consumeSlots q data n 0 s)

/-! ### Completion of a queue's descriptor (R299, R306, R354) -/

/-- The place of a status in the counters of R354. -/
def statusPlace (st : Nat) : Option Nat :=
  if st = stDone || st = stSaturated then none
  else if st = stIntegrity then some 1
  else if st = stPoisoned then some 2
  else if st = stDenied || st = stStale then some 3
  else if st = stKeyGone then some 4
  else if st = stTargetDead || st = stPeerGone || st = stUnknown || st = stOrphaned then some 5
  else some 6

/-- Count a completion of a partition's work (R354, R471). -/
def countCompletion (part st : Nat) (s : State) : State :=
  let bumpAt := fun (l : List Nat) k => setNth l k (nth l k 0 + 1)
  let f := fun (p : Partition) => { p with live := match statusPlace st with
    | some k => bumpAt (bumpAt p.live 0) k
    | none => bumpAt p.live 0 }
  let s := { s with parts := tmod s.parts part f }
  if st = stDone || st = stSaturated then s else count 0xB000 7 s

/-- The hang timer of a queue is cleared at a retirement (R455). -/
def retire (q : Nat) (s : State) : State := { s with recovery.hang := tput s.recovery.hang q 0 }

/-- A queue's descriptor completes (R299, R306): references dropped, record written where required, the queue halted on
a failure without CONT. -/
def completeDesc (k : Nat) (d : Desc) (st result fh fo : Nat) (s : State) : State :=
  let bad := st != stDone && st != stSaturated
  let s := dropJob k { s with host.descs := tdel s.host.descs k }
  let s := dropRefs d s
  let s := retire d.queue (countCompletion (descPart s d) st s)
  let s := if fComplete d || bad then
      writeSlot d.queue d.seq (sealSlot d.key 2 d.queue d.seq (queueAt s d.queue).rejects d.alive
        (completionRecord st (opc d) d.queue d.alive d.seq result fh fo)) s
    else s
  let s := if bad && !fCont d then
      setQueue d.queue (fun x => { x with state := if x.state = 1 || x.state = 3 then 2 else x.state }) s
    else s
  pumpFetch d.queue s

end Sys2Proof.Machine
end

