-- ==== Sys2Proof/Machine/Certs.lean ====
section
/-! DEFINITION. The block's own key pairs, and what it reads from certificates and charters (R359 to R361, R373 to
R375). -/

namespace Sys2Proof.Machine

/-! ### Key pairs (R359 to R361) -/

/-- The order of the group of P-384. -/
def p384n : Nat :=
  0xFFFFFFFFFFFFFFFFFFFFFFFFFFFFFFFFFFFFFFFFFFFFFFFFC7634D81F4372DDF581A0DB248B0A77AECEC196ACCC52973

/-- The private scalar of a key seed (R360). -/
def ecPriv (seed : Bytes) : Bytes := be 48 (ofBe (Config.hmac384 seed (text "EC" 2)) % (p384n - 1) + 1)

/-- The ML-DSA-87 key-generation seed of a key seed (R360). -/
def mlPriv (seed : Bytes) : Bytes := slice (Config.hmac384 seed (text "ML" 2)) 0 32

/-- Public keys of a key seed: ECDSA P-384 uncompressed (97 B), ML-DSA-87 (2,592 B). -/
def ecPub (seed : Bytes) : Bytes := slice (Config.publicKey 0 (ecPriv seed)) 0 97
def mlPub (seed : Bytes) : Bytes := slice (Config.publicKey 1 (mlPriv seed)) 0 2592

/-- The two signatures: r ‖ s (96 B), ML-DSA-87 (4,627 B). -/
def ecSign (seed m : Bytes) : Bytes := slice (Config.sign 0 (ecPriv seed) m) 0 96
def mlSign (seed m : Bytes) : Bytes := slice (Config.sign 1 (mlPriv seed) m) 0 4627

/-- The DeviceID and alias key seeds (R360). -/
def deviceSeed (s : State) : Bytes :=
  kdf (keyOf s (pinHandle 1 (pinAt s 1).gen)) (label { noPin with level := 1, purpose := 0xE0 } 0) [] 256
def aliasSeed (s : State) : Bytes :=
  kdf (keyOf s (pinHandle 3 (pinAt s 3).gen)) (label { noPin with level := 2, purpose := 0xE1 } 0) [] 256

/-- The member key seed, while one is held (R361). -/
def memberSeed (s : State) : Option Bytes :=
  match s.domain.memberSlot with
  | some k => tget s.keys.held k
  | none => none

/-- The Linram root certificate's digest, which the running image carries (R362, R442). -/
def rootDigest (s : State) : Bytes :=
  match tget s.flash.slots s.fw.active with
  | some x => slice x.image 48 48
  | none => zeroBytes 48

/-! ### Fields of a certificate (R364 to R367, log entry 1) -/

def certEc (c : Bytes) : Bytes := Config.certField 0 c
def certMl (c : Bytes) : Bytes := Config.certField 1 c
def certSvn (c : Bytes) : Nat := ofBe (Config.certField 2 c)
def certFwid (c : Bytes) : Bytes := Config.certField 3 c
def certClosed (c : Bytes) : Bool := ofBe (Config.certField 4 c) == 1
def certProfile (c : Bytes) : Nat := ofBe (Config.certField 5 c)
/-- The DER SubjectPublicKeyInfo. -/
def certSpki (c : Bytes) : Bytes := Config.certField 6 c

/-- A signature by a certificate's key pair: both halves verify. -/
def bothVerify (cert m sigEc sigMl : Bytes) : Bool :=
  Config.sigOk 0 (certEc cert) m sigEc && Config.sigOk 1 (certMl cert) m sigMl

/-! ### The charter (R374, R375) -/

def chFlags (c : Bytes) : Nat := num c 5 1
def chMinEpoch (c : Bytes) : Nat := num c 6 1
def chFwCount (c : Bytes) : Nat := num c 7 1
def chSession (c : Bytes) : Nat := num c 8 8
def chSeq (c : Bytes) : Nat := num c 16 4
def chOrigin (c : Bytes) : Nat := num c 20 2
def chCount (c : Bytes) : Nat := num c 22 2
def chOperator (c : Bytes) : Bytes := slice c 24 48
def chManager (c : Bytes) : Bytes := slice c 72 48
def chFw (c : Bytes) (k : Nat) : Bytes := slice c (128 + 48 * k) 48
def chMember (c : Bytes) (k : Nat) : Bytes := slice c (3208 + 48 * k) 48
def chHash (c : Bytes) : Bytes := slice (Config.sha384 c) 0 48

/-- The position of a certificate hash among MEMBERS. -/
def memberIndexOf (c h : Bytes) : Option Nat := (List.range (chCount c)).find? fun k => chMember c k == h

/-- A certificate passes the charter's policy (R375). -/
def passesPolicy (s : State) (c cert : Bytes) : Bool :=
  Config.chainOk (rootDigest s) cert &&
  decide (chMinEpoch c ≤ certSvn cert) &&
  (chFwCount c == 0 || (List.range (chFwCount c)).any fun k => chFw c k == certFwid cert) &&
  (certClosed cert || !tbit (chFlags c) 0) &&
  decide (certProfile cert ≤ 2) && tbit (chFlags c) (1 + certProfile cert)

/-- SHA-384 of a byte string, 48 bytes. -/
def hash48 (b : Bytes) : Bytes := slice (Config.sha384 b) 0 48

/-- A member certificate of the installed charter (R371): its hash is among MEMBERS of the
installed records, which a user-flash wipe removes (R377, R388), and it passes the policy. -/
def isMemberCert (s : State) (cert : Bytes) : Bool :=
  match s.domain.charter with
  | some c => thas s.flash.banks 1 && (memberIndexOf c (hash48 cert)).isSome && passesPolicy s c cert
  | none => false

/-- The sampler certificate that a block names in HELLO: its member certificate, else its newest. -/
def samplerCert (s : State) : Option Bytes :=
  if s.domain.memberCert ≠ [] then some s.domain.memberCert else s.domain.store.head?.map (·.2)

/-- The DOMAIN_SEED is live. -/
def hasDomain (s : State) : Bool := (findPin s puDomain fun _ => true).isSome

/-- A DOMAIN_SEED and a charter are there, so ports stitch (R194). -/
def canStitch (s : State) : Bool := hasDomain s && s.domain.charter.isSome

end Sys2Proof.Machine
end

