-- ==== Sys2Proof/Machine/LinkBase.lean ====
section
/-! DEFINITION. What a link flit port is made of: the ZFP 2 header, hop protection, the replay buffer, credits, the
sending of groups, segments and control flits, and re-keying (R175 to R203). -/

namespace Sys2Proof.Machine

/-! ### Ports, counters and states (R193, R203) -/

/-- Columns of LINK_COUNTERS (R203). -/
def lcGroupsTx : Nat := 0
def lcGroupsRx : Nat := 1
def lcResends : Nat := 2
def lcResendCycles : Nat := 3
def lcRxBad : Nat := 4
def lcIdleErrors : Nat := 5
def lcTagFails : Nat := 6
def lcGroupErrors : Nat := 7
def lcSeqGaps : Nat := 8
def lcDuplicates : Nat := 9
def lcProtoErrors : Nat := 10
def lcOverruns : Nat := 11
def lcModeRejects : Nat := 12
def lcStitchFails : Nat := 13
def lcCharterMismatch : Nat := 14
def lcRekeys : Nat := 15
def lcRekeysFailed : Nat := 16
def lcPartnerChanges : Nat := 17
def lcCmarksSet : Nat := 18
def lcEchoesReceived : Nat := 19

/-- Element `k` of a list raised by `n`. -/
def addNth (l : List Nat) (k n : Nat) : List Nat := setNth l k (nth l k 0 + n)

/-- Advance a link counter. -/
def linkCount (p k n : Nat) (s : State) : State :=
  setLink p (fun x => { x with counters := addNth x.counters k n }) s

/-! ### The header (R176) -/

structure Hdr where
  ftype : Nat
  vl : Nat
  keymode : Nat
  glen : Nat
  gidx : Nat
  epar : Nat
  cmark : Nat
  cecho : Nat
  gseq : Nat
  ack : Nat
  nak : Nat
  crdVl : Nat
  crdCnt : Nat
  dst : Nat
  src : Nat
  slotV : Nat
  resv : Nat
deriving DecidableEq, Repr

/-- The 128-bit header. -/
def hdrWord (h : Hdr) : Nat :=
  pack [(4, h.ftype), (3, h.vl), (2, h.keymode), (2, h.glen), (2, h.gidx), (1, h.epar), (1, h.cmark), (1, h.cecho),
    (24, h.gseq), (24, h.ack), (1, h.nak), (3, h.crdVl), (8, h.crdCnt), (16, h.dst), (16, h.src), (3, h.slotV),
    (17, h.resv)]

/-- The 16 header bytes. -/
def hdrBytes (h : Hdr) : Bytes := le 16 (hdrWord h)

/-- The header of a flit. -/
def hdrOf (flit : Bytes) : Hdr :=
  let w := num flit 0 16
  { ftype := fld w 0 4, vl := fld w 4 3, keymode := fld w 7 2, glen := fld w 9 2, gidx := fld w 11 2,
    epar := fld w 13 1, cmark := fld w 14 1, cecho := fld w 15 1, gseq := fld w 16 24, ack := fld w 40 24,
    nak := fld w 64 1, crdVl := fld w 65 3, crdCnt := fld w 68 8, dst := fld w 76 16, src := fld w 92 16,
    slotV := fld w 108 3, resv := fld w 111 17 }

/-- The group fields of two headers agree: all but GIDX, ACK_SEQ, NAK, CRD_VL and CRD_CNT (R176). -/
def sameGroup (a b : Hdr) : Bool :=
  { a with gidx := 0, ack := 0, nak := 0, crdVl := 0, crdCnt := 0, slotV := 0 } ==
    { b with gidx := 0, ack := 0, nak := 0, crdVl := 0, crdCnt := 0, slotV := 0 }

/-! ### CRC-32C (R183) -/

/-- One bit of the reflected CRC-32C division. -/
def crcStep (c : Nat) : Nat := if c % 2 = 1 then (c / 2) ^^^ 0x82F63B78 else c / 2

/-- One byte. -/
def crcByte (c : Nat) (b : Byte) : Nat :=
  crcStep (crcStep (crcStep (crcStep (crcStep (crcStep (crcStep (crcStep (c ^^^ b.toNat))))))))

/-- CRC-32C of a byte string. -/
def crc32c (bs : Bytes) : Nat := bs.foldl crcByte 0xFFFFFFFF ^^^ 0xFFFFFFFF

/-! ### Hop protection (R179, R180, R184) -/

/-- The IV of a group or control flit (R180). `role` is 1 when the transmitter was the responder. -/
def hopIv (epoch role port seq : Nat) : Bytes := be 4 (epoch * 256 + role * 128 + port % 128) ++ be 8 seq

/-- The current transmit epoch. -/
def txSeq (x : Link) : Option EpochSeq := x.epochs.head?

/-- The epoch number received groups are expected under (R201 step 4). -/
def rxEpoch (x : Link) : Nat :=
  match x.rekey, x.epochs.head? with
  | some r, _ => if r.rxSwitched then r.epoch else r.epoch - 1
  | none, some e => e.epoch
  | none, none => 0

/-- An epoch that is held. -/
def epochOf (x : Link) (e : Nat) : Option EpochSeq := x.epochs.find? fun q => q.epoch == e

/-- Change one held epoch's counts. -/
def modEpoch (e : Nat) (f : EpochSeq → EpochSeq) (x : Link) : Link :=
  { x with epochs := x.epochs.map fun q => if q.epoch = e then f q else q }

/-- An epoch newly held (R180). -/
def newEpoch (e pin : Nat) : EpochSeq := { epoch := e, pin := pin, txGroup := 0, txCtrl := 0, rxGroup := 0, rxCtrl := 0 }

/-- The full sequence rebuilt from its low 24 bits (R184); none below zero. -/
def rebuild (e g : Nat) : Option Nat :=
  let r := (g + 2 ^ 24 - e % 2 ^ 24) % 2 ^ 24
  if r < 2 ^ 23 then some (e + r) else if e + r < 2 ^ 24 then none else some (e + r - 2 ^ 24)

/-- ACK_SEQ without NAK (R176): the highest group received in order and verified, one below the expected one. -/
def ackValue (x : Link) : Nat :=
  match epochOf x (rxEpoch x) with
  | some e => (e.rxGroup + 2 ^ 24 - 1) % 2 ^ 24
  | none => 2 ^ 24 - 1

/-- Flits of a group with `len` bytes of content (R179). -/
def flitsOfLen (len : Nat) : Nat := Nat.max 1 (ceilDiv (len + 16) 240)

/-- Flits of a queued group. -/
def flitsOf (g : TxGroup) : Nat :=
  if g.keymode = 1 then ceilDiv g.lines.length 3 else if g.keymode = 2 then 1 else flitsOfLen g.body.length

/-- Flits held in the replay buffer. -/
def replayFlits (x : Link) : Nat := (x.replay.map fun e => e.flits.length).sum

/-- The next credit return of each of `n` flits, lowest virtual lane first, and what is still owed (R186). -/
def takeCredits : Nat → List Nat → List (Nat × Nat) × List Nat
  | 0, owe => ([], owe)
  | n + 1, owe =>
    match lowestSuch (fun v => nth owe v 0 != 0) 8 0 with
    | none => let (l, o) := takeCredits n owe; ((0, 0) :: l, o)
    | some v =>
      let c := Nat.min 255 (nth owe v 0)
      let (l, o) := takeCredits n (setNth owe v (nth owe v 0 - c))
      ((v, c) :: l, o)

/-- Credits named by a list of returns, added to a tally. -/
def addCredits (sum : List Nat) (l : List (Nat × Nat)) : List Nat := l.foldl (fun t e => addNth t e.1 e.2) sum

/-- The REGION_PASS payload of flit `i` (R182): three slots of ciphertext and tag, then 8 zero bytes. -/
def slotBytes (lines : List PoolLine) (i : Nat) : Bytes :=
  (List.range 3).flatMap (fun k =>
    match lines[3 * i + k]? with
    | some l => slice l.data 0 64 ++ slice l.tag 0 8
    | none => zeroBytes 72) ++ zeroBytes 8

/-- SLOT_V of flit `i`. -/
def slotValid (lines : List PoolLine) (i : Nat) : Nat :=
  (List.range 3).foldl (fun v k => if 3 * i + k < lines.length then v + 2 ^ k else v) 0

/-- The flits of a group from its headers and its protection (R179, R182). -/
def protect (key iv : Bytes) (hs : List Hdr) (g : TxGroup) : List Bytes :=
  let n := hs.length
  let aad := hs.flatMap hdrBytes
  if g.keymode = 1 then
    let tag := slice (Config.gcmSeal key iv aad []) 0 16
    (List.range n).map fun i =>
      hdrBytes (hs.getD i (hdrOf [])) ++ slotBytes g.lines i ++ (if i + 1 = n then tag else zeroBytes 16)
  else
    let stream := Config.gcmSeal key iv aad (slice g.body 0 (240 * n - 16))
    (List.range n).map fun i => hdrBytes (hs.getD i (hdrOf [])) ++ slice stream (240 * i) 240

/-- Best-effort units that wait for a link flit port (R41, R190). -/
def egressDepth (s : State) (p : Nat) : Nat :=
  tcount s.tension.units fun _ u => u.desc.egress == .link p && u.cls != 0

/-- Flits leave on a port; each is counted (R471). -/
def sendFlits (p : Nat) (fs : List Bytes) (s : State) : State := emit (.flits p fs) (countBy 0xB000 5 fs.length s)

/-- Send one group now (R178 to R186, R190, R191). `free` for FINISH and credit groups, which spend no credit. -/
def sendNow (p : Nat) (g : TxGroup) (free credit : Bool) (s : State) : State :=
  let x := linkAt s p
  match txSeq x with
  | none => s
  | some e =>
    let n := flitsOf g
    let (crd, owe) := takeCredits n x.owe
    let mark := g.cmark || (profile s == 1 && decide (g.vl ≥ 4) && decide (egressDepth s p > setting s 0x4000 0xA))
    let echo := g.vl != 0 && thas s.links.echoDue g.dst
    let ackv := if x.nakPending then (x.nakFor.getD 0) % 2 ^ 24 else ackValue x
    let hs := (List.range n).map fun i =>
      { ftype := 1, vl := g.vl, keymode := g.keymode, glen := n - 1, gidx := i, epar := e.epoch % 2, cmark := bit mark,
        cecho := bit echo, gseq := e.txGroup % 2 ^ 24, ack := ackv, nak := bit x.nakPending,
        crdVl := (crd.getD i (0, 0)).1, crdCnt := (crd.getD i (0, 0)).2, dst := g.dst, src := g.src,
        slotV := if g.keymode = 1 then slotValid g.lines i else 0, resv := 0 : Hdr }
    let fs := protect (keyOf s e.pin) (hopIv e.epoch (bit (!x.initiator)) p e.txGroup) hs g
    let sent : Sent := { epoch := e.epoch, seq := e.txGroup, flits := fs, credit := credit, head := g.body.take 32 }
    let s := setLink p (fun x =>
      modEpoch e.epoch (fun q => { q with txGroup := q.txGroup + 1 })
        { x with replay := x.replay ++ [sent], owe := owe, partnerCredits := addCredits x.partnerCredits crd,
                 credits := if free then x.credits else setNth x.credits g.vl (nth x.credits g.vl 0 - n),
                 ackDue := false, nakPending := false,
                 progressTick := if x.replay.isEmpty then s.tick else x.progressTick }) s
    let s := if mark && !g.cmark then linkCount p lcCmarksSet 1 s else s
    let s := if echo then
        { s with links.echoDue := tdel s.links.echoDue g.dst, links.echoed := tput s.links.echoed g.dst s.tick }
      else s
    sendFlits p fs (linkCount p lcGroupsTx 1 s)

/-- Send one CLEAR flit now (R177, R183, R186). -/
def sendClear (p : Nat) (g : TxGroup) (s : State) : State :=
  let x := linkAt s p
  let (crd, owe) := takeCredits 1 x.owe
  let h : Hdr := { ftype := 3, vl := 0, keymode := 2, glen := 0, gidx := 0, epar := 0, cmark := 0, cecho := 0, gseq := 0,
                   ack := 0, nak := 0, crdVl := (crd.getD 0 (0, 0)).1, crdCnt := (crd.getD 0 (0, 0)).2, dst := g.dst,
                   src := g.src, slotV := 0, resv := 0 }
  let front := hdrBytes h ++ slice g.body 0 224
  sendFlits p ([front ++ le 4 (crc32c front) ++ zeroBytes 12])
    (setLink p (fun x => { x with owe := owe, partnerCredits := addCredits x.partnerCredits crd,
                                  credits := setNth x.credits 0 (nth x.credits 0 0 - 1) }) s)

/-- A queued group may be sent now: its credits, room in the replay buffer, the hard limit of R201. The one HOP group of
STITCHING is FINISH, which spends no credit (R200). -/
def sendable (limit : Nat) (x : Link) (g : TxGroup) : Bool :=
  if g.keymode = 2 then (x.state == 2 || x.state == 3) && decide (1 ≤ nth x.credits 0 0)
  else if x.state = 3 then (txSeq x).isSome
  else x.state == 4 && (match txSeq x with | some e => decide (e.txGroup < limit) | none => false) &&
    decide (replayFlits x + flitsOf g ≤ 512) && decide (flitsOf g ≤ nth x.credits g.vl 0)

/-- The place in the queue of the next group to send: the first whose virtual lane has nothing waiting before it and
which may be sent. -/
def nextSend (limit : Nat) (x : Link) : List TxGroup → List Nat → Nat → Option Nat
  | [], _, _ => none
  | g :: rest, blocked, k =>
    if blocked.contains g.vl then nextSend limit x rest blocked (k + 1)
    else if sendable limit x g then some k
    else nextSend limit x rest (g.vl :: blocked) (k + 1)

/-! ### Leaving a state (R186, R195, R198) -/

/-- Invalidate a port's HOP pins and zeroise its stitch secret. -/
def dropHopKeys (p : Nat) (squash : Bool) (s : State) : State :=
  let x := linkAt s p
  let s := each x.epochs (fun e s => invalidate e.pin squash s) s
  let s := match x.secretSlot with
    | some slot => { s with keys.held := tdel s.keys.held slot }
    | none => s
  setLink p (fun x => { x with epochs := [], secretSlot := none }) s

/-- Clear a port's buffers and handshakes and void its credits. -/
def clearLink (x : Link) : Link :=
  { x with replay := [], nakFor := none, nakPending := false, queue := [], ackDue := false, owe := List.replicate 8 0,
           credits := List.replicate 8 0, partnerCredits := List.replicate 8 0, stitch := none, asm := none,
           rekey := none, resends := 0, announced := [] }

/-- The credits of CLEAR flits (R186): each side holds 4 of VL0, and the rest of the VL0 allotment is returned first. -/
def clearCredits (x : Link) : Link :=
  let rest := List.replicate 7 0
  { x with credits := 4 :: rest, partnerCredits := 4 :: rest, owe := (nth x.allot 0 4 - 4) :: rest }

/-! ### The stitch handshake begins (R197, R200) -/

def newStitch (now : Nat) : Stitch :=
  { step := 0, initiator := false, myHello := [], hello := [], seed := [], keyShare := [], t3 := [],
    since := now, early := none, mismatch := false }

/-- CHARTER_HASH of the block's HELLO: zero while it holds no DOMAIN_SEED (R379). -/
def helloCharter (s : State) : Bytes :=
  match s.domain.charter with
  | some c => if hasDomain s then chHash c else zeroBytes 48
  | none => zeroBytes 48

/-- Step 1 of R200: HELLO with a fresh nonce; it waits while the key DRBG refuses. A block that has issued no sampler
certificate yet names a free value (log entry 20). -/
def sendHello (p : Nat) (s : State) : State :=
  match keyDraw 32 false s with
  | none => s
  | some (nonce, s) =>
    let (h, s) := match samplerCert s with
      | some c => (hash48 c, s)
      | none => freshBytes 48 s
    let body := [2] ++ le 1 p ++ le 2 (ownEndpoint s) ++ slice nonce 0 32 ++ h ++ helloCharter s
    queueMgmt p 1 body
      (setLink p (fun x => { x with stitch := x.stitch.map fun y => { y with step := 1, myHello := body } }) s)

/-- The handshake starts, or starts again, at step 1 with a fresh nonce: whatever it had derived is dropped. -/
def beginStitch (p : Nat) (s : State) : State :=
  let s := dropHopKeys p true s
  let f := fun (x : Link) => { x with state := 3, replay := [], queue := [], asm := none, rekey := none, nakFor := none,
                                      nakPending := false, ackDue := false, stitch := some (newStitch s.tick) }
  sendHello p (setLink p f s)

/-- The port leaves LINKED without losing its physical layer and stitches afresh. -/
def restitch (p : Nat) (s : State) : State :=
  beginStitch p (setLink p (fun x => clearCredits (clearLink x)) (dropHopKeys p true s))

/-- The live LINKS pin (R108). -/
def linksPin (s : State) : Option Nat := findPin s puLinks fun _ => true

/-- Create an AGREED pin under a parent from a secret (R107, R113). -/
def agreedPin (purpose level objA objB parent : Nat) (secret : Bytes) (s : State) : Except Nat (Nat × State) :=
  match freePin s with
  | none => .error stTableFull
  | some i =>
    let lab := label { noPin with level := level, purpose := purpose, objA := objA, objB := objB } (pinAt s i).gen
    createPin { purpose := purpose, level := level, kind := 2, objA := objA, objB := objB, parent := parent,
                value := kdf (keyOf s parent) lab secret 256, source := 1 } s

/-- The partner's port number: from its HELLO while the handshake runs, then from the partner's record (R196, R198). -/
def partnerPort (x : Link) : Nat :=
  match x.stitch, x.partner with
  | some y, _ => num y.hello 1 1
  | none, some q => q.port
  | none, none => 0

/-- OBJ_A of a port's HOP pins (R198): the initiator's port, the responder's port. -/
def hopObjA (x : Link) (p : Nat) : Nat :=
  if x.initiator then p + 256 * partnerPort x else partnerPort x + 256 * p

/-- Create the HOP pin of an epoch from the retained stitch secret (R198, R201); the port is unchanged when the pin
cannot be created. -/
def addHop (p e : Nat) (s : State) : State :=
  let x := linkAt s p
  match linksPin s, x.secretSlot with
  | some l, some slot =>
    match agreedPin puHop 5 (hopObjA x p) e l (tgetD s.keys.held slot []) s with
    | .ok (h, s) => setLink p (fun x => { x with epochs := x.epochs ++ [newEpoch e h] }) s
    | .error _ => s
  | _, _ => s

/-- Start a re-key (R201 step 1) on a LINKED port on which none runs; from epoch 0xFF_FFFF a new stitch handshake. -/
def startRekey (p : Nat) (s : State) : State :=
  let x := linkAt s p
  match txSeq x with
  | none => s
  | some e =>
    if x.state ≠ 4 || x.rekey.isSome then s
    else if e.epoch ≥ 0xFFFFFF then restitch p s
    else
      let r : Rekey := { epoch := e.epoch + 1, sentTick := s.tick, resends := 0, sent := true, got := false,
                         txSwitched := false, rxSwitched := false }
      queueMgmt p 5 (le 4 (e.epoch + 1)) (setLink p (fun x => { x with rekey := some r }) (addHop p (e.epoch + 1) s))

/-- A sequence threshold has been reached (R201). -/
def rekeyDue (s : State) (x : Link) : Bool :=
  match txSeq x with
  | some e => decide (e.txGroup + 2 ^ 20 ≥ setting s 0x4000 1) || decide (e.txCtrl + 2 ^ 20 ≥ setting s 0x4000 1)
  | none => false

/-- Steps 3 and 5 of R201: switch the transmit direction once both messages have passed and no group of the old epoch
is unacknowledged; drain the old pin once both directions have switched. -/
def settleRekey (p : Nat) (s : State) : State :=
  let x := linkAt s p
  match x.rekey with
  | none => s
  | some r =>
    let old := r.epoch - 1
    let go := r.sent && r.got && !r.txSwitched && !(x.replay.any fun e => e.epoch == old) && (epochOf x r.epoch).isSome
    let r := { r with txSwitched := r.txSwitched || go }
    let x' := if go then
        { x with epochs := x.epochs.filter (fun q => q.epoch == r.epoch) ++ x.epochs.filter fun q => q.epoch != r.epoch }
      else x
    if r.txSwitched && r.rxSwitched then
      let s := setLink p (fun _ => { x' with rekey := none, epochs := x'.epochs.filter fun q => q.epoch == r.epoch }) s
      let s := linkCount p lcRekeys 1 s
      match epochOf x old with
      | some q => invalidate q.pin false s
      | none => s
    else setLink p (fun _ => { x' with rekey := some r }) s

/-- Send what may be sent, in order. -/
def pumpLinkGo (p : Nat) : Nat → State → State
  | 0, s => s
  | fuel + 1, s =>
    let x := linkAt s p
    match nextSend (setting s 0x4000 1) x x.queue [] 0 with
    | none => s
    | some k =>
      match x.queue[k]? with
      | none => s
      | some g =>
        let s := setLink p (fun x => { x with queue := x.queue.eraseIdx k }) s
        let s := if g.keymode = 2 then sendClear p g s else sendNow p g (x.state == 3) false s
        let s := if rekeyDue s (linkAt s p) then startRekey p s else s
        pumpLinkGo p fuel s

def pumpLink (p : Nat) (s : State) : State := pumpLinkGo p ((linkAt s p).queue.length + 4) (settleRekey p s)

/-- Send a VL0 message. -/
def sendMgmt (p mtype : Nat) (m : Bytes) (s : State) : State := pumpLink p (queueMgmt p mtype m s)

/-- A credit group (R186): plaintext entirely zero, on VL0 to the link partner. -/
def creditGroup (s : State) : TxGroup :=
  { vl := 0, keymode := 0, dst := 0xFFFF, src := ownEndpoint s, body := [], lines := [], cmark := false }

/-- Return what is owed in credit groups, at most 8 of them unacknowledged (R186). -/
def sendCreditGroups (p : Nat) : Nat → State → State
  | 0, s => s
  | fuel + 1, s =>
    let x := linkAt s p
    if x.state = 4 && x.owe.any (· != 0) && (x.replay.filter fun e => e.credit).length < 8 && replayFlits x < 512 &&
        (match txSeq x with | some e => decide (e.txGroup < setting s 0x4000 1) | none => false) then
      sendCreditGroups p fuel (sendNow p (creditGroup s) true true s)
    else s

/-- Send a control flit (R177, R179, R185). -/
def sendCtrl (p : Nat) (s : State) : State :=
  let x := linkAt s p
  match txSeq x with
  | none => s
  | some e =>
    if e.txCtrl ≥ setting s 0x4000 1 then s
    else
      let h : Hdr := { ftype := 2, vl := 0, keymode := 0, glen := 0, gidx := 0, epar := e.epoch % 2, cmark := 0, cecho := 0,
                       gseq := e.txCtrl % 2 ^ 24,
                       ack := if x.nakPending then (x.nakFor.getD 0) % 2 ^ 24 else ackValue x,
                       nak := bit x.nakPending, crdVl := 0, crdCnt := 0, dst := 0xFFFF, src := ownEndpoint s,
                       slotV := 0, resv := 0 }
      let iv := hopIv e.epoch (bit (!x.initiator)) p (2 ^ 63 + e.txCtrl)
      let tag := slice (Config.gcmSeal (keyOf s e.pin) iv (hdrBytes h) []) 0 16
      let s := setLink p (fun x => modEpoch e.epoch (fun q => { q with txCtrl := q.txCtrl + 1 })
                { x with ackDue := false, nakPending := false }) s
      let s := sendFlits p ([hdrBytes h ++ zeroBytes 224 ++ tag]) s
      if rekeyDue s (linkAt s p) then pumpLink p (startRekey p s) else s

/-- Resend the groups of the replay buffer from place `k` on, byte for byte (R185). -/
def resendFrom (p k : Nat) (s : State) : State :=
  let gs := (linkAt s p).replay.drop k
  let s := each gs (fun g s => sendFlits p g.flits s) s
  linkCount p lcResendCycles (gs.map fun g => g.flits.length).sum (linkCount p lcResends gs.length s)

/-! ### Sending for the fabric and for plaits (R208, R210, R213) -/

/-- Queue the group of a message and its REGION_PASS group, and send what may go. -/
def sendMessage (p vl dst src : Nat) (body : Bytes) (lines : List PoolLine) (s : State) : State :=
  let g := { vl := vl, keymode := 0, dst := dst, src := src, body := body, lines := [], cmark := false : TxGroup }
  let gs := if lines.isEmpty then [g] else [g, { g with keymode := 1, body := [], lines := lines }]
  pumpLink p (setLink p (fun x => { x with queue := x.queue ++ gs }) s)

/-! ### Leaving LINKED and stopping (R194, R195) -/

/-- Steps 1 to 4 of R195 within the link: the port goes to `state` with PHY_EN low, and the units admitted towards it are
removed. -/
def linkDown (p state : Nat) (s : State) : State :=
  let s := dropHopKeys p true s
  let s := setLink p (fun x => { clearLink x with state := state, phyEn := false }) s
  each (s.tension.units.filter fun e => e.2.desc.egress == .link p) (fun e s => dropUnit e.1 s) s

end Sys2Proof.Machine
end

