-- ==== Sys2Proof/Machine/Fabric.lean ====
section
/-! DEFINITION. The fabric requester's shared operations: message headers, routes, the peer table, issuing, resending
and matching of requests, source accounting and fences (R204 to R228). -/

namespace Sys2Proof.Machine

/-! ### Messages (R210 to R213) -/

/-- The fields of a fabric message header. -/
structure FHdr where
  msg : Nat
  mlen : Nat
  retry : Nat
  ord : Nat
  aop : Nat
  tag : Nat
  seq : Nat
  addr : Nat
  cnt : Nat
  resvA : Nat
  status : Nat
  poison : Nat
  resvB : Nat
  job : Nat
  epoch : Nat
  key : Nat
  inc : Nat
deriving DecidableEq, Repr

/-- The 256-bit header (R211). -/
def fhdrWord (h : FHdr) : BitVec 256 :=
  BitVec.ofNat 256 (pack [(8, h.msg), (10, h.mlen), (1, h.retry), (1, h.ord), (4, h.aop), (16, h.tag), (24, h.seq),
    (64, h.addr), (4, h.cnt), (12, h.resvA), (8, h.status), (1, h.poison), (7, h.resvB), (16, h.job), (16, h.epoch),
    (32, h.key), (32, h.inc)])

/-- The fields of a 256-bit header. -/
def fhdrOf (v : BitVec 256) : FHdr :=
  let w := v.toNat
  { msg := fld w 0 8, mlen := fld w 8 10, retry := fld w 18 1, ord := fld w 19 1, aop := fld w 20 4, tag := fld w 24 16,
    seq := fld w 40 24, addr := fld w 64 64, cnt := fld w 128 4, resvA := fld w 132 12, status := fld w 144 8,
    poison := fld w 152 1, resvB := fld w 153 7, job := fld w 160 16, epoch := fld w 176 16, key := fld w 192 32,
    inc := fld w 224 32 }

/-- TRAY_REGION or key index, and offset, of a fabric address (R141, R211). -/
def addrRegion (a : Nat) : Nat := fld a 52 12
def addrOffset (a : Nat) : Nat := fld a 0 52

/-- Body bytes after the header that a message type has (R212); none for a reserved type. -/
def bodyLen (msg cnt : Nat) : Option Nat :=
  if [0x01, 0x02, 0x03, 0x08, 0x0D, 0x0F, 0x81, 0x82, 0x84, 0x8C, 0x8E].contains msg then some 0
  else if msg = 0x04 || msg = 0x83 then some (64 * (cnt + 1))
  else if [0x05, 0x09, 0x0A, 0x85, 0x88].contains msg then some 16
  else if msg = 0x0C then some 176
  else none

/-- Is a type a response. -/
def isRsp (msg : Nat) : Bool := msg ≥ 0x80

/-- The virtual lanes a type travels on (R212). -/
def laneOk (msg vl : Nat) : Bool :=
  if isRsp msg then vl == 2
  else if msg = 0x0F then vl == 5
  else if msg = 0x01 || msg = 0x02 || msg = 0x05 then vl == 1 || (4 ≤ vl && vl ≤ 7)
  else vl == 1 || vl == 4

/-- The zero bytes of a body are zero (R212). -/
def bodyZeros (m : FMsg) (msg : Nat) : Bool :=
  if msg = 0x09 then zeros m.body 8 8 && decide (num m.body 5 1 < 4)
  else if msg = 0x0A then zeros m.body 12 4
  else if msg = 0x0C then zeros m.body 172 4
  else if msg = 0x85 then zeros m.body 8 8
  else if msg = 0x88 then zeros m.body 10 6
  else true

/-- A message keeps R210 to R212: a known type with its length, its lane, and zero in every reserved field. -/
def msgOk (m : FMsg) : Bool :=
  let h := fhdrOf m.hdr
  (match bodyLen h.msg h.cnt with
   | some n => m.body.length == n && h.mlen == 32 + n
   | none => false) &&
  laneOk h.msg m.vl && bodyZeros m h.msg && h.resvA == 0 && h.resvB == 0 &&
  (h.msg == 0x05 && decide (h.aop ≤ 0xB) || h.msg != 0x05 && h.aop == 0) &&
  (isRsp h.msg || (h.inc == 0 && h.status == 0 && h.poison == 0)) &&
  (if h.msg = 0x04 || h.msg = 0x03 || h.msg = 0x83 || h.msg = 0x84 then decide (h.cnt ≤ 7) else decide (h.cnt ≤ 11))

/-! ### Routes (R206, R207) -/

/-- The route of a destination: its lowest-numbered VALID entry that matches. -/
def routeFor (s : State) (d : Nat) : Option (Nat × Route) :=
  tfind s.fabric.routes fun _ r => r.valid && d &&& r.mask == r.base

/-- The LINKED ports of a route, rising. -/
def routePorts (s : State) (r : Route) : List Nat :=
  (List.range (linkPortsOf s.cfg)).filter fun p => tbit r.ports p && linked s p

/-- The egress port of a message (R207); none when no port of its route is LINKED. -/
def pickPort (s : State) (d tag : Nat) (inOrder : Bool) : Option Nat :=
  match routeFor s d with
  | none => none
  | some (_, r) =>
    match routePorts s r with
    | [] => none
    | p :: ps => if inOrder then some p else (p :: ps)[(d ^^^ tag) % (ps.length + 1)]?

/-- PATH_EPOCH of a destination's route. -/
def pathEpoch (s : State) (d : Nat) : Nat := match routeFor s d with | some (_, r) => r.epoch | none => 0

/-- A destination that is never routed (R207): reserved, or the block itself. -/
def ownOrReserved (s : State) (d : Nat) : Bool := d == 0 || d == 0xFFFF || d == ownEndpoint s

/-- JOB of a partition's requests (R211, R343). -/
def jobOf (s : State) (part : Option Nat) : Nat := match part with | some p => setting s 0x5002 (p + 1) | none => 0

/-- The partition a mesh request belongs to (R343): of a transfer, the partition of its context. -/
def attributed (s : State) (src : Nat) (pasidV : Bool) : Option Nat :=
  if pasidV then none
  else if src ≥ partSource 0 then some (src - partSource 0)
  else if src ≥ ctxSource 0 then (ctxAt s (src - ctxSource 0)).map (·.partition)
  else match tfind s.sources fun _ e => e.valid && e.confirmed && e.srcId == src with
    | some (_, e) => some e.partition
    | none => none

/-! ### The peer table (R218) -/

/-- ERA of a destination, if it has an entry. -/
def eraOf (s : State) (d : Nat) : Option Nat := (s.fabric.peers.find? fun e => e.ep == d).map (·.era)

/-- Touch or create a destination's entry; the least recently used one makes room, and its outstanding requests are then
never marked gone. -/
def touchPeer (d : Nat) (s : State) : State :=
  let now := s.fabric.useClock + 1
  let s := { s with fabric.useClock := now }
  if (eraOf s d).isSome then
    { s with fabric.peers := s.fabric.peers.map fun e => if e.ep = d then { e with lastUse := now } else e }
  else
    let fresh : Peer := { ep := d, inc := none, era := 0, lastUse := now }
    if s.fabric.peers.length < 1024 then { s with fabric.peers := s.fabric.peers ++ [fresh] }
    else match s.fabric.peers with
      | [] => s
      | p :: ps =>
        let v := ps.foldl (fun m x => if x.lastUse < m.lastUse then x else m) p
        { s with fabric.peers := s.fabric.peers.filter (fun e => e.ep != v.ep) ++ [fresh],
                 fabric.out := tmapAll s.fabric.out fun _ q => if q.dst = v.ep then { q with era := none } else q }

/-- Advance ERA of a destination that has an entry. -/
def bumpEra (d : Nat) (s : State) : State :=
  { s with fabric.peers := s.fabric.peers.map fun e => if e.ep = d then { e with era := (e.era + 1) % 2 ^ 32 } else e }

/-- An accepted response from `d` carries an INC (R218). -/
def noteInc (d inc : Nat) (s : State) : State :=
  let s := touchPeer d s
  match s.fabric.peers.find? fun e => e.ep == d with
  | none => s
  | some e =>
    let s1 := { s with fabric.peers := s.fabric.peers.map fun x => if x.ep = d then { x with inc := some inc } else x }
    match e.inc with
    | some k => if k = inc then s else bumpEra d s1
    | none => s1

/-- A request is marked gone (R218): its destination's ERA differs from the one it recorded. -/
def markedGone (s : State) (q : FabReq) : Bool :=
  match q.era, eraOf s q.dst with
  | some a, some b => a != b
  | _, _ => false

/-! ### Sources and fences (R224, R225, R227) -/

/-- A source's entry. -/
def sourceOf (s : State) (src part : Nat) : Option FabSource :=
  s.fabric.sources.find? fun e => e.srcId == src && e.partition == part

/-- Change a source's entry. -/
def modSource (src part : Nat) (f : FabSource → FabSource) (s : State) : State :=
  { s with fabric.sources := s.fabric.sources.map fun e => if e.srcId = src && e.partition = part then f e else e }

/-- Nothing of the source is outstanding, and no failure waits for a fence to report it (log entry 10). -/
def sourceIdle (e : FabSource) : Bool := e.counts.all (· == 0) && e.fences.isEmpty && e.fails.all (·.isNone)

/-- A source without an entry takes one. -/
def openSource (src part : Nat) (s : State) : State :=
  if (sourceOf s src part).isSome then s
  else
    let e : FabSource := { srcId := src, partition := part, gen := 0, counts := [0, 0, 0, 0],
                           fails := [none, none, none, none], accepted := 0, fences := [], last := none }
    { s with fabric.sources := s.fabric.sources ++ [e] }

/-- A source can be entered (R224: 1,024 entries). -/
def sourceRoom (s : State) (src part : Nat) : Bool :=
  (sourceOf s src part).isSome || decide (s.fabric.sources.length < 1024)

/-- A write or atomic of a source is accepted: its generation and its place in the order. -/
def acceptSource (src part : Nat) (s : State) : (Nat × Nat) × State :=
  let s := openSource src part s
  match sourceOf s src part with
  | none => ((0, 0), s)
  | some e =>
    ((e.gen, e.accepted), modSource src part (fun e =>
      { e with counts := addNth e.counts e.gen 1, accepted := e.accepted + 1 }) s)

/-- SRC_ID of a request (R57), or the source of a transfer's (log entry 41). -/
def reqSource (q : MeshReq) : Nat := if internal q then q.port else fld q.hdr.toNat 96 16

/-- Some accepted fabric request of the source has not been answered. -/
def sourceBusy (s : State) (e : FabSource) : Bool :=
  s.ports.inReqs.any fun r => fld r.2.q.hdr.toNat 32 2 == 2 && reqSource r.2.q == e.srcId &&
    r.2.partition.getD 64 == e.partition

/-- Entries of sources with nothing outstanding are freed (R224). -/
def sweepSources (s : State) : State :=
  { s with fabric.sources := s.fabric.sources.filter fun e => !sourceIdle e || sourceBusy s e }

/-- Answer an inbound mesh request: the response opcode of its own (R57, R59). -/
def meshReply (n : Nat) (status : Nat) (data : Bytes) (s : State) : State :=
  match tget s.ports.inReqs n with
  | none => s
  | some r =>
    let w := r.q.hdr.toNat
    let bad := status != stDone
    let opc := fld w 0 8
    let len := if opc = 1 then 128 * (fld w 8 5 + 1) else if opc = 3 then 128 else 0
    let body := if opc = 1 && bad then List.replicate len 0xFF else if opc = 1 || opc = 3 then slice data 0 len else []
    meshAnswer r.port (opc + 0x80) (fld w 96 16) (fld w 16 16) status (bad && (opc == 1 || fld w 32 2 == 1)) body
      (sweepSources { s with ports.inReqs := tdel s.ports.inReqs n })

/-- A FENCE_END record (R472): a remote signaller is the target whose response came last (log entry 14). -/
def tackFence (e : FabSource) (st : Nat) (s : State) : State :=
  let sig := match e.last with | some x => x | none => (0, 0, 0)
  tack { rtype := 3, island := hostIsland, partition := if e.partition = 64 then 0 else e.partition, context := 0,
         object := e.srcId, sigIsland := if e.last.isSome then 0x3F else 0x3E, sigEp := sig.1, sigLseq := 0,
         detail := if e.last.isSome then sig.2.1 + 2 ^ 16 * sig.2.2 else st } s

/-- Fences at the head of a source's list whose generation has drained are answered (R227). -/
def drainFences (src part : Nat) : Nat → State → State
  | 0, s => s
  | fuel + 1, s =>
    match sourceOf s src part with
    | none => s
    | some e =>
      match e.fences with
      | [] => sweepSources s
      | (req, g) :: rest =>
        if nth e.counts g 0 = 0 then
          let st := match nth e.fails g none with | some f => f.2 | none => stDone
          drainFences src part fuel (meshReply req st []
            (modSource src part (fun e => { e with fences := rest, fails := setNth e.fails g none })
              (tackFence e st s)))
        else s

/-- A write or atomic of a source completes with a status (R227, R228). -/
def completeSource (src part gen order st : Nat) (s : State) : State :=
  let s := modSource src part (fun e =>
    let fails := if st = stDone then e.fails else
      match nth e.fails gen none with
      | some f => if order < f.1 then setNth e.fails gen (some (order, st)) else e.fails
      | none => setNth e.fails gen (some (order, st))
    { e with counts := setNth e.counts gen (nth e.counts gen 0 - 1), fails := fails }) s
  drainFences src part 8 s

/-! ### Issuing and resending (R207, R214 to R216) -/

/-- A request to be issued. -/
structure FabNew where
  msg : Nat
  vl : Nat
  dst : Nat
  addr : Nat
  cnt : Nat
  aop : Nat
  key : Nat
  part : Option Nat
  body : Bytes
  lines : List PoolLine
  source : Option (Nat × Nat × Nat)
  order : Nat
  ordered : Bool
  purpose : FabPurpose
deriving DecidableEq, Repr

/-- A fabric tag is free (R214). -/
def tagFree (s : State) : Bool := s.fabric.out.length < 65536

/-- What keeps a request from being issued (R205, R207): 0 when nothing does. -/
def fabBar (s : State) (d : Nat) : Nat :=
  if ownEndpoint s = 0 || ownOrReserved s d then stDenied
  else match routeFor s d with
    | some (_, r) => if (routePorts s r).isEmpty then stPeerGone else stDone
    | none => stPeerGone

/-- The link island of a port (R29). -/
def linkIsland (s : State) (port : Nat) : Nat := if port < ceilDiv (linkPortsOf s.cfg) 2 then 4 else 5

/-- Hand a message to a port: the plaintext of its group, and its lines (R210, R213). A MSG_SENT record names its TAG
and SEQ when the block is its sender (R472). -/
def fabSend (port : Nat) (m : FMsg) (s : State) : State :=
  let s := if m.srcEp = ownEndpoint s then
      tack { rtype := 5, island := linkIsland s port, partition := 0, context := 0,
             object := (fhdrOf m.hdr).tag + 2 ^ 16 * (fhdrOf m.hdr).seq, sigIsland := 0x3E, sigEp := 0, sigLseq := 0,
             detail := 0 } s
    else s
  sendMessage port m.vl m.dstEp m.srcEp (le 32 m.hdr.toNat ++ m.body) m.lines (emit (.fabric port m) s)

/-- Issue a request (R207, R211, R214, R218): take the lowest free TAG and the next SEQ, record it and send it. The
status of R207 when it cannot be sent. -/
def fabIssue (n : FabNew) (s : State) : Except Nat State :=
  let bar := fabBar s n.dst
  if bar ≠ stDone then .error bar
  else match lowestFree s.fabric.out 65536 0 with
    | none => .error stTableFull
    | some tag =>
      match pickPort s n.dst tag n.ordered with
      | none => .error stPeerGone
      | some port =>
        let h := fhdrWord { msg := n.msg, mlen := 32 + n.body.length, retry := 0, ord := bit n.ordered, aop := n.aop,
                            tag := tag, seq := s.fabric.seq, addr := n.addr, cnt := n.cnt, resvA := 0, status := 0,
                            poison := 0, resvB := 0, job := jobOf s n.part, epoch := pathEpoch s n.dst, key := n.key,
                            inc := 0 }
        let s := touchPeer n.dst s
        let q : FabReq := { seq := s.fabric.seq, msg := n.msg, dst := n.dst, vl := n.vl, era := eraOf s n.dst,
                            port := port, epoch := pathEpoch s n.dst, hdr := h, body := n.body,
                            partition := n.part.getD 0, source := n.source, order := n.order, ordered := n.ordered,
                            purpose := n.purpose, firstTick := s.tick, lastSend := s.tick, unsent := false }
        let m : FMsg := { srcEp := ownEndpoint s, dstEp := n.dst, vl := n.vl, hdr := h, body := n.body, lines := n.lines }
        .ok (fabSend port m { s with fabric.out := tput s.fabric.out tag q, fabric.seq := (s.fabric.seq + 1) % 2 ^ 24 })

/-- Send an outstanding request again with RETRY set (R216, R233). -/
def fabResend (tag port : Nat) (q : FabReq) (s : State) : State :=
  let h := fhdrWord { fhdrOf q.hdr with retry := 1 }
  let m : FMsg := { srcEp := ownEndpoint s, dstEp := q.dst, vl := q.vl, hdr := h, body := q.body, lines := [] }
  fabSend port m
    { s with fabric.out := tmod s.fabric.out tag fun x => { x with port := port, lastSend := s.tick, unsent := false } }

/-- A write is never sent again (R216). -/
def isWrite (msg : Nat) : Bool := msg == 0x02 || msg == 0x04

/-- Requests of a port that has left LINKED are sent again on another port of their route, or wait for one (R216). -/
def reissue (port : Nat) (s : State) : State :=
  each (s.fabric.out.filter fun e => e.2.port == port && !isWrite e.2.msg && !e.2.unsent) (fun e s =>
    match pickPort s e.2.dst e.1 e.2.ordered with
    | some p => count 0xB050 5 (fabResend e.1 p e.2 s)
    | none => { s with fabric.out := tmod s.fabric.out e.1 fun x => { x with unsent := true } }) s

/-- Requests that wait for a LINKED port of their route are sent when one is there (R216). -/
def sendUnsent (s : State) : State :=
  each (s.fabric.out.filter fun e => e.2.unsent) (fun e s =>
    match pickPort s e.2.dst e.1 e.2.ordered with
    | some p => count 0xB050 5 (fabResend e.1 p e.2 s)
    | none => s) s

/-- Free a request's TAG and settle its source's account. -/
def fabClose (tag : Nat) (q : FabReq) (st : Nat) (s : State) : State :=
  let s := { s with fabric.out := tdel s.fabric.out tag }
  match q.source with
  | some (src, part, gen) => completeSource src part gen q.order st s
  | none => s

/-- Append a fault record (R217). -/
def fabFault (q : FabReq) (st : Nat) (s : State) : State :=
  let f : FabFault := { dst := q.dst, partition := q.partition, status := st,
                        offset := fld (addrOffset (fhdrOf q.hdr).addr) 6 32 }
  if s.fabric.faults.length ≥ 64 then
    { s with fabric.faults := s.fabric.faults.drop 1 ++ [f], fabric.overwritten := s.fabric.overwritten + 1 }
  else { s with fabric.faults := s.fabric.faults ++ [f] }

/-- A load of R215. -/
def isLoad (msg : Nat) : Bool := msg == 0x01 || msg == 0x03 || msg == 0x08

/-- What a request ends with at REMOTE_TIMEOUT (R215): PEER_GONE when it is marked gone, else TARGET_DEAD for a load and
OUTCOME_UNKNOWN for the others. -/
def timeoutStatus (s : State) (q : FabReq) : Nat :=
  if markedGone s q then stPeerGone else if isLoad q.msg then stTargetDead else stUnknown

/-- An in-order message must wait (R226): an earlier channel message of its source to its destination is outstanding on
another port than the one it would take. -/
def channelHeld (s : State) (src part d : Nat) : Bool :=
  match pickPort s d 0 true with
  | none => false
  | some p => s.fabric.out.any fun e => e.2.ordered && e.2.dst == d && e.2.port != p &&
      (match e.2.source with | some (a, b, _) => a == src && b == part | none => false)

/-! ### Responses (R208, R211, R218) -/

/-- The response to a message (R211, R212): its type with bit 7 set, the echoed fields, the block's INC. -/
def fabAnswer (m : FMsg) (rsp status : Nat) (poison : Bool) (body : Bytes) (lines : List PoolLine) (s : State) : State :=
  let h := fhdrOf m.hdr
  let a : FMsg := { srcEp := ownEndpoint s, dstEp := m.srcEp, vl := 2,
                    hdr := fhdrWord { msg := rsp, mlen := 32 + body.length, retry := 0, ord := 0, aop := 0, tag := h.tag,
                                      seq := h.seq, addr := h.addr, cnt := h.cnt, resvA := 0, status := status,
                                      poison := bit poison, resvB := 0, job := 0, epoch := h.epoch, key := 0,
                                      inc := s.keys.inc.getD 0 },
                    body := body, lines := lines }
  match pickPort s m.srcEp h.tag false with
  | some p => fabSend p a s
  | none => s

/-- The response type of a request (R212); a refused offer is answered HO_REFUSE. -/
def rspType (msg : Nat) : Nat :=
  if msg = 0x08 || msg = 0x09 || msg = 0x0A then 0x88 else if msg = 0x0C then 0x8E else msg + 0x80

/-- Answer a message with a failure: the fields its body has no value for are free values (log entry 9). -/
def fabRefuse (m : FMsg) (status : Nat) (poison : Bool) (s : State) : State :=
  let h := fhdrOf m.hdr
  let rsp := rspType h.msg
  if rsp = 0x83 then
    let (b, s) := freshBytes (64 * (h.cnt + 1)) s
    fabAnswer m rsp status poison b [] s
  else if rsp = 0x85 then
    let (b, s) := freshBytes 8 s
    fabAnswer m rsp status poison (b ++ zeroBytes 8) [] s
  else if rsp = 0x88 then
    let (b, s) := freshBytes 10 s
    fabAnswer m rsp status poison (b ++ zeroBytes 6) [] s
  else fabAnswer m rsp status poison [] [] s

/-- A request that breaks R210 to R212 (R212, R223 check 1). -/
def fabMalformed (m : FMsg) (s : State) : State :=
  let h := fhdrOf m.hdr
  let s := count 0xB050 0xE s
  if isRsp h.msg || h.msg = 0x0D || h.msg = 0x0F then s
  else match bodyLen h.msg 0 with
    | none => s
    | some _ => fabRefuse m stMalformed false s

/-- A switch forwards a message by its route, on the lowest-numbered LINKED port when ORD is set, or answers PEER_GONE
with POISON (R208). -/
def fabForward (m : FMsg) (s : State) : State :=
  let h := fhdrOf m.hdr
  match pickPort s m.dstEp h.tag (h.ord == 1) with
  | some p => fabSend p m s
  | none =>
    if isRsp h.msg || h.msg = 0x0D || h.msg = 0x0F then s
    else fabRefuse m stPeerGone true s

/-- A response finds its request by TAG and SEQ (R211); a second one is a duplicate (R228). `rsp` is the type the
request expects. -/
def matchRsp (m : FMsg) (s : State) : Option (Nat × FabReq) :=
  let h := fhdrOf m.hdr
  match tget s.fabric.out h.tag with
  | some q => if q.seq = h.seq && (rspType q.msg == h.msg || (q.msg == 0x0C && h.msg == 0x8C)) then some (h.tag, q) else none
  | none => none

end Sys2Proof.Machine
end

