-- ==== Sys2Proof/Machine/Tally.lean ====
section
/-! DEFINITION. Pooled memory: the geometry of a region, line and node protection, the tally cache, write-backs, walks
and span migrations (R149 to R173). -/

namespace Sys2Proof.Machine

/-! ### Geometry (R156) -/

/-- LEVELS of a region of 2^s bytes. -/
def levelsOf (s : Nat) : Nat := 1 + (s - 12) / 3

/-- Nodes of level `k`. -/
def nodesOf (s k : Nat) : Nat := 2 ^ (s - 11 - 3 * k)

/-- Metadata offset of node `i` of level `k`: the tally area follows the MAC array, level 0 first. -/
def nodeAddr (s k i : Nat) : Nat := 2 ^ (s - 3) + ((List.range k).map fun j => nodesOf s j * 64).sum + i * 64

/-- Bytes of metadata space a region needs. -/
def metaSpace (s : Nat) : Nat := 2 ^ (s - 3) + ((List.range (levelsOf s)).map fun j => nodesOf s j * 64).sum

/-- Leaf and place in the leaf of a line. -/
def leafOf (line : Nat) : Nat := line / 32
def placeOf (line : Nat) : Nat := line % 32

/-! ### Regions (R157, R160) -/

/-- The region of a slot. -/
def regionAt (s : State) (slot : Nat) : Option Region := tget s.tally.regions slot

def modRegion (slot : Nat) (f : Region → Region) (s : State) : State :=
  { s with tally.regions := tmod s.tally.regions slot f }

/-- The value of a region's POOL_REGION pin. -/
def regionKey (s : State) (r : Region) : Bytes := keyOf s (pinHandle r.pin r.pinGen)

/-- The access key that a region's messages carry (R221, R222). -/
def accessKeyOf (r : Region) : Nat := if r.checked then 0 else r.accessKey

/-- The primary tray does not answer, or refuses a write-back (R160, R169). -/
def regionUnavail (slot : Nat) (s : State) : State :=
  modRegion slot (fun r => if r.state = 2 || r.state = 3 then { r with state := 4, lastProbe := s.tick } else r) s

/-- The region is lost (R160, R168, R236). -/
def regionOrphan (slot : Nat) (s : State) : State :=
  modRegion slot (fun r => if r.state = 0 || r.state = 1 then r else { r with state := 5 }) s

/-- A region retired by a counter limit (R163, R168). -/
def regionRetire (slot : Nat) (s : State) : State := count 0xB033 0xE (regionOrphan slot s)

/-! ### Line and node protection (R149, R154) -/

/-- Two byte strings combined bit by bit. -/
def xorBytes (a b : Bytes) : Bytes := List.zipWith (· ^^^ ·) a b

/-- The counter block of a line (R149): PAD set for J. -/
def lineBlock (pad blk line minor major : Nat) : Bytes :=
  be 16 (pack [(2, blk), (40, line), (12, minor), (64, major), (8, 0), (1, 0), (1, pad)])

/-- The hash key H. -/
def hashKey (k : Bytes) : Bytes := Config.aesBlock k (List.replicate 16 0xFF)

/-- A line's keystream. -/
def lineStream (k : Bytes) (line minor major : Nat) : Bytes :=
  (List.range 4).flatMap fun b => Config.aesBlock k (lineBlock 0 b line minor major)

/-- A line's 64-bit tag over its ciphertext. -/
def lineTag (k : Bytes) (line minor major : Nat) (ct : Bytes) : Bytes :=
  slice (xorBytes (Config.aesBlock k (lineBlock 1 0 line minor major))
    (Config.ghash (hashKey k) (le 8 (64 * line) ++ zeroBytes 8) ct)) 0 8

/-- A line sealed under a counter pair. -/
def sealLine (k : Bytes) (line minor major : Nat) (pt : Bytes) : PoolLine :=
  let ct := xorBytes (slice pt 0 64) (lineStream k line minor major)
  { data := ct, tag := lineTag k line minor major ct }

/-- A line opened: none when its tag fails. -/
def openLine (k : Bytes) (line minor major : Nat) (l : PoolLine) : Option Bytes :=
  if slice l.tag 0 8 = lineTag k line minor major l.data then some (xorBytes l.data (lineStream k line minor major))
  else none

/-- Bytes 0 to 55 of a node (R152, R153). -/
def nodeBody (level : Nat) (cs : List Nat) : Bytes :=
  le 56 (pack (if level = 0 then (64, cs.headD 0) :: (cs.drop 1).map fun c => (12, c) else cs.map fun c => (56, c)))

/-- The counters of a node's bytes. -/
def nodeCounters (level : Nat) (b : Bytes) : List Nat :=
  let w := num b 0 56
  if level = 0 then fld w 0 64 :: (List.range 32).map fun j => fld w (64 + 12 * j) 12
  else (List.range 8).map fun j => fld w (56 * j) 56

/-- A node's tag under its parent's counter (R154). -/
def nodeTag (k : Bytes) (level index pctr : Nat) (body : Bytes) : Bytes :=
  let j := be 16 (pack [(56, pctr), (42, index), (4, level), (24, 0), (1, 1), (1, 1)])
  slice (xorBytes (Config.aesBlock k j) (Config.ghash (hashKey k) body [])) 0 8

/-- A node as the tray stores it: 56 bytes and the tag, its first byte at byte 56 (log entry 11). -/
def nodeBytes (k : Bytes) (level index pctr : Nat) (cs : List Nat) : Bytes :=
  let b := nodeBody level cs
  b ++ nodeTag k level index pctr b

/-- A stored node verifies under its parent's counter. -/
def nodeVerifies (k : Bytes) (level index pctr : Nat) (b : Bytes) : Bool :=
  slice b 56 8 == nodeTag k level index pctr (slice b 0 56)

/-- The all-zero node (R155). -/
def zeroNode (level : Nat) : List Nat := List.replicate (if level = 0 then 33 else 8) 0

/-! ### The tally cache (R161, R162) -/

def nodeAt (s : State) (slot level index : Nat) : Option Node :=
  s.tally.nodes.find? fun n => n.slot == slot && n.level == level && n.index == index

def modNode (slot level index : Nat) (f : Node → Node) (s : State) : State :=
  { s with tally.nodes := s.tally.nodes.map fun n =>
                            if n.slot = slot && n.level = level && n.index = index then f n else n }

/-- A node is modified: CLEAN turns DIRTY, WRITING_BACK will be DIRTY again (R163). -/
def dirtied (n : Node) : Node := { n with state := if n.state = 1 then 2 else if n.state = 3 then 4 else n.state }

/-- The counter above a node: in its parent, or in the root slot (R153). None when the parent is not resident. -/
def counterAbove (s : State) (slot level index : Nat) : Option Nat :=
  match regionAt s slot with
  | none => none
  | some r =>
    if level + 1 = levelsOf r.sizeLog2 then some (nth r.roots index 0)
    else match nodeAt s slot (level + 1) (index / 8) with
      | some n => some (nth n.counters (index % 8) 0)
      | none => none

/-- Write the counter above a node. -/
def setCounterAbove (slot level index v : Nat) (s : State) : State :=
  match regionAt s slot with
  | none => s
  | some r =>
    if level + 1 = levelsOf r.sizeLog2 then modRegion slot (fun r => { r with roots := setNth r.roots index v }) s
    else modNode slot (level + 1) (index / 8) (fun n =>
      dirtied { n with counters := setNth n.counters (index % 8) v }) s

/-- The path of a leaf is resident: every level of it. -/
def pathResident (s : State) (slot leaf : Nat) : Bool :=
  match regionAt s slot with
  | none => false
  | some r => (List.range (levelsOf r.sizeLog2)).all fun k => (nodeAt s slot k (leaf / 8 ^ k)).isSome

/-- The path of a leaf becomes the most recently used. -/
def touchPath (slot leaf : Nat) (s : State) : State :=
  let now := s.tally.useClock + 1
  let f := fun (n : Node) => if n.slot = slot && n.index = leaf / 8 ^ n.level then { n with lastUse := now } else n
  { s with tally.useClock := now, tally.nodes := s.tally.nodes.map f }

/-- The slot that a fabric address names in its key index, and the lines of a request from its first (R141). -/
def addrSlot (s : State) (a : Nat) : Option Nat :=
  match kidxAt s (addrRegion a) with
  | some e => if e.kind = 2 then some (pinAt s e.pin).objA else none
  | none => none

/-- Lines that a mesh request covers: 128 B a beat, from its address on. -/
def reqLines (q : MeshReq) : Nat := ceilDiv (fld q.hdr.toNat 128 6 + 128 * (fld q.hdr.toNat 8 5 + 1)) 64

/-- Does an accepted mesh request use a leaf. -/
def reqUses (s : State) (slot leaf : Nat) (q : MeshReq) : Bool :=
  let a := fld q.hdr.toNat 128 64
  fld q.hdr.toNat 32 2 == 2 && addrSlot s a == some slot &&
    decide (leafOf (addrOffset a / 64) ≤ leaf) && decide (leaf ≤ leafOf (addrOffset a / 64 + reqLines q - 1))

/-- A leaf is pinned: a request accepted on it, a write of it outstanding, or a running migration (R42, R162, R167). -/
def leafPinned (s : State) (slot leaf : Nat) : Bool :=
  (s.ports.inReqs.any fun e => reqUses s slot leaf e.2.q) ||
  (s.tally.lineWrites.any fun w => w.1 == slot && leafOf w.2 == leaf) ||
  (s.tension.units.any fun e => e.2.desc.path == some (slot, leaf)) ||
  (match nodeAt s slot 0 leaf with | some n => n.shadow.isSome | none => false)

/-- An entry may be evicted (R162). -/
def evictable (s : State) (n : Node) : Bool :=
  (n.state == 1 || n.state == 2) &&
  !(n.level != 0 && s.tally.nodes.any fun c => c.slot == n.slot && c.level + 1 == n.level && c.index / 8 == n.index) &&
  !(n.level == 0 && leafPinned s n.slot n.index) &&
  !(s.tally.walks.any fun w => w.slot == n.slot && w.leaf / 8 ^ n.level == n.index)

/-- The least recently used entry that may be evicted. -/
def evictVictim (s : State) : Option Node :=
  match s.tally.nodes.filter fun n => evictable s n with
  | [] => none
  | n :: ns => some (ns.foldl (fun m x => if x.lastUse < m.lastUse then x else m) n)

/-! ### Write-backs (R163, R169) -/

/-- A copy of a node has a write-back or a repair outstanding (R163). -/
def copyBusy (s : State) (slot level index : Nat) (mirror : Bool) : Bool :=
  s.fabric.out.any fun e => match e.2.purpose with
    | .writeBack a b c m _ => a == slot && b == level && c == index && m == mirror
    | _ => false

/-- A metadata request of a region (R156, R211). -/
def metaReq (r : Region) (msg level index vl : Nat) (mirror : Bool) (body : Bytes) (p : FabPurpose) :
    FabNew :=
  { msg := msg, vl := vl, dst := if mirror then r.mirrorEp else r.primaryEp,
    addr := (if mirror then r.mirrorRegion else r.trayRegion) * 2 ^ 52 + nodeAddr r.sizeLog2 level index, cnt := 0,
    aop := 0, key := accessKeyOf r, part := some r.partition, body := body, lines := [], source := none, order := 0,
    ordered := vl == 1 || (r.ordered && vl == 4), purpose := p }

/-- The region has a mirror that still takes writes. -/
def mirrored (r : Region) : Bool := r.mirror && !r.mirrorLost

/-- A write-back to the primary fails (R169): the region is UNAVAILABLE and the node stays DIRTY. -/
def primaryFails (slot level index st : Nat) (s : State) : State :=
  let s := modNode slot level index (fun n => { n with state := 2, acks := 0 }) s
  if st = stOrphaned then regionOrphan slot s else regionUnavail slot s

/-- One copy of a write-back is acknowledged: WRITING_BACK ends with the last one. -/
def copyAcked (slot level index : Nat) (mirror : Bool) (s : State) : State :=
  modNode slot level index (fun n =>
    if n.state = 3 || n.state = 4 then
      let a := if mirror then n.acks % 2 else 2 * (n.acks / 2)
      { n with acks := a, state := if a = 0 then (if n.state = 4 then 2 else 1) else n.state }
    else n) s

/-- Write a DIRTY node back (R163). -/
def writeBack (slot level index : Nat) (s : State) : State :=
  match regionAt s slot, nodeAt s slot level index, counterAbove s slot level index with
  | some r, some n, some c =>
    if n.state ≠ 2 || r.state = 5 || copyBusy s slot level index false || copyBusy s slot level index true then s
    else if c + 1 > 2 ^ 56 - 2 ^ 16 then regionRetire slot s
    else
      let s := setCounterAbove slot level index (c + 1) s
      let b := nodeBytes (regionKey s r) level index (c + 1) n.counters
      let both := mirrored r
      let s := count 0xB033 7 (modNode slot level index (fun n =>
        { n with state := 3, acks := if both then 3 else 1 }) s)
      let s := match fabIssue (metaReq r 0x04 level index 4 false b (.writeBack slot level index false false)) s with
        | .ok s => s
        | .error st => primaryFails slot level index st s
      if both then
        match fabIssue (metaReq r 0x04 level index 4 true b (.writeBack slot level index true false)) s with
        | .ok s => s
        | .error _ => copyAcked slot level index true (modRegion slot (fun r => { r with mirrorLost := true }) s)
      else s
  | _, _, _ => s

/-- The DIRTY nodes of one level, of one region or of all. -/
def dirtyAt (s : State) (only : Option Nat) (level : Nat) : List Node :=
  s.tally.nodes.filter fun n => n.level == level && n.state == 2 && (match only with | some k => n.slot == k | none => true)

/-- Write back every dirty node, lowest level first (R173, R174). -/
def flushDirty (only : Option Nat) (s : State) : State :=
  each (List.range 12) (fun k s => each (dirtyAt s only k) (fun n s => writeBack n.slot n.level n.index s) s) s

/-- A node is DIRTY or being written back. -/
def unsettled (n : Node) : Bool := n.state == 2 || n.state == 3 || n.state == 4

/-- Nodes that wait to be settled: those of R174 DIRTY_NODES. -/
def dirtyNodes (s : State) : Nat := (s.tally.nodes.filter unsettled).length

/-- Room for one more entry (R162): a CLEAN victim is dropped, a DIRTY one is written back first and the install waits. -/
def makeRoom (s : State) : Option State × State :=
  if s.tally.nodes.length < 16384 then (some s, s)
  else match evictVictim s with
    | none => (none, s)
    | some v =>
      if v.state = 1 then
        let s := { s with tally.nodes := s.tally.nodes.filter fun n =>
                            !(n.slot == v.slot && n.level == v.level && n.index == v.index) }
        (some s, s)
      else (none, writeBack v.slot v.level v.index s)

/-- Install a verified node as CLEAN. -/
def installNode (slot level index : Nat) (cs : List Nat) (s : State) : State :=
  let n : Node := { slot := slot, level := level, index := index, state := 1, counters := cs,
                    lastUse := s.tally.useClock + 1, acks := 0, shadow := none }
  { s with tally.useClock := s.tally.useClock + 1, tally.nodes := s.tally.nodes ++ [n] }

/-! ### Damage (R170, R171) -/

/-- A path is below a listed node, or the whole region counts as damaged. -/
def damagedPath (s : State) (slot leaf : Nat) : Bool :=
  (s.tally.damage.any fun d => d.1 == slot && d.2.2 == leaf / 8 ^ d.2.1) ||
  (match regionAt s slot with | some r => r.wholeDamaged | none => false)

/-- A node is poisoned: neither copy verified (R170, R171). -/
def poisonNode (slot level index : Nat) (s : State) : State :=
  let s := count 0xB033 0xB s
  let s := match regionAt s slot with
    | some r => if r.damaged then s else count 0xB033 0xD s
    | none => s
  if s.tally.damage.length < 64 then
    modRegion slot (fun r => { r with damaged := true })
      { s with tally.damage := s.tally.damage ++ [(slot, level, index)] }
  else
    modRegion slot (fun r => { r with damaged := true, wholeDamaged := true })
      { s with tally.damageDropped := s.tally.damageDropped + 1 }

/-! ### Walks (R164) -/

def walkOf (s : State) (slot leaf : Nat) : Option Walk :=
  s.tally.walks.find? fun w => w.slot == slot && w.leaf == leaf

def modWalk (slot leaf : Nat) (f : Walk → Walk) (s : State) : State :=
  { s with tally.walks := s.tally.walks.map fun w => if w.slot = slot && w.leaf = leaf then f w else w }

def endWalk (slot leaf : Nat) (s : State) : State :=
  { s with tally.walks := s.tally.walks.filter fun w => !(w.slot == slot && w.leaf == leaf) }

/-- Does a request that waits at the boundary use a leaf. -/
def heldFor (s : State) (slot leaf : Nat) (q : MeshReq) : Bool := reqUses s slot leaf q

/-! ### The mesh header (R57) -/

structure MHdr where
  opc : Nat
  beats : Nat
  tag : Nat
  tgt : Nat
  vl : Nat
  flag : Bool
  pasidV : Bool
  kidx : Nat
  aop : Nat
  src : Nat
  addr : Nat
  key : Nat
deriving DecidableEq, Repr

def mhdrOf (q : MeshReq) : MHdr :=
  let w := q.hdr.toNat
  { opc := fld w 0 8, beats := fld w 8 5 + 1, tag := fld w 16 16, tgt := fld w 32 2, vl := fld w 34 3,
    flag := tbit w 37, pasidV := tbit w 39, kidx := fld w 64 12, aop := fld w 76 4, src := reqSource q,
    addr := fld w 128 64, key := fld w 192 32 }

/-- Beats a request takes at its port: its data beats for a WRITE, else one (R56). -/
def meshBeats (h : MHdr) : Nat := if h.opc = 2 then h.beats else 1

/-- Tension has taken a message from the boundary buffer: its credits are returned (R53). A transfer's own request came
under none. -/
def returnGrant (q : MeshReq) (s : State) : State :=
  let s := { s with ports.heldMarks := s.ports.heldMarks.filter fun m => !(m.1 == q.port && m.2.1 == q.vch) }
  let n := meshBeats (mhdrOf q)
  let c := creditOf s.ports.granted (.mesh q.port) q.vch
  if internal q then s
  else emit (.credit (.mesh q.port) q.vch n)
    { s with ports.granted := creditSet s.ports.granted (.mesh q.port) q.vch (c + n) }

/-- Answer a mesh request that has not been accepted, its credits returned (R53, R59, R142, R209): the all-ones data of a
failed READ. What the answer to the reserved target carries is a free value (log entry 9). -/
def meshRefuse (q : MeshReq) (status : Nat) (s : State) : State :=
  let w := q.hdr.toNat
  let opc := fld w 0 8
  let read := opc == 1
  let n := 128 * (fld w 8 5 + 1)
  let s := returnGrant q s
  if internal q then accessDone q.vch status 0 [] s
  else if fld w 32 2 = 3 then
    let (p, s) := freshNat s
    let (b, s) := freshBytes n s
    meshAnswer q.port ((opc + 0x80) % 256) (fld w 96 16) (fld w 16 16) status (p % 2 == 1) (if read then b else []) s
  else meshAnswer q.port ((opc + 0x80) % 256) (fld w 96 16) (fld w 16 16) status (read || fld w 32 2 == 1)
    (if read then List.replicate n 0xFF else if opc = 3 then zeroBytes 128 else []) s

/-- A walk ends with a status of the tray: what waits for it completes with that status (R164). -/
def failWaiters (slot leaf st : Nat) (s : State) : State :=
  let mine := s.ports.heldReqs.filter fun q => heldFor s slot leaf q
  let s := { s with ports.heldReqs := s.ports.heldReqs.filter fun q => !heldFor s slot leaf q }
  refuseHeld (fun u => u.path == some (slot, leaf)) st (each mine (fun q s => meshRefuse q st s) s)

/-- The lowest resident level of a path (LEVELS when none is). -/
def lowestResident (s : State) (slot leaf levels : Nat) : Nat :=
  ((List.range levels).find? fun k => (nodeAt s slot k (leaf / 8 ^ k)).isSome).getD levels

/-- A fetch of a node is outstanding for a walk. -/
def fetchOut (s : State) (slot leaf level : Nat) : Bool :=
  s.fabric.out.any fun e => match e.2.purpose with
    | .walk a b c _ => a == slot && b == leaf && c == level
    | _ => false

/-- Node fetches outstanding (R164: at most 256). -/
def fetchesOut (s : State) : Nat :=
  tcount s.fabric.out fun _ q => match q.purpose with | .walk _ _ _ _ => true | .scrub _ _ _ _ => true | _ => false

/-- The awaited node has no good primary copy (`bad`), or the primary does not answer: try the mirror once, else end
the walk in POISON or DEAD (R164). -/
def walkFails (slot leaf level : Nat) (bad : Bool) (s : State) : State :=
  match regionAt s slot, walkOf s slot leaf with
  | some r, some w =>
    let bad' := bad || w.primaryBad
    let give := fun (s : State) =>
      let s := endWalk slot leaf s
      if bad' then poisonNode slot level (leaf / 8 ^ level) s else regionUnavail slot s
    if mirrored r && !w.mirrorTried then
      let s := modWalk slot leaf (fun w => { w with mirrorTried := true, primaryBad := bad' }) s
      match fabIssue (metaReq r 0x03 level (leaf / 8 ^ level) w.vl true [] (.walk slot leaf level true)) s with
      | .ok s => count 0xB033 6 s
      | .error _ => give s
    else give s
  | _, _ => s

/-- Write the verified copy of a node back to the primary (R169). -/
def repairPrimary (slot level index : Nat) (b : Bytes) (s : State) : State :=
  match regionAt s slot with
  | none => s
  | some r =>
    if copyBusy s slot level index false then s
    else match fabIssue (metaReq r 0x04 level index 4 false b (.writeBack slot level index false true)) s with
      | .ok s => count 0xB033 9 s
      | .error _ => s

/-- Fetch the awaited node and up to PREFETCH_DEPTH levels (R164). -/
def walkFetch (slot leaf level : Nat) (s : State) : State :=
  let depth := setting s 0x3000 2
  each ((List.range depth).filter fun d => decide (d ≤ level)) (fun d s =>
    match regionAt s slot, walkOf s slot leaf with
    | some r, some w =>
      let k := level - d
      if fetchOut s slot leaf k || (w.heldNodes.any fun h => h.1 == k) || fetchesOut s ≥ 256 || !tagFree s then s
      else match fabIssue (metaReq r 0x03 k (leaf / 8 ^ k) w.vl false [] (.walk slot leaf k false)) s with
        | .ok s => count 0xB033 6 s
        | .error _ => if d = 0 then walkFails slot leaf k false s else s
    | _, _ => s) s

/-- A walk that has ended starts the next leaf's prefetch when it continues a sequence (R164). -/
def walkDone (slot leaf : Nat) (w : Walk) (s : State) : State × Bool :=
  let seq := !w.prefetch && setting s 0x3000 3 == 1 && leaf != 0 && tget s.tally.lastWalk slot == some (leaf - 1)
  (endWalk slot leaf { s with tally.lastWalk := tput s.tally.lastWalk slot leaf }, seq)

/-- One walk goes on as far as it can (R164): zero counters install zero nodes, verified nodes are installed, missing
ones are fetched. Answers whether it is done and calls for a prefetch walk. -/
def walkGo (slot leaf : Nat) : Nat → State → State × Bool
  | 0, s => (s, false)
  | fuel + 1, s =>
    match regionAt s slot, walkOf s slot leaf with
    | some r, some w =>
      let k := lowestResident s slot leaf (levelsOf r.sizeLog2)
      if r.state ≠ 2 && r.state ≠ 4 then (endWalk slot leaf s, false)
      else if k = 0 then walkDone slot leaf w s
      else
        let c := k - 1
        let i := leaf / 8 ^ c
        if damagedPath s slot leaf then (endWalk slot leaf s, false)
        else if counterAbove s slot c i = some 0 then
          match makeRoom s with
          | (some s, _) => walkGo slot leaf fuel (installNode slot c i (zeroNode c) s)
          | (none, s) => (s, false)
        else match w.heldNodes.find? fun h => h.1 == c with
          | some (_, b) =>
            if nodeVerifies (regionKey s r) c i ((counterAbove s slot c i).getD 0) b then
              match makeRoom s with
              | (some s, _) =>
                let s := if w.mirrorTried then count 0xB033 8 s else s
                let s := installNode slot c i (nodeCounters c b) s
                let s := modWalk slot leaf (fun w =>
                  { w with heldNodes := w.heldNodes.filter (fun h => h.1 != c), mirrorTried := false, primaryBad := false,
                           level := c - 1 }) s
                let s := if w.mirrorTried && w.primaryBad then repairPrimary slot c i b s else s
                walkGo slot leaf fuel s
              | (none, s) => (s, false)
            else
              (walkFails slot leaf c true (modWalk slot leaf (fun w =>
                { w with heldNodes := w.heldNodes.filter fun h => h.1 != c }) s), false)
          | none => (walkFetch slot leaf c s, false)
    | _, _ => (s, false)

/-- Start or join a walk (R164): at most 64 run. -/
def startWalk (slot leaf vl : Nat) (prefetch : Bool) (s : State) : State :=
  match regionAt s slot with
  | none => s
  | some r =>
    if (walkOf s slot leaf).isSome || s.tally.walks.length ≥ 64 || leaf ≥ nodesOf r.sizeLog2 0 then s
    else
      let w : Walk := { slot := slot, leaf := leaf, level := 0, prefetch := prefetch, vl := vl, mirrorTried := false,
                        primaryBad := false, heldNodes := [] }
      (walkGo slot leaf 40 { s with tally.walks := s.tally.walks ++ [w] }).1

/-- A walk goes on after an event, and its prefetch walk starts. -/
def walkOn (slot leaf : Nat) (s : State) : State :=
  let (s, next) := walkGo slot leaf 40 s
  if next then startWalk slot (leaf + 1) 4 true s else s

/-- Start a walk that serves a request; a walk that needs no fetch is done at once. -/
def walkFor (slot leaf vl : Nat) (s : State) : State :=
  match regionAt s slot with
  | none => s
  | some r =>
    if (walkOf s slot leaf).isSome || s.tally.walks.length ≥ 64 || leaf ≥ nodesOf r.sizeLog2 0 then s
    else
      let w : Walk := { slot := slot, leaf := leaf, level := 0, prefetch := false, vl := vl, mirrorTried := false,
                        primaryBad := false, heldNodes := [] }
      walkOn slot leaf { s with tally.walks := s.tally.walks ++ [w] }

/-! ### Lines: counters, accepted writes, migrations (R155, R165 to R168) -/

/-- The leaf of a line, when it is resident. -/
def leafNode (s : State) (slot line : Nat) : Option Node := nodeAt s slot 0 (leafOf line)

/-- MAJOR of a leaf. -/
def majorOf (n : Node) : Nat := n.counters.headD 0

/-- MINOR of a line's place. -/
def minorOf (n : Node) (j : Nat) : Nat := nth n.counters (j + 1) 0

/-- The pair a read of a line uses (R167): OLD_MAJOR while its MOVED bit is clear. -/
def readPair (n : Node) (j : Nat) : Nat × Nat :=
  match n.shadow with
  | some (old, moved, _) => if nth moved j true then (majorOf n, minorOf n j) else (old, minorOf n j)
  | none => (majorOf n, minorOf n j)

/-- A migration of a span is queued. -/
def migQueued (s : State) (slot leaf : Nat) : Bool := s.tally.migrations.contains (slot, leaf)

/-- Queue a migration unless one is queued or running. -/
def queueMigration (slot leaf : Nat) (s : State) : State :=
  let running := match nodeAt s slot 0 leaf with | some n => n.shadow.isSome | none => false
  if migQueued s slot leaf || running then s else { s with tally.migrations := s.tally.migrations ++ [(slot, leaf)] }

/-- Set a line's MINOR; its leaf is modified. -/
def setMinor (slot line v : Nat) (s : State) : State :=
  modNode slot 0 (leafOf line) (fun n => dirtied { n with counters := setNth n.counters (placeOf line + 1) v }) s

/-- Poison a line (R165, R167 step 4): MINOR 0xFFF, its MOVED bit set. -/
def poisonLine (slot line : Nat) (s : State) : State :=
  modNode slot 0 (leafOf line) (fun n =>
    let n := dirtied { n with counters := setNth n.counters (placeOf line + 1) 0xFFF }
    match n.shadow with
    | some (old, moved, fresh) =>
      { n with shadow := some (old, setNth moved (placeOf line) true, setNth fresh (placeOf line) false) }
    | none => n) s

/-- The MINOR that a write of line place `j` takes; none while it must wait for a switch-in (R155, R167). -/
def nextMinor (n : Node) (j : Nat) : Option Nat :=
  let m := minorOf n j
  match n.shadow with
  | some (_, moved, fresh) =>
    if !nth moved j true then some 1
    else if m = 0xFFF && nth fresh j false then some 1
    else if m ≥ 0xFFE then none
    else some (m + 1)
  | none => if m ≥ 0xFFE then none else some (m + 1)

/-- A write of a line is accepted under a MINOR (R155, R167): its leaf is modified, its MOVED bit set, a migration queued
at REKEY_THRESHOLD. -/
def acceptWrite (slot line minor : Nat) (s : State) : State :=
  let j := placeOf line
  let s := modNode slot 0 (leafOf line) (fun n =>
    let n := dirtied { n with counters := setNth n.counters (j + 1) minor }
    match n.shadow with
    | some (old, moved, fresh) => { n with shadow := some (old, setNth moved j true, setNth fresh j false) }
    | none => n) s
  let s := if s.tally.lineWrites.contains (slot, line) then s
    else { s with tally.lineWrites := s.tally.lineWrites ++ [(slot, line)] }
  if minor ≥ setting s 0x3000 1 then queueMigration slot (leafOf line) s else s

/-- A write of the line is unacknowledged (R165). -/
def lineBusy (s : State) (slot line : Nat) : Bool := s.tally.lineWrites.contains (slot, line)

/-- A write of the line ends. -/
def clearLineWrite (slot line : Nat) (s : State) : State :=
  { s with tally.lineWrites := s.tally.lineWrites.erase (slot, line) }

/-- A write to the span waits for a switch-in. -/
def spanWaited (s : State) (slot leaf : Nat) : Bool :=
  (s.ports.heldReqs.any fun q => reqUses s slot leaf q && fld q.hdr.toNat 0 8 == 2) ||
  (s.ports.inReqs.any fun e => reqUses s slot leaf e.2.q && !e.2.ready.isEmpty)

/-- Switch-out when every MOVED bit is set (R167 step 5). -/
def switchOut (slot leaf : Nat) (s : State) : State :=
  match nodeAt s slot 0 leaf with
  | some n =>
    match n.shadow with
    | some (_, moved, _) =>
      if moved.all id then
        let s := modNode slot 0 leaf (fun n => dirtied { n with shadow := none }) s
        let s := count 0xB033 0xC (modRegion slot (fun r => { r with spanRekeys := r.spanRekeys + 1 }) s)
        let due := (n.counters.drop 1).any fun m => decide (m ≥ setting s 0x3000 1) && m != 0xFFF
        let stuck := spanWaited s slot leaf && (n.counters.drop 1).any fun m => decide (m ≥ 0xFFE)
        if due || stuck then queueMigration slot leaf s else s
      else s
    | none => s
  | none => s

/-- Data requests of a region for lines (R209, R221). -/
def dataReq (r : Region) (msg vl line lines : Nat) (pl : List PoolLine) (p : FabPurpose) : FabNew :=
  { msg := msg, vl := vl, dst := r.primaryEp, addr := r.trayRegion * 2 ^ 52 + 64 * line, cnt := lines - 1, aop := 0,
    key := accessKeyOf r, part := some r.partition, body := [], lines := pl, source := none, order := 0,
    ordered := vl == 1 || (vl == 4 && r.ordered), purpose := p }

/-- Move the lines of a running migration that may be moved now (R167 step 3): MOVED clear, no write of the line in the
table, no move of it outstanding, the region LIVE. -/
def moveLines (slot leaf : Nat) (s : State) : State :=
  match regionAt s slot, nodeAt s slot 0 leaf with
  | some r, some n =>
    match n.shadow with
    | some (_, moved, _) =>
      if r.state ≠ 2 then s
      else each ((List.range 32).filter fun j => !nth moved j true) (fun j s =>
        let line := 32 * leaf + j
        let moving := s.fabric.out.any fun e => e.2.purpose == .moveRead slot line
        if moving || lineBusy s slot line || !tagFree s then s
        else match fabIssue (dataReq r 0x01 4 line 1 [] (.moveRead slot line)) s with
          | .ok s => s
          | .error _ => regionUnavail slot s) s
    | none => s
  | _, _ => s

/-- After a line's state has changed: move what can be moved, and switch out. -/
def migrateOn (slot line : Nat) (s : State) : State := switchOut slot (leafOf line) (moveLines slot (leafOf line) s)

/-- The switch-in of R167 step 2 on a resident leaf. -/
def switchIn (slot leaf : Nat) (s : State) : State :=
  match nodeAt s slot 0 leaf with
  | none => s
  | some n =>
    if majorOf n + 1 > 2 ^ 64 - 2 ^ 16 then regionRetire slot s
    else
      let minors := n.counters.drop 1
      let moved := minors.map fun m => m == 0 || m == 0xFFF
      let fresh := minors.map fun m => m == 0xFFF
      let s := modNode slot 0 leaf (fun n =>
        dirtied { n with counters := setNth n.counters 0 (majorOf n + 1), shadow := some (majorOf n, moved, fresh) }) s
      { s with tally.migrations := s.tally.migrations.erase (slot, leaf) }

end Sys2Proof.Machine
end

