-- ==== Sys2Proof/Machine/MeshBase.lean ====
section
/-! DEFINITION. Inbound mesh requests: their checks, their answers line by line; package memory and the merge
buffer (R55 to R68, R141 to R148). -/

namespace Sys2Proof.Machine

/-! ### The form of a request (R57 to R59) -/

/-- Reserved bits, and the fields that do not apply to the request's target or opcode, are zero (R57). -/
def meshReserved (q : MeshReq) : Bool :=
  let w := q.hdr.toNat
  let h := mhdrOf q
  fld w 13 3 == 0 && fld w 60 4 == 0 && fld w 88 8 == 0 && fld w 112 16 == 0 && fld w 224 32 == 0 &&
  fld w 38 1 == 0 && fld w 80 8 == 0 &&
  (h.tgt == 2 || (h.vl == 0 && !h.flag && h.key == 0)) && (h.tgt == 1 || h.kidx == 0) && (h.opc == 3 || h.aop == 0) &&
  (!h.flag || h.opc == 2 || h.opc == 3)

/-- The class a request must travel in (R58). -/
def vchFor (h : MHdr) : Option Nat :=
  if h.tgt = 0 then some 5
  else if h.tgt = 1 then some 2
  else if h.tgt = 2 then
    (if h.vl = 1 then some 1 else if h.vl = 4 then some 3 else if h.vl ≥ 5 then some 4 else none)
  else none

/-- A request reuses a tag that is outstanding on its port from its source (R59). -/
def tagReused (s : State) (q : MeshReq) : Bool :=
  let h := mhdrOf q
  let same := fun (x : MeshReq) => x.port == q.port && (mhdrOf x).src == h.src && (mhdrOf x).tag == h.tag
  (s.ports.inReqs.any fun e => same e.2.q) || (s.ports.heldReqs.any same)

/-- A well-formed package-memory or fabric request (R57 to R59, R209). -/
def meshWellFormed (q : MeshReq) : Bool :=
  let h := mhdrOf q
  meshReserved q && vchFor h == some q.vch && (h.tgt == 1 || h.tgt == 2) &&
  (h.opc == 1 || h.opc == 2 || (h.tgt == 2 && (h.opc == 3 || h.opc == 4))) &&
  decide (h.addr % 4096 + 128 * h.beats ≤ 4096)

/-! ### Credits of inbound classes (R53, R54) -/

/-- A message arrives under credits: they are spent, or the beats are discarded and counted (R54). -/
def takeGrant (q : MeshReq) (s : State) : Option State :=
  let n := meshBeats (mhdrOf q)
  let c := creditOf s.ports.granted (.mesh q.port) q.vch
  if !portUp s (.mesh q.port) then none
  else if c < n then some (countBy 0xB031 1 n s)
  else some { s with ports.granted := creditSet s.ports.granted (.mesh q.port) q.vch (c - n) }

/-- The message came under credits. -/
def underCredit (s : State) (q : MeshReq) : Bool :=
  portUp s (.mesh q.port) && decide (meshBeats (mhdrOf q) ≤ creditOf s.ports.granted (.mesh q.port) q.vch)

/-! ### Lines of a request (R142, R145) -/

/-- Bytes of a request before its first byte in its first line. -/
def linePad (q : MeshReq) : Nat := (mhdrOf q).addr % 64

/-- First line address of a request. -/
def firstLine (q : MeshReq) : Nat := (mhdrOf q).addr / 64

/-- The data and byte enables of line `i` of a WRITE. -/
def lineData (q : MeshReq) (i : Nat) : Bytes := slice (zeroBytes (linePad q) ++ q.data) (64 * i) 64
def lineMask (q : MeshReq) (i : Nat) : List Bool :=
  let m := ((List.replicate (linePad q) false ++ (q.be.take (128 * (mhdrOf q).beats))).drop (64 * i)).take 64
  m ++ List.replicate (64 - m.length) false

/-- A line is full, or partial, or has no byte enabled. -/
def fullLine (q : MeshReq) (i : Nat) : Bool := (lineMask q i).all id
def noLine (q : MeshReq) (i : Nat) : Bool := (lineMask q i).all (!·)
def partLine (q : MeshReq) (i : Nat) : Bool := !fullLine q i && !noLine q i

/-- Bytes of `new` where the mask is set, of `old` elsewhere. -/
def mergeBytes (old new : Bytes) (mask : List Bool) : Bytes :=
  (List.range 64).map fun k => if nth mask k false then nth new k 0 else nth old k 0

/-- Count a line, or a fabric request, completed with POISONED against its region (POISONED_READS, R170). -/
def poisonedRead (slot : Nat) (s : State) : State := modRegion slot (fun r => { r with poisonedReads := r.poisonedReads + 1 }) s
def poisonedReq (q : MeshReq) (st : Nat) (s : State) : State :=
  if st = stPoisoned && (mhdrOf q).tgt = 2 then
    (match addrSlot s (mhdrOf q).addr with | some slot => poisonedRead slot s | none => s)
  else s

/-- The answer of a request all of whose lines have an outcome (R142, R209): the status of the lowest line that is not
DONE; the data of a READ from its first byte, OLD of an ATOMIC from byte 0 (R231). A transfer is told how many bytes lie
below that line. -/
def finishReq (n : Nat) (s : State) : State :=
  match tget s.ports.inReqs n with
  | none => s
  | some r =>
    if !r.waiting.isEmpty then s
    else
      let k := reqLines r.q
      let at_ := fun i => r.done.find? fun d => d.1 == i
      let bad := (List.range k).find? fun i => match at_ i with | some d => d.2.1 != stDone | none => false
      let st := match bad with
        | some i => match at_ i with | some d => d.2.1 | none => stDone
        | none => stDone
      let s := poisonedReq r.q st s
      let data := (List.range k).flatMap fun i => match at_ i with | some d => slice d.2.2 0 64 | none => zeroBytes 64
      if internal r.q then
        accessDone r.q.vch st (64 * bad.getD k) data (sweepSources { s with ports.inReqs := tdel s.ports.inReqs n })
      else meshReply n st (if (mhdrOf r.q).opc = 1 then data.drop (linePad r.q) else data) s

/-- Line `i` of request `n` has its outcome. -/
def lineDone (n i st : Nat) (data : Bytes) (s : State) : State :=
  match tget s.ports.inReqs n with
  | none => s
  | some r =>
    if !r.waiting.contains i then s
    else finishReq n { s with ports.inReqs := tput s.ports.inReqs n
                                { r with waiting := r.waiting.erase i, done := r.done ++ [(i, st, data)] } }

/-- Enter a request that tension has accepted, its lines still without an outcome. -/
def enterReq (q : MeshReq) (part : Option Nat) (lines : List Nat) (s : State) : Nat × State :=
  let n := s.ports.nextIn
  let r : InReq := { port := q.port, q := q, partition := part, waiting := lines, done := [], ctrs := [], ready := [] }
  (n, returnGrant q { s with ports.inReqs := tput s.ports.inReqs n r, ports.nextIn := n + 1 })

/-! ### Package memory (R142 to R145) -/

/-- Memory port of a line (R142, R174). -/
def memPortOf (s : State) (line : Nat) : Nat :=
  (line / (if s.ports.interleave = 0 then 8 else 64)) % memPortsOf s.cfg

/-- The XTS data unit number of a line (R143). -/
def xtsUnit (line kidx : Nat) : Nat := line % 2 ^ 40 + 2 ^ 40 * kidx

/-- The key value of a key index. -/
def kidxKey (s : State) (k : Nat) : Bytes :=
  match kidxAt s k with | some e => keyOf s (pinHandle e.pin e.gen) | none => []

/-- The pin of a key index, as a handle. -/
def kidxPin (s : State) (k : Nat) : Option Nat :=
  match kidxAt s k with | some e => some (pinHandle e.pin e.gen) | none => none

/-- Consecutive members of a rising list, from the run of `n` that begins at `a`, in runs of at most `wide` whose
neighbours `same` holds of: (first, how many). -/
def runsFrom (wide : Nat) (same : Nat → Nat → Bool) (a n : Nat) : List Nat → List (Nat × Nat)
  | [] => [(a, n)]
  | x :: xs =>
    if x = a + n && same (a + n - 1) x && n < wide then runsFrom wide same a (n + 1) xs
    else (a, n) :: runsFrom wide same x 1 xs

/-- The runs of a rising list. -/
def runs (wide : Nat) (same : Nat → Nat → Bool) : List Nat → List (Nat × Nat)
  | [] => []
  | x :: xs => runsFrom wide same x 1 xs

/-- Lines that one command may cover (R65). -/
def blockRuns (base : Nat) (lines : List Nat) : List (Nat × Nat) :=
  runs 8 (fun a b => (base + a) / 8 == (base + b) / 8) lines

/-- The lowest free read tag of a memory port (R65: 1,024 reads outstanding). -/
def freeMemTag (s : State) (port : Nat) : Option Nat :=
  match lowestFree s.ports.memReads 1024 (port * 1024) with
  | some k => if k < port * 1024 + 1024 then some (k - port * 1024) else none
  | none => none

/-- Issue a read command (R65). -/
def memRead (line n kidx : Nat) (req : Option Nat) (first : Nat) (entry : Option Nat) (s : State) : State :=
  let port := memPortOf s line
  match freeMemTag s port with
  | none => s
  | some tag =>
    let m : MemRead := { laddr := line, kidx := kidx, lines := n, req := req, firstLine := first, entry := entry,
                         issueTick := s.tick }
    sendBeats (.mem port) 0 1 (.memRead port tag line n)
      (countBy 0xB000 4 n { s with ports.memReads := tput s.ports.memReads (port * 1024 + tag) m })

/-- Issue a write command of whole lines, encrypted under their key index (R143, R145); each on its lane of the data bus,
the other lanes zero (R65). -/
def memWrite (line kidx : Nat) (plain : List Bytes) (s : State) : State :=
  let port := memPortOf s line
  let key := kidxKey s kidx
  let lanes := (List.range 8).map fun k => decide (line % 8 ≤ k) && decide (k < line % 8 + plain.length)
  let bus := (List.range 8).flatMap fun k =>
    if nth lanes k false then
      let i := k - line % 8
      Config.xtsEnc key (xtsUnit (line + i) kidx) (slice (plain.getD i []) 0 64)
    else zeroBytes 64
  sendBeats (.mem port) 0 1 (.memWrite port line bus lanes) (countBy 0xB000 4 plain.length s)

/-! ### The merge buffer (R146 to R148) -/

/-- The live entry of a line under a key index, and under another one. -/
def mergeFor (s : State) (line kidx : Nat) : Option (Nat × Merge) :=
  tfind s.ports.merge fun _ m => m.laddr == line && m.kidx == kidx && !m.superseded
def mergeOther (s : State) (line kidx : Nat) : Option (Nat × Merge) :=
  tfind s.ports.merge fun _ m => m.laddr == line && (m.kidx != kidx || m.superseded)

/-- The entry's write command is issued: its writes are answered, its reads get the merged line, it is freed. -/
def mergeWrite (k : Nat) (m : Merge) (line : Bytes) (s : State) : State :=
  let s := memWrite m.laddr m.kidx [line] { s with ports.merge := tdel s.ports.merge k }
  let s := each m.writes (fun w s => lineDone w.1 w.2 stDone [] s) s
  each m.reads (fun r s => lineDone r.1 r.2 stDone line s) s

/-- The window closes (R146). -/
def closeMerge (k : Nat) (s : State) : State :=
  match tget s.ports.merge k with
  | none => s
  | some m =>
    if m.state ≠ 0 then s
    else if m.mask.all id then mergeWrite k m m.data (count 0xB033 1 s)
    else if (freeMemTag s (memPortOf s m.laddr)).isNone then s
    else memRead m.laddr 1 m.kidx none 0 (some k)
      (count 0xB033 2 { s with ports.merge := tput s.ports.merge k { m with state := 1 } })

/-- A partial line merges into its entry or takes one (R146). -/
def mergePut (n i line kidx : Nat) (data : Bytes) (mask : List Bool) (s : State) : State :=
  match mergeFor s line kidx with
  | some (k, m) =>
    let m' := { m with data := mergeBytes m.data data mask,
                       mask := (List.range 64).map fun b => nth m.mask b false || nth mask b false,
                       writes := m.writes ++ [(n, i)] }
    let s := { s with ports.merge := tput s.ports.merge k m' }
    if m'.state = 0 && m'.mask.all id then closeMerge k s else s
  | none =>
    match lowestFree s.ports.merge 256 0 with
    | none => s
    | some k =>
      let m : Merge := { laddr := line, kidx := kidx, data := mergeBytes (zeroBytes 64) data mask, mask := mask, state := 0,
                         writes := [(n, i)], reads := [], superseded := false }
      { s with ports.merge := tput s.ports.merge k m }

/-- A full-line WRITE passes an entry of its line and key (R147). -/
def mergePassed (line kidx : Nat) (s : State) : State :=
  match mergeFor s line kidx with
  | none => s
  | some (k, m) =>
    let s := each m.writes (fun w s => lineDone w.1 w.2 stDone [] s) s
    if m.state = 0 then { s with ports.merge := tdel s.ports.merge k }
    else { s with ports.merge := tput s.ports.merge k { m with writes := [], superseded := true } }

/-- A READ of a line with an entry (R147): answered from a full OPEN entry, else it waits for the entry's read. -/
def mergeRead (n i k : Nat) (s : State) : State :=
  match tget s.ports.merge k with
  | none => s
  | some m => closeMerge k { s with ports.merge := tput s.ports.merge k { m with reads := m.reads ++ [(n, i)] } }

/-- The entry's read has returned (R146 to R148). -/
def mergeReadDone (k : Nat) (st : Nat) (plain : Bytes) (s : State) : State :=
  match tget s.ports.merge k with
  | none => s
  | some m =>
    if st ≠ stDone then
      let s := { s with ports.merge := tdel s.ports.merge k }
      let s := each m.writes (fun w s => lineDone w.1 w.2 st [] s) s
      each m.reads (fun r s => lineDone r.1 r.2 st [] s) s
    else
      let line := mergeBytes plain m.data m.mask
      if m.superseded then
        each m.reads (fun r s => lineDone r.1 r.2 stDone line s) { s with ports.merge := tdel s.ports.merge k }
      else mergeWrite k m line s

/-! ### Presenting a package-memory request (R63, R123, R141, R142) -/

/-- Keep a request at the boundary (R38, R39). -/
def holdReq (q : MeshReq) (s : State) : State := { s with ports.heldReqs := s.ports.heldReqs ++ [q] }

/-- The request held first at its port and class has been counted in a counter. -/
def heldMarked (q : MeshReq) (idx sub : Nat) (s : State) : Bool := s.ports.heldMarks.contains (q.port, q.vch, idx, sub)

/-- Count a held request once in each counter whose condition holds it (R44). -/
def countHeld (q : MeshReq) (idx sub : Nat) (s : State) : State :=
  if heldMarked q idx sub s then s
  else count idx sub { s with ports.heldMarks := s.ports.heldMarks ++ [(q.port, q.vch, idx, sub)] }

/-- Count a request that no partition can be given to (R343). -/
def countUnattributed (st : Nat) (part : Option Nat) (s : State) : State :=
  if st = stDenied && part.isNone then count 0xB072 4 s else s

/-- What the check of a request's key index (R123) gives. -/
def pkgBar (s : State) (q : MeshReq) : Nat :=
  let h := mhdrOf q
  if h.addr ≥ 2 ^ 46 then stMalformed else kidxCheck s h.kidx (attributed s h.src h.pasidV) false

/-- New merge entries that a WRITE needs. -/
def mergeNeed (s : State) (q : MeshReq) : Nat :=
  ((List.range (reqLines q)).filter fun i =>
    partLine q i && (mergeFor s (firstLine q + i) (mhdrOf q).kidx).isNone).length

/-- A line of the request waits for another entry of the line to be written (R147). -/
def mergeClash (s : State) (q : MeshReq) : List Nat :=
  (List.range (reqLines q)).filterMap fun i =>
    if (mhdrOf q).opc = 2 && noLine q i then none
    else match mergeOther s (firstLine q + i) (mhdrOf q).kidx with
      | some (k, m) => if m.superseded && m.kidx == (mhdrOf q).kidx && !((mhdrOf q).opc == 2 && partLine q i) then none
                       else some k
      | none => none

/-- Commands that a request issues at each memory port, at most: its blocks. -/
def cmdPorts (s : State) (q : MeshReq) : List Nat :=
  (blockRuns (firstLine q) (List.range (reqLines q))).map fun r => memPortOf s (firstLine q + r.1)

/-- Every memory port of the request can take its commands: up, with a command credit for each and a read tag for each
read (R38, R65). -/
def memReady (s : State) (q : MeshReq) : Bool :=
  (cmdPorts s q).all fun p =>
    let need := reqLines q
    portUp s (.mem p) && decide ((cmdPorts s q).count p ≤ creditOf s.ports.owned (.mem p) 0) &&
    !(s.ports.waitOut.any fun w => w.1 == .mem p) &&
    decide ((tcount s.ports.memReads fun k _ => k / 1024 == p) + need ≤ 1024)

/-- Accept a package-memory READ: lines with an entry wait on it, the others are read block by block. A transfer reads
the lines it wants. -/
def acceptPkgRead (q : MeshReq) (part : Option Nat) (s : State) : State :=
  let h := mhdrOf q
  let lines := (List.range (reqLines q)).filter fun i => !(internal q && noLine q i)
  let entry := fun i => mergeFor s (firstLine q + i) h.kidx
  let own := lines.filter fun i => (entry i).isNone
  let waits := lines.filterMap fun i => (entry i).map fun e => (i, e.1)
  let (n, s) := enterReq q part lines s
  let s := each (blockRuns (firstLine q) own) (fun r s =>
    memRead (firstLine q + r.1) r.2 h.kidx (some n) r.1 none s) s
  each waits (fun w s => mergeRead n w.1 w.2 s) s

/-- Accept a package-memory WRITE: full lines are written, partial ones go to the merge buffer, the others are
skipped (R145). -/
def acceptPkgWrite (q : MeshReq) (part : Option Nat) (s : State) : State :=
  let h := mhdrOf q
  let lines := List.range (reqLines q)
  let full := lines.filter fun i => fullLine q i
  let part_ := lines.filter fun i => partLine q i
  let (n, s) := enterReq q part (full ++ part_) s
  let s := each full (fun i s => mergePassed (firstLine q + i) h.kidx s) s
  let s := each (blockRuns (firstLine q) full) (fun r s =>
    memWrite (firstLine q + r.1) h.kidx ((List.range r.2).map fun j => lineData q (r.1 + j)) s) s
  let s := each full (fun i s => lineDone n i stDone [] s) s
  let s := each part_ (fun i s => mergePut n i (firstLine q + i) h.kidx (lineData q i) (lineMask q i) s) s
  finishReq n s

/-- A port tracks at most 4,096 outstanding inbound requests (R59). -/
def portFull (s : State) (q : MeshReq) : Bool := decide ((tcount s.ports.inReqs fun _ r => r.port == q.port) ≥ 4096)

/-- The key pin is in the pin cache; else a fill is asked for (R38, R125). -/
def keyReady (s : State) (pin : Option Nat) : Bool := match pin with | some h => cached s h | none => true

/-- Present a package-memory request to tension: answered with the status that bars it, held, or accepted. -/
def presentPkg (q : MeshReq) (s : State) : State :=
  let h := mhdrOf q
  let part := attributed s h.src h.pasidV
  let bar := pkgBar s q
  if s.tension.closed then holdReq q s
  else if bar ≠ stDone then
    meshRefuse q bar (countUnattributed bar part (countKeyGone bar s))
  else if !keyReady s (kidxPin s h.kidx) then
    holdReq q (countHeld q 0xB030 3 (missPin ((kidxPin s h.kidx).getD 0) s))
  else if !memReady s q || portFull s q then holdReq q (countHeld q 0xB030 2 s)
  else if !(mergeClash s q).isEmpty then holdReq q (each (mergeClash s q) closeMerge s)
  else if h.opc = 2 && s.ports.merge.length + mergeNeed s q > 256 then holdReq q (countHeld q 0xB033 3 s)
  else
    let s := match kidxPin s h.kidx with | some p => touchPin p s | none => s
    if h.opc = 1 then acceptPkgRead q part s else acceptPkgWrite q part s

end Sys2Proof.Machine
end

