-- ==== Sys2Proof/Machine/Pool.lean ====
section
/-! DEFINITION. Mesh requests to pooled memory: what bars or holds them, how they are accepted, their POOL_READ and
POOL_WRITE messages, atomics and fences (R209, R224 to R233, R141, R155, R160, R165 to R168). -/

namespace Sys2Proof.Machine

/-- The slot, region and offset that a fabric request names (R141). -/
def poolTarget (s : State) (h : MHdr) : Option (Nat × Region × Nat) :=
  match addrSlot s h.addr with
  | none => none
  | some slot => match regionAt s slot with
    | none => none
    | some r => some (slot, r, addrOffset h.addr)

/-- What the state of a region gives a request (R160, R238). -/
def regionBar (r : Region) : Nat :=
  if r.state = 2 then stDone else if r.state = 4 then stTargetDead else if r.state = 5 then stOrphaned else stDenied

/-- First line in the region, and the leaves a request covers. -/
def poolLine (q : MeshReq) : Nat := addrOffset (mhdrOf q).addr / 64
def poolLeaves (q : MeshReq) : List Nat :=
  let a := leafOf (poolLine q)
  (List.range (leafOf (poolLine q + reqLines q - 1) - a + 1)).map (a + ·)

/-- Lines of the request that a WRITE touches, or a READ reads: of a transfer's READ, the lines it wants. -/
def poolTouched (q : MeshReq) : List Nat :=
  (List.range (reqLines q)).filter fun i => !(((mhdrOf q).opc == 2 || internal q) && noLine q i)

/-- The form of a fabric request (R209, R227, R231). -/
def poolFormOk (q : MeshReq) : Bool :=
  let h := mhdrOf q
  if h.opc = 1 then h.addr % 64 == 0
  else if h.opc = 4 then h.beats == 1 && h.addr == 0
  else if h.opc = 3 then
    let want := if h.aop = 5 then 16 else if h.aop = 0xA then 0 else 8
    h.beats == 1 && h.addr % 8 == 0 && decide (h.aop ≤ 0xB) &&
      ((List.range 128).all fun k => nth q.be k false == decide (k < want))
  else true

/-- The status that bars a READ, WRITE or ATOMIC (R123, R141, R160, R205, R207, R231); DONE when nothing does. -/
def poolBar (s : State) (q : MeshReq) : Nat :=
  let h := mhdrOf q
  let part := attributed s h.src h.pasidV
  let k := kidxCheck s (addrRegion h.addr) part true
  if !poolFormOk q then stMalformed
  else if profile s ≠ 0 then stDenied
  else if ownEndpoint s = 0 then stDenied
  else if k ≠ stDone then k
  else match poolTarget s h with
    | none => stDenied
    | some (slot, r, off) =>
      let len := 128 * h.beats
      if h.opc = 3 then
        (if off ≥ 8 * r.cells then stDenied
         else if regionBar r ≠ stDone then regionBar r
         else fabBar s r.primaryEp)
      else if off + len > 2 ^ r.sizeLog2 then stDenied
      else if regionBar r ≠ stDone then regionBar r
      else if (poolLeaves q).any fun l => damagedPath s slot l then stPoisoned
      else fabBar s r.primaryEp

/-- The request travels on an in-order channel (R226). -/
def inOrder (r : Region) (vl : Nat) : Bool := vl == 1 || (vl == 4 && r.ordered)

/-- Same source: SRC_ID and partition. -/
def sameSource (s : State) (a b : MeshReq) : Bool :=
  let x := mhdrOf a
  let y := mhdrOf b
  x.src == y.src && attributed s x.src x.pasidV == attributed s y.src y.pasidV

/-- A fabric write or atomic. -/
def isPoolWrite (q : MeshReq) : Bool := (mhdrOf q).tgt == 2 && ((mhdrOf q).opc == 2 || (mhdrOf q).opc == 3)

/-- An earlier write or atomic lies on the same in-order channel to the same destination (R225). -/
def sameChannel (s : State) (a b : MeshReq) : Bool :=
  let x := mhdrOf a
  let y := mhdrOf b
  match poolTarget s x, poolTarget s y with
  | some (_, r, _), some (_, t, _) => x.vl == y.vl && inOrder r x.vl && inOrder t y.vl && r.primaryEp == t.primaryEp
  | _, _ => false

/-- The accepted requests numbered below `n` let a flagged request of their source go (R225). -/
def flagClear (s : State) (n : Nat) (q : MeshReq) : Bool :=
  !(s.ports.inReqs.any fun e => decide (e.1 < n) && isPoolWrite e.2.q && sameSource s e.2.q q && !sameChannel s e.2.q q)

/-- Tally nodes that accepted requests pin, LEVELS for each leaf (R42). -/
def nodesBooked (s : State) : Nat :=
  s.tension.bookedNodes + (s.ports.inReqs.map fun e =>
    if (mhdrOf e.2.q).tgt = 2 && (mhdrOf e.2.q).opc ≤ 2 then
      match poolTarget s (mhdrOf e.2.q) with
      | some (_, r, _) => levelsOf r.sizeLog2 * (poolLeaves e.2.q).length
      | none => 0
    else 0).sum

/-- A full line of a WRITE must wait for a switch-in (R167). -/
def spanStuck (s : State) (slot : Nat) (q : MeshReq) : List Nat :=
  ((List.range (reqLines q)).filter fun i => fullLine q i).filter fun i =>
    match leafNode s slot (poolLine q + i) with
    | some n => (nextMinor n (placeOf (poolLine q + i))).isNone
    | none => false

/-! ### Issuing lines -/

/-- Lines that may share a message: consecutive, at most 12 (R209). -/
def lineRuns (lines : List Nat) : List (Nat × Nat) := runs 12 (fun _ _ => true) lines

/-- Lines of a request end with a status. -/
def linesEnd (n : Nat) (lines : List Nat) (st : Nat) (s : State) : State := each lines (fun i s => lineDone n i st [] s) s

/-- Take a source's place for a write or atomic. -/
def takeToken (src : Nat) (part : Option Nat) (s : State) : (Nat × Nat) × State := acceptSource src (part.getD 64) s

/-- The ready lines of a request end without having been written. -/
def endReady (n : Nat) (r : InReq) (slot st : Nat) (s : State) : State :=
  let h := mhdrOf r.q
  each r.ready (fun e s =>
    let s := if e.owns then clearLineWrite slot (poolLine r.q + e.line) s else s
    let s := match e.token with
      | some (gen, order) => completeSource h.src (r.partition.getD 64) gen order st s
      | none => s
    lineDone n e.line st [] s) { s with ports.inReqs := tput s.ports.inReqs n { r with ready := [] } }

/-- Issue the ready lines of an accepted WRITE that may go (R165, R166, R167, R225, R226). -/
def pumpReady (n : Nat) (s : State) : State :=
  match tget s.ports.inReqs n with
  | none => s
  | some r =>
    if r.ready.isEmpty then s
    else
      let h := mhdrOf r.q
      match poolTarget s h with
      | none => endReady n r 0 stKeyGone s
      | some (slot, reg, _) =>
        if h.flag && !flagClear s n r.q then s
        else if reg.state ≠ 3 && regionBar reg ≠ stDone then endReady n r slot (regionBar reg) s
        else if inOrder reg h.vl && channelHeld s h.src (r.partition.getD 64) reg.primaryEp then s
        else
          let base := poolLine r.q
          let s := each r.ready (fun e s =>
            match leafNode s slot (base + e.line) with
            | some nd => if (nextMinor nd (placeOf (base + e.line))).isNone && minorOf nd (placeOf (base + e.line)) == 0xFFF
                then queueMigration slot (leafOf (base + e.line)) s else s
            | none => s) s
          let able := r.ready.filter fun e =>
            match leafNode s slot (base + e.line) with
            | some nd => (nextMinor nd (placeOf (base + e.line))).isSome && (e.owns || !lineBusy s slot (base + e.line))
            | none => false
          let groups := lineRuns (able.map (·.line))
          if s.fabric.out.length + groups.length > 65536 then s
          else
            let s := { s with ports.inReqs := tput s.ports.inReqs n
                                { r with ready := r.ready.filter fun e => !able.contains e } }
            each groups (fun g s =>
              let ls := (List.range g.2).map (g.1 + ·)
              let es := able.filter fun e => ls.contains e.line
              let (tok, s) := match es.head? with
                | some e => (match e.token with
                  | some t => (t, s)
                  | none => takeToken h.src r.partition s)
                | none => ((0, 0), s)
              let extra := es.drop 1
              let (s, pls) := es.foldl (fun (acc : State × List PoolLine) e =>
                match leafNode acc.1 slot (base + e.line) with
                | none => acc
                | some nd =>
                  let m := (nextMinor nd (placeOf (base + e.line))).getD 1
                  (acceptWrite slot (base + e.line) m acc.1,
                   acc.2 ++ [sealLine (regionKey acc.1 reg) (base + e.line) m (majorOf nd) e.data])) (s, [])
              let s := each extra (fun e s => match e.token with
                | some (gen, order) => completeSource h.src (r.partition.getD 64) gen order stDone s
                | none => s) s
              let req := { dataReq reg 0x02 h.vl (base + g.1) g.2 pls (.meshWrite n g.1) with
                             key := if reg.checked then 0 else h.key, part := r.partition,
                             source := some (h.src, r.partition.getD 64, tok.1), order := tok.2 }
              match fabIssue req s with
              | .ok s => s
              | .error st =>
                let s := each ls (fun i s => poisonLine slot (base + i) (clearLineWrite slot (base + i) s)) s
                linesEnd n ls st (completeSource h.src (r.partition.getD 64) tok.1 tok.2 st s)) s

/-- Issue the POOL_READs of some lines of an accepted request. -/
def issueReads (n : Nat) (q : MeshReq) (part : Option Nat) (reg : Region) (lines : List Nat)
    (purpose : Nat → FabPurpose) (token : Option (Nat × Nat)) (s : State) : State :=
  let h := mhdrOf q
  each (lineRuns lines) (fun g s =>
    let req := { dataReq reg 0x01 h.vl (poolLine q + g.1) g.2 [] (purpose g.1) with
                   key := if reg.checked then 0 else h.key, part := part,
                   source := token.map fun t => (h.src, part.getD 64, t.1), order := (token.map (·.2)).getD 0 }
    match fabIssue req s with
    | .ok s => s
    | .error st => linesEnd n ((List.range g.2).map (g.1 + ·)) st s) s

/-- The pair of each touched line as the request is accepted. -/
def linePairs (s : State) (slot : Nat) (q : MeshReq) : List (Nat × Nat × Nat) :=
  (poolTouched q).filterMap fun i =>
    (leafNode s slot (poolLine q + i)).map fun nd => (i, readPair nd (placeOf (poolLine q + i)))

/-- Accept a fabric READ (R155, R209): lines never written read as zeros, poisoned ones end POISONED, the others are
fetched. -/
def acceptPoolRead (q : MeshReq) (part : Option Nat) (slot : Nat) (reg : Region) (s : State) : State :=
  let pairs := linePairs s slot q
  let (n, s) := enterReq q part (poolTouched q) s
  let s := openSource (mhdrOf q).src (part.getD 64) s
  let s := { s with ports.inReqs := tmod s.ports.inReqs n fun r => { r with ctrs := pairs } }
  let zero := pairs.filter fun p => p.2.2 == 0
  let dead := pairs.filter fun p => p.2.2 == 0xFFF
  let go := (pairs.filter fun p => p.2.2 != 0 && p.2.2 != 0xFFF).map (·.1)
  let s := issueReads n q part reg go (fun f => .meshRead n f) none s
  let s := each dead (fun p s => lineDone n p.1 stPoisoned [] s) s
  each zero (fun p s => lineDone n p.1 stDone (zeroBytes 64) s) s

/-- Accept a fabric WRITE (R155, R166, R209): full lines are ready to be written; a partial line is read first, unless it
was never written or is poisoned. -/
def acceptPoolWrite (q : MeshReq) (part : Option Nat) (slot : Nat) (reg : Region) (s : State) : State :=
  let h := mhdrOf q
  let pairs := linePairs s slot q
  let (n, s) := enterReq q part (poolTouched q) s
  let s := openSource h.src (part.getD 64) s
  let dead := pairs.filter fun p => partLine q p.1 && p.2.2 == 0xFFF
  let live_ := pairs.filter fun p => !(partLine q p.1 && p.2.2 == 0xFFF)
  let (ready, reads, s) := live_.foldl (fun (acc : List ReadyLine × List (Nat × Option (Nat × Nat)) × State) p =>
    let s := acc.2.2
    let (tok, s) := if h.flag then (none, s) else
      let (t, s) := takeToken h.src part s
      (some t, s)
    if partLine q p.1 then
      let s := { s with tally.lineWrites := s.tally.lineWrites ++ [(slot, poolLine q + p.1)] }
      if p.2.2 = 0 then
        (acc.1 ++ [{ line := p.1, data := mergeBytes (zeroBytes 64) (lineData q p.1) (lineMask q p.1), owns := true,
                     token := tok }], acc.2.1, s)
      else (acc.1, acc.2.1 ++ [(p.1, tok)], s)
    else (acc.1 ++ [{ line := p.1, data := lineData q p.1, owns := false, token := tok }], acc.2.1, s)) ([], [], s)
  let s := { s with ports.inReqs := tmod s.ports.inReqs n fun r => { r with ctrs := pairs, ready := ready } }
  let s := each reads (fun e s => issueReads n q part reg [e.1] (fun f => .meshRmw n f) e.2 s) s
  let s := each dead (fun p s => lineDone n p.1 stPoisoned [] s) s
  finishReq n (pumpReady n s)

/-- Accept a fabric ATOMIC (R231). -/
def acceptPoolAtomic (q : MeshReq) (part : Option Nat) (reg : Region) (s : State) : State :=
  let h := mhdrOf q
  let (n, s) := enterReq q part [0] s
  let (tok, s) := takeToken h.src part s
  let req : FabNew :=
    { msg := 0x05, vl := h.vl, dst := reg.primaryEp, addr := reg.trayRegion * 2 ^ 52 + addrOffset h.addr, cnt := 0,
      aop := h.aop, key := if reg.checked then 0 else h.key, part := part,
      body := slice (mergeBytes (zeroBytes 64) (slice q.data 0 64) (q.be.take 64)) 0 16, lines := [],
      source := some (h.src, part.getD 64, tok.1), order := tok.2, ordered := inOrder reg h.vl,
      purpose := .meshAtomic n }
  match fabIssue req s with
  | .ok s => s
  | .error st => lineDone n 0 st [] (completeSource h.src (part.getD 64) tok.1 tok.2 st s)

/-- Accept a fabric FENCE (R227): it closes its source's generation. -/
def acceptFence (q : MeshReq) (part : Option Nat) (s : State) : State :=
  let h := mhdrOf q
  let (n, s) := enterReq q part [0] s
  let s := openSource h.src (part.getD 64) s
  let s := modSource h.src (part.getD 64) (fun e =>
    { e with gen := (e.gen + 1) % 4, fences := e.fences ++ [(n, e.gen)] }) s
  drainFences h.src (part.getD 64) 8 s

/-! ### Presenting -/

/-- Leaves of a request whose path is not resident. -/
def missingLeaves (s : State) (slot : Nat) (q : MeshReq) : List Nat := (poolLeaves q).filter fun l => !pathResident s slot l

/-- Messages that a request issues at once, at most. -/
def tagNeed (q : MeshReq) : Nat := if (mhdrOf q).opc = 4 then 0 else reqLines q

/-- A fabric request is refused or accepted, or its hold is counted and it waits (R38, R39, R209, R214, R224 to R227). -/
def presentPool (q : MeshReq) (s : State) : State :=
  let h := mhdrOf q
  let part := attributed s h.src h.pasidV
  if s.tension.closed then holdReq q s
  else if h.opc = 4 then
    if !poolFormOk q then meshRefuse q stMalformed s
    else if profile s ≠ 0 || ownEndpoint s = 0 then meshRefuse q stDenied s
    else if !sourceRoom s h.src (part.getD 64) || portFull s q then holdReq q s
    else match sourceOf s h.src (part.getD 64) with
      | some e => if e.fences.length ≥ 3 then holdReq q s else acceptFence q part s
      | none => acceptFence q part s
  else
    let bar := poolBar s q
    if bar ≠ stDone then meshRefuse q bar (poisonedReq q bar (countUnattributed bar part (countKeyGone bar s)))
    else match poolTarget s h with
      | none => meshRefuse q stDenied s
      | some (slot, reg, _) =>
        let pin := pinHandle reg.pin reg.pinGen
        let write := h.opc = 2
        if !sourceRoom s h.src (part.getD 64) || portFull s q then holdReq q s
        else if !cached s pin then holdReq q (countHeld q 0xB030 3 (missPin pin s))
        else if s.fabric.out.length + tagNeed q > 65536 then holdReq q (countHeld q 0xB050 1 s)
        else if h.flag && (s.ports.heldReqs.any fun x => isPoolWrite x && sameSource s x q) then
          holdReq q (countHeld q 0xB050 2 s)
        else if h.opc ≠ 1 && inOrder reg h.vl && channelHeld s h.src (part.getD 64) reg.primaryEp then
          holdReq q (countHeld q 0xB050 3 s)
        else if h.opc = 3 then
          (if h.flag && !flagClear s s.ports.nextIn q then holdReq q (countHeld q 0xB050 2 s)
           else acceptPoolAtomic q part reg s)
        else
          let miss := missingLeaves s slot q
          let s := if heldMarked q 0xB033 4 s || heldMarked q 0xB033 5 s then s
            else countHeld q 0xB033 (if miss.isEmpty then 4 else 5) s
          let s := each miss (fun l s => walkFor slot l (if h.vl = 1 then 1 else 4) s) s
          if !(missingLeaves s slot q).isEmpty then
            (if poolBar s q ≠ stDone then meshRefuse q (poolBar s q) (poisonedReq q (poolBar s q) s)
             else holdReq q (countHeld q 0xB030 4 s))
          else if nodesBooked s + levelsOf reg.sizeLog2 * (poolLeaves q).length > 8192 then
            holdReq q (countHeld q 0xB030 4 s)
          else if (poolTouched q).any fun i => lineBusy s slot (poolLine q + i) then
            holdReq q (countHeld q 0xB030 4 s)
          else if write && s.tally.lineWrites.length + reqLines q > 4096 then holdReq q (countHeld q 0xB030 4 s)
          else if write && !(spanStuck s slot q).isEmpty then
            holdReq q (countHeld q 0xB030 5 (each (spanStuck s slot q) (fun i s =>
              queueMigration slot (leafOf (poolLine q + i)) s) s))
          else
            let s := each (poolLeaves q) (fun l s => touchPath slot l s) (touchPin pin s)
            if write then
              acceptPoolWrite q part slot reg
                (if h.flag && !flagClear s s.ports.nextIn q then countHeld q 0xB050 2 s else s)
            else acceptPoolRead q part slot reg s

/-- Present an inbound request to tension, behind what its class already holds at its port (R39). -/
def present (q : MeshReq) (s : State) : State :=
  if s.ports.heldReqs.any fun x => x.port == q.port && x.vch == q.vch then holdReq q s
  else if (mhdrOf q).tgt = 1 then presentPkg q s
  else presentPool q s

/-- An event may have removed what holds requests: their ready lines and the held requests are offered again, in
order. -/
def retryHeld (s : State) : State :=
  let s := each (s.ports.inReqs.map (·.1)) pumpReady s
  each s.ports.heldReqs (fun q s => present q s) { s with ports.heldReqs := [] }

end Sys2Proof.Machine
end

