-- ==== Sys2Proof/Machine/Transfer.lean ====
section
/-! DEFINITION. The transfers of descriptors, nodes and service-unit jobs: their accesses to HOST, PACKAGE and POOL memory
one after the other, and what they get back (R142, R209, R217, R282, R303, R390, R392). -/

namespace Sys2Proof.Machine

/-! ### Accesses -/

/-- Where an offset of a handle lies: kind (0 HOST, 1 PACKAGE, 2 POOL), key index, address (R284). A job of the switch
names a key index of package memory, a job of the tray reaches tray memory by mesh requests (R390). -/
def spotOf (s : State) (h off : Nat) : Nat × Nat × Nat :=
  if profile s = 1 then (1, h, off)
  else if profile s = 2 then (0, 0, off)
  else
    let o := objAt s (hIdx h)
    (o.kind, o.kidx, o.base + off)

/-- The header of a transfer's request to package or pooled memory, laid out as R57 has it. -/
def accessHeader (x : XferRun) (opc kind kidx addr beats aop : Nat) : BitVec 256 :=
  let flag := kind == 2 && x.flag && (opc == 2 || opc == 3)
  BitVec.ofNat 256 (pack [(8, opc), (5, beats - 1), (19, 0), (2, kind), (3, if kind = 2 then x.vl else 0), (1, bit flag),
    (26, 0), (12, if kind = 1 then kidx else 0), (4, aop), (48, 0), (64, if kind = 2 then kidx * 2 ^ 52 + addr else addr),
    (32, if kind = 2 then x.key else 0), (32, 0)])

/-- A request for `n` bytes, `lead` of them before the first wanted one; its byte enables name the wanted ones. -/
def accessReq (x : XferRun) (job opc kind kidx addr n aop : Nat) (data : Bytes) : MeshReq :=
  let lead := addr % 128
  let beats := ceilDiv (lead + n) 128
  { port := x.src, vch := job, hdr := accessHeader x opc kind kidx (addr - lead) beats aop,
    data := zeroBytes lead ++ data,
    be := List.replicate lead false ++ List.replicate n true ++ List.replicate (128 * beats - lead - n) false }

/-- A transfer makes an access of at most `n` bytes, within one 4 KiB window. -/
def startAccess (job h off n : Nat) (bytes : Bytes) (write : Bool) (s : State) : State :=
  match tget s.host.xfers job with
  | none => s
  | some x =>
    let at_ := spotOf s h off
    let len := Nat.min n (4096 - at_.2.2 % 4096)
    let a : Access := { handle := h, off := off, len := len, write := write,
                        lead := if at_.1 = 0 then 0 else at_.2.2 % 128, got := none }
    let s := modXfer job (fun x => { x with acc := some a }) s
    let data := if write then slice bytes 0 len else []
    if at_.1 = 0 then meshIssue (.xfer job) at_.2.2 len write x.pasid data s
    else present (accessReq x job (if write then 2 else 1) at_.1 at_.2.1 at_.2.2 len 0 data) s

/-- The answer to an access to HOST memory (R62, R282); what a job of the tray has written is in tray memory (R390). -/
def hostAnswered (job st : Nat) (poison : Bool) (data : Bytes) (s : State) : State :=
  let st := if st = stDone && poison then stPoisoned else st
  let s := match tget s.host.xfers job with
    | some x => (match x.acc, x.writes with
      | some a, w :: _ =>
        if profile s = 2 && a.write && st = stDone then
          { s with fabric.tray.mem := Memory.writeN s.fabric.tray.mem a.off (slice w.2.2 0 a.len) }
        else s
      | _, _ => s)
    | none => s
  accessDone job st 0 data s

/-! ### The lists of a transfer -/

/-- What is left to read, and to write, after `n` bytes of the first entry. -/
def dropRead (n : Nat) : List (Nat × Nat × Nat) → List (Nat × Nat × Nat)
  | [] => []
  | (h, o, l) :: rest => if l ≤ n then rest else (h, o + n, l - n) :: rest
def dropWrite (n : Nat) : List (Nat × Nat × Bytes) → List (Nat × Nat × Bytes)
  | [] => []
  | (h, o, b) :: rest => if b.length ≤ n then rest else (h, o + n, b.drop n) :: rest

/-- An answered access is taken in: its bytes, or where it failed, which ends what was left. -/
def settleAccess (x : XferRun) : XferRun :=
  match x.acc with
  | none => x
  | some a => match a.got with
    | none => x
    | some g =>
      let n := if g.st = stDone then a.len else Nat.min (g.good - a.lead) a.len
      let fail := (g.st, a.handle, a.off + n)
      if a.write then
        (if g.st = stDone then { x with acc := none, writes := dropWrite n x.writes }
         else { x with acc := none, writes := [], reads := [], wfail := some fail })
      else
        let buf := x.buf ++ slice (g.data.drop a.lead) 0 n
        if g.st = stDone then { x with acc := none, buf := buf, reads := dropRead n x.reads }
        else { x with acc := none, buf := buf, reads := [], rfail := some fail }

/-- Nothing is under way or asked for. -/
def xferIdle (x : XferRun) : Bool := x.acc.isNone && x.reads.isEmpty && x.writes.isEmpty

/-- The next access of a transfer: a write before a read. -/
def nextAccess (job : Nat) (s : State) : State :=
  match tget s.host.xfers job with
  | none => s
  | some x =>
    if x.acc.isSome then s
    else match x.writes, x.reads with
      | (h, o, b) :: _, _ => startAccess job h o b.length b true s
      | [], (h, o, n) :: _ => startAccess job h o n [] false s
      | [], [] => s

/-- One turn of a transfer: its answered access is taken in, what comes next is done when nothing is under way, and the
next access made (log entry 42). -/
def xferTurn (job : Nat) (act : XferRun → State → State) (s : State) : State :=
  let s := modXfer job settleAccess s
  match tget s.host.xfers job with
  | none => s
  | some x => nextAccess job (if xferIdle x then act x s else s)

/-- A transfer as it begins. -/
def newXfer (src vl key : Nat) (flag : Bool) (pasid : Option Nat) : XferRun :=
  { src := src, vl := vl, key := key, flag := flag, pasid := pasid, pos := 0, reads := [], writes := [], buf := [],
    acc := none, rfail := none, wfail := none }

def openXfer (job : Nat) (x : XferRun) (s : State) : State := { s with host.xfers := tput s.host.xfers job x }

/-- Ask for a read; hand over a write, the bytes read so far dealt with and the place moved on. -/
def askRead (job h off n : Nat) (s : State) : State :=
  modXfer job (fun x => { x with reads := x.reads ++ [(h, off, n)] }) s
def askWrite (job h off : Nat) (b : Bytes) (s : State) : State :=
  modXfer job (fun x => { x with writes := if b.isEmpty then x.writes else x.writes ++ [(h, off, b)] }) s
def takeBuf (job pos : Nat) (s : State) : State := modXfer job (fun x => { x with buf := [], pos := pos }) s

/-- What a transfer still had to read and to write is dropped; an access under way runs on. -/
def dropLists (job : Nat) (s : State) : State := modXfer job (fun x => { x with reads := [], writes := [] }) s

/-! ### What a descriptor's transfer acts for (R224, R282, R303) -/

/-- Virtual lane of a descriptor's pooled traffic (R303). -/
def descLane (d : Desc) : Nat := if d.queue % 4 = 0 then 1 else if d.queue % 4 = 3 then 5 else 4

/-- PASID of a context. -/
def pasidOf (s : State) (c : Nat) : Option Nat := (ctxAt s c).map (·.pasid)

/-- The transfer of a descriptor with its ACCESS_KEY. -/
def openDesc (k : Nat) (d : Desc) (key : Nat) (s : State) : State :=
  openXfer k (newXfer (ctxSource (descCtx d)) (descLane d) key (flagOf d 3) (pasidOf s (descCtx d))) s

/-! ### Removal (R459, R461) -/

/-- The transfer of a service unit's running job. -/
def serviceJob (s : State) (k : Nat) : Bool :=
  (s.shuttle.state == 1 && s.shuttle.job == k) || (s.purl.running.isSome && s.purl.xfer == k)

/-- The transfers of a context's descriptors and nodes are removed: requests that tension holds, and lines not yet
written; what has been sent runs on without them. -/
def cutJobs (c st : Nat) (s : State) : State :=
  let mine := fun (q : MeshReq) => q.port == ctxSource c && !serviceJob s q.vch
  let gone := s.ports.inReqs.filter fun e => mine e.2.q && !e.2.ready.isEmpty
  let s := { s with ports.heldReqs := s.ports.heldReqs.filter fun q => !mine q,
                    ports.heldMarks := s.ports.heldMarks.filter fun m => !(m.1 == ctxSource c && !serviceJob s m.2.1),
                    host.xfers := s.host.xfers.filter fun e => e.2.src != ctxSource c || serviceJob s e.1 }
  each gone (fun e s =>
    match tget s.ports.inReqs e.1 with
    | some r => endReady e.1 r (match poolTarget s (mhdrOf r.q) with | some (k, _, _) => k | none => 0) st s
    | none => s) s

end Sys2Proof.Machine
end

