-- ==== Sys2Proof/Machine/Tray.lean ====
section
/-! DEFINITION. The tray: region records, access checks, cells and atomics, the replay cache and owner records, and the
rows of the messages it executes (R220 to R236). -/

namespace Sys2Proof.Machine

/-! ### Records and memory (R220, R223) -/

def trayRegion (s : State) (k : Nat) : Option TrayRegion := tget s.fabric.tray.regions k

def modTray (k : Nat) (f : TrayRegion → TrayRegion) (s : State) : State :=
  { s with fabric.tray.regions := tmod s.fabric.tray.regions k f }

/-- Cells of records that are OWNED. -/
def cellsUsed (s : State) : Nat := (s.fabric.tray.regions.map fun e => e.2.cells).sum

/-- The lowest base at which `n` consecutive cells are free (log entry 13). -/
def freeCells (s : State) (n : Nat) : Option Nat :=
  if n = 0 then some 0
  else
    let used := fun b => s.fabric.tray.regions.any fun e =>
      decide (e.2.cells ≠ 0) && decide (b < e.2.cellBase + e.2.cells) && decide (e.2.cellBase < b + n)
    ((0 :: s.fabric.tray.regions.map fun e => e.2.cellBase + e.2.cells).filter
      fun b => decide (b + n ≤ 16384) && !used b).min?

/-- Zeroise and free a record's cells; the record is FREE (R220, R234). -/
def freeRecord (k epoch : Nat) (s : State) : State :=
  match trayRegion s k with
  | none => s
  | some t =>
    modTray k (fun t => { t with state := 1, checked := false, ordered := false, ownerEp := 0, ownerJob := 0, epoch := epoch,
                                 cellBase := 0, cells := 0, key := 0 })
      { s with fabric.tray.cells := s.fabric.tray.cells.filter fun e =>
                 !(decide (t.cellBase ≤ e.1) && decide (e.1 < t.cellBase + t.cells)) }

/-- Byte addresses in tray memory of a line of data, of its tag, and of a metadata offset. -/
def trayData (t : TrayRegion) (off : Nat) : Nat := 64 * t.dataBase + off
def trayMeta (t : TrayRegion) (off : Nat) : Nat := 64 * t.metaBase + off

/-- The stored pair of a line: ciphertext and tag (R150, R151). -/
def readPooled (s : State) (t : TrayRegion) (off : Nat) : PoolLine :=
  { data := Memory.readN s.fabric.tray.mem (trayData t off) 64,
    tag := Memory.readN s.fabric.tray.mem (trayMeta t (off / 64 * 8)) 8 }

/-- Store a line's pair in full; an earlier error of the location is cleared (R151). -/
def writePooled (t : TrayRegion) (off : Nat) (l : PoolLine) (s : State) : State :=
  { s with fabric.tray.mem := Memory.writeN (Memory.writeN s.fabric.tray.mem (trayData t off) (slice l.data 0 64))
             (trayMeta t (off / 64 * 8)) (slice l.tag 0 8),
           fabric.tray.poison := s.fabric.tray.poison.filter fun a => a != trayData t off }

/-- Store metadata in full. -/
def writeMeta (t : TrayRegion) (off : Nat) (b : Bytes) (s : State) : State :=
  { s with fabric.tray.mem := Memory.writeN s.fabric.tray.mem (trayMeta t off) b,
           fabric.tray.poison := s.fabric.tray.poison.filter fun a =>
             !(decide (trayMeta t off ≤ a) && decide (a < trayMeta t off + b.length)) }

/-- A line or node of tray memory has an uncorrectable error. -/
def poisoned (s : State) (a n : Nat) : Bool := s.fabric.tray.poison.any fun p => decide (a ≤ p) && decide (p < a + n)

/-! ### Checks (R221 to R223) -/

/-- Checks 2 to 5 of R223: the status and the counter of the first that fails. -/
def trayCheck (s : State) (m : FMsg) (h : FHdr) : Option (Nat × Nat) :=
  let own := h.msg == 0x08 || h.msg == 0x09
  match trayRegion s (addrRegion h.addr) with
  | none => some (stDenied, 0xA)
  | some t =>
    let off := addrOffset h.addr
    let isMeta := h.msg == 0x03 || h.msg == 0x04
    let data := h.msg == 0x01 || h.msg == 0x02
    if !own && t.state ≠ 2 then some (stOrphaned, 0xA)
    else if !own && t.checked && h.msg ≠ 0x0A && !(m.srcEp == t.ownerEp && h.job == t.ownerJob) then some (stDenied, 0xB)
    else if !own && (!t.checked || h.msg = 0x0A) && h.key ≠ t.key then some (stDenied, 0xA)
    else if data && off + 64 * (h.cnt + 1) > 2 ^ t.sizeLog2 then some (stDenied, 0xA)
    else if isMeta && off + 64 * (h.cnt + 1) > metaSpace t.sizeLog2 then some (stDenied, 0xA)
    else if h.msg = 0x05 && off / 8 ≥ t.cells then some (stDenied, 0xA)
    else none

/-- The message is for this block to execute: it forwards, answers a malformed one, or acts (R204, R208, R212, R223). -/
def trayRow (msg : Nat) (m : FMsg) (act : FHdr → State → State) (s : State) : State :=
  let h := fhdrOf m.hdr
  if !running s then s
  else if m.dstEp ≠ ownEndpoint s then (if profile s = 1 then fabForward m s else s)
  else if h.msg ≠ msg then s
  else if !msgOk m || profile s ≠ 2 then fabMalformed m s
  else act h s

/-- A row whose request is checked as R223 says before it is executed. -/
def checkedRow (msg : Nat) (m : FMsg) (act : FHdr → TrayRegion → State → State) (s : State) : State :=
  trayRow msg m (fun h s =>
    match trayCheck s m h, trayRegion s (addrRegion h.addr) with
    | some (st, c), _ => fabRefuse m st false (count 0xB050 c s)
    | none, some t => act h t s
    | none, none => s) s

/-! ### Cells (R229, R230) -/

/-- The new value of a cell (R230). -/
def cellOp (op : Nat) (old a b : BitVec 64) : BitVec 64 :=
  if op = 0 then old + a
  else if op = 1 then old &&& a
  else if op = 2 then old ||| a
  else if op = 3 then old ^^^ a
  else if op = 4 then a
  else if op = 5 then (if old = a then b else old)
  else if op = 6 then (if old.toNat < a.toNat then a else old)
  else if op = 7 then (if a.toNat < old.toNat then a else old)
  else if op = 8 then (if old.toInt < a.toInt then a else old)
  else if op = 9 then (if a.toInt < old.toInt then a else old)
  else if op = 10 then old
  else a

/-- The value of a cell; zero when nothing has written it. -/
def cellAt (s : State) (k : Nat) : BitVec 64 := tgetD s.fabric.tray.cells k 0

/-! ### The replay cache (R232) -/

/-- What the replay cache says of a request before it is checked. -/
inductive ReplayFinding where
  | hit (e : Replay) | fresh | unknown | full
deriving DecidableEq, Repr

def replayLook (s : State) (src : Nat) (h : FHdr) : ReplayFinding :=
  let set_ := tget s.fabric.tray.replay src
  match (set_.getD []).find? fun e => e.tag == h.tag && e.seq == h.seq with
  | some e => .hit e
  | none =>
    if h.retry = 1 then .unknown
    else match set_ with
      | some l => if l.length ≥ 4096 then .full else .fresh
      | none => if s.fabric.tray.replay.length ≥ 16 then .full else .fresh

/-- Record a response and send it (R232). -/
def recordAnswer (m : FMsg) (h : FHdr) (status : Nat) (body : Bytes) (s : State) : State :=
  let e : Replay := { tag := h.tag, seq := h.seq, msg := h.msg, status := status, body := body, tick := s.tick }
  fabAnswer m (rspType h.msg) status false body []
    { s with fabric.tray.replay :=
               tput s.fabric.tray.replay m.srcEp ((tget s.fabric.tray.replay m.srcEp).getD [] ++ [e]) }

/-- The body of an OWN_RSP (R212). -/
def ownBody (t : TrayRegion) : Bytes :=
  le 2 t.ownerEp ++ le 1 t.state ++ le 1 (bit t.checked + 2 * bit t.ordered) ++ le 4 t.epoch ++ le 2 t.cells ++ zeroBytes 6

/-- A failing body of a recorded response: the record's current values for an OWN_CAS whose access key does not match
(R234), free values where the rules give none (log entry 9). -/
def recordRefuse (m : FMsg) (h : FHdr) (status : Nat) (s : State) : State :=
  let owned := match trayRegion s (addrRegion h.addr) with
    | some t => if h.msg = 0x0A && t.state = 2 then some t else none
    | none => none
  match owned with
  | some t => recordAnswer m h status (ownBody t) s
  | none =>
  if h.msg = 0x05 then
    let (b, s) := freshBytes 8 s
    recordAnswer m h status (b ++ zeroBytes 8) s
  else
    let (b, s) := freshBytes 10 s
    recordAnswer m h status (b ++ zeroBytes 6) s

/-- An ATOMIC, OWN_CLAIM or OWN_CAS: replay cache, checks, then the operation (R232). -/
def onceRow (msg : Nat) (m : FMsg) (act : FHdr → TrayRegion → State → State) (s : State) : State :=
  trayRow msg m (fun h s =>
    match replayLook s m.srcEp h with
    | .hit e => fabAnswer m (rspType msg) e.status false e.body [] (count 0xB050 7 s)
    | .unknown => fabRefuse m stUnknown false (count 0xB050 8 s)
    | .full => fabRefuse m stTableFull false (count 0xB050 9 s)
    | .fresh =>
      match trayCheck s m h, trayRegion s (addrRegion h.addr) with
      | some (st, c), _ => recordRefuse m h st (count 0xB050 c s)
      | none, some t => act h t s
      | none, none => s) s

/-- The record after a change, as an OWN_RSP body. -/
def ownBodyOf (s : State) (k : Nat) : Bytes := match trayRegion s k with | some t => ownBody t | none => zeroBytes 16

/-! ### The rows of the tray's messages -/

/-- POOL_READ (R209, R213, R223): the pairs of COUNT_M1 + 1 lines; POISON for a memory error (R151). -/
def execPoolRead (m : FMsg) (s : State) : Host.Outcome State Fault Refusal :=
  .next (checkedRow 0x01 m (fun h t s =>
    let off := addrOffset h.addr
    if poisoned s (trayData t off) (64 * (h.cnt + 1)) then fabAnswer m 0x81 stPoisoned true [] [] s
    else fabAnswer m 0x81 stDone false [] ((List.range (h.cnt + 1)).map fun k => readPooled s t (off + 64 * k)) s) s)

/-- POOL_WRITE (R213, R223): each line with its tag. -/
def execPoolWrite (m : FMsg) (s : State) : Host.Outcome State Fault Refusal :=
  .next (checkedRow 0x02 m (fun h t s =>
    if m.lines.length ≠ h.cnt + 1 then fabMalformed m s
    else
      let off := addrOffset h.addr
      let s := each (List.range (h.cnt + 1)) (fun k s =>
        writePooled t (off + 64 * k) (m.lines.getD k { data := [], tag := [] }) s) s
      fabAnswer m 0x82 stDone false [] [] s) s)

/-- META_READ (R156, R223). -/
def execMetaRead (m : FMsg) (s : State) : Host.Outcome State Fault Refusal :=
  .next (checkedRow 0x03 m (fun h t s =>
    let off := addrOffset h.addr
    let n := 64 * (h.cnt + 1)
    fabAnswer m 0x83 stDone (poisoned s (trayMeta t off) n) (Memory.readN s.fabric.tray.mem (trayMeta t off) n) [] s) s)

/-- META_WRITE (R156, R223). -/
def execMetaWrite (m : FMsg) (s : State) : Host.Outcome State Fault Refusal :=
  .next (checkedRow 0x04 m (fun h t s =>
    fabAnswer m 0x84 stDone false [] [] (writeMeta t (addrOffset h.addr) m.body s)) s)

/-- ATOMIC (R229 to R232). -/
def execTrayAtomic (m : FMsg) (s : State) : Host.Outcome State Fault Refusal :=
  .next (onceRow 0x05 m (fun h t s =>
    let k := t.cellBase + addrOffset h.addr / 8
    let old := cellAt s k
    let new := cellOp h.aop old (BitVec.ofNat 64 (num m.body 0 8)) (BitVec.ofNat 64 (num m.body 8 8))
    recordAnswer m h stDone (le 8 old.toNat ++ zeroBytes 8)
      { s with fabric.tray.cells := if new = 0 then tdel s.fabric.tray.cells k else tput s.fabric.tray.cells k new }) s)

/-- OWN_READ (R234). -/
def execOwnRead (m : FMsg) (s : State) : Host.Outcome State Fault Refusal :=
  .next (checkedRow 0x08 m (fun _ t s => fabAnswer m 0x88 stDone false (ownBody t) [] s) s)

/-- OWN_CLAIM (R229, R234). -/
def ownClaim (m : FMsg) (h : FHdr) (t : TrayRegion) (s : State) : State :=
  let k := addrRegion h.addr
  let newKey := num m.body 0 4
  let size := num m.body 4 1
  let flags := num m.body 5 1
  let cells := num m.body 6 2
  if t.state ≠ 1 || size ≠ t.sizeLog2 then recordAnswer m h stDenied (ownBody t) s
  else if t.epoch ≥ 0xFFFFFFFF then recordAnswer m h stOrphaned (ownBody t) s
  else match freeCells s cells with
    | none => recordAnswer m h stTableFull (ownBody t) s
    | some base =>
      let s := modTray k (fun t =>
        { t with state := 2, ownerEp := m.srcEp, epoch := t.epoch + 1, key := newKey, ownerJob := h.job,
                 checked := tbit flags 0, ordered := tbit flags 1, cellBase := base, cells := cells }) s
      recordAnswer m h stDone (ownBodyOf s k) s

def execOwnClaim (m : FMsg) (s : State) : Host.Outcome State Fault Refusal :=
  .next (onceRow 0x09 m (ownClaim m) s)

/-- OWN_CAS (R234). -/
def ownCas (m : FMsg) (h : FHdr) (t : TrayRegion) (s : State) : State :=
  let k := addrRegion h.addr
  let newOwner := num m.body 2 2
  if t.ownerEp ≠ num m.body 0 2 || t.epoch ≠ num m.body 4 4 then recordAnswer m h stDenied (ownBody t) s
  else if t.epoch ≥ 0xFFFFFFFF then recordAnswer m h stOrphaned (ownBody t) s
  else
    let s := if newOwner = 0 then freeRecord k (t.epoch + 1) s
      else modTray k (fun t => { t with ownerEp := newOwner, epoch := t.epoch + 1, key := num m.body 8 4,
                                        ownerJob := h.job }) s
    recordAnswer m h stDone (ownBodyOf s k) s

def execOwnCas (m : FMsg) (s : State) : Host.Outcome State Fault Refusal :=
  .next (onceRow 0x0A m (ownCas m) s)

/-- A replay entry's hold ends (R232): REPLAY_HOLD ticks after its response; an empty set is freed. -/
def execReplayEntryExpire (src : Nat) (tag : Nat) (s : State) : Host.Outcome State Fault Refusal :=
  .next (
    let keep := fun (e : Replay) => e.tag != tag || decide (s.tick < e.tick + setting s 0x5101 3)
    let l := ((tget s.fabric.tray.replay src).getD []).filter keep
    { s with fabric.tray.replay := if l.isEmpty then tdel s.fabric.tray.replay src
                                   else tput s.fabric.tray.replay src l })

/-- TRAY_REGION_PROVISION (R220). -/
def ownTrayRegionProvision (v : Nat) (s : State) : Own :=
  let k := fld v 0 12
  let size := fld v 16 8
  guarded [(fld v 12 4 != 0 || fld v 104 24 != 0 || size < 14 || size > 46, abRange),
    ((trayRegion s k).isSome, abState)]
    { s with fabric.tray.regions := tput s.fabric.tray.regions k
               { state := 1, checked := false, ordered := false, sizeLog2 := size, ownerEp := 0, epoch := 0, ownerJob := 0,
                 cellBase := 0, cells := 0, dataBase := fld v 24 40, metaBase := fld v 64 40, key := 0 } }

def execTrayRegionProvision (r : OdReq) (v : BitVec 128) (s : State) : Host.Outcome State Fault Refusal :=
  .next (odWrite r 0x5101 1 (le 16 v.toNat) (ownTrayRegionProvision v.toNat) s)

/-- TRAY_REGION_RESET (R220). -/
def ownTrayRegionReset (v : Nat) (s : State) : Own :=
  match trayRegion s v with
  | none => .abort abState
  | some t => .ok (freeRecord v ((t.epoch + 1) % 2 ^ 32) s)

def execTrayRegionReset (r : OdReq) (v : BitVec 16) (s : State) : Host.Outcome State Fault Refusal :=
  .next (odWrite r 0x5101 2 (le 2 v.toNat) (ownTrayRegionReset v.toNat) s)

end Sys2Proof.Machine
end

