-- ==== Sys2Proof/Machine/Ownership.lean ====
section
/-! DEFINITION. Owner records at the requester: creating and releasing regions, and the hand-over of a region without copy
(R158, R159, R233 to R241). -/

namespace Sys2Proof.Machine

/-! ### What a partition holds (R115, R338, R341) -/

/-- A partition's live pin, as a handle. -/
def partPin (s : State) (part : Nat) : Option Nat :=
  match tget s.parts part with
  | some p => if p.state = 1 && live s (pinHandle p.pin p.pinGen) then some (pinHandle p.pin p.pinGen) else none
  | none => none

/-- Held-store slots under the PARTITION pin. -/
def heldUsed (s : State) (part : Nat) : Nat :=
  match tget s.parts part with
  | some p => tcount s.keys.pins fun i q => q.kind == 2 && q.state != 0 && below s p.pin i
  | none => 0

/-- Root slots of a partition. -/
def rootsUsed (s : State) (part : Nat) : Nat := tcount s.tally.regions fun _ r => r.partition == part

/-- A held-store slot, and a root slot, are left in the partition's quota. -/
def heldRoom (s : State) (part : Nat) : Bool :=
  match tget s.parts part with | some p => decide (heldUsed s part < p.heldQuota) && (freeSlot s).isSome | none => false
def rootRoom (s : State) (part : Nat) : Bool :=
  match tget s.parts part with
  | some p => decide (rootsUsed s part < p.rootQuota) && (lowestFree s.tally.regions 2048 0).isSome
  | none => false

/-! ### Owner requests (R212, R233 to R235) -/

/-- An ownership request of a region's record, at its primary or its mirror tray. -/
def ownReq (r : Region) (msg vl : Nat) (mirror : Bool) (key : Nat) (body : Bytes) (p : FabPurpose) : FabNew :=
  { msg := msg, vl := vl, dst := if mirror then r.mirrorEp else r.primaryEp,
    addr := (if mirror then r.mirrorRegion else r.trayRegion) * 2 ^ 52, cnt := 0, aop := 0, key := key,
    part := some r.partition, body := body, lines := [], source := none, order := 0,
    ordered := vl == 1 || (vl == 4 && r.ordered), purpose := p }

/-- The bodies of OWN_CLAIM and OWN_CAS (R212). -/
def claimBody (key size : Nat) (checked ordered : Bool) (cells : Nat) : Bytes :=
  le 4 key ++ le 1 size ++ le 1 (bit checked + 2 * bit ordered) ++ le 2 cells ++ zeroBytes 8
def casBody (expOwner newOwner expEpoch newKey : Nat) : Bytes :=
  le 2 expOwner ++ le 2 newOwner ++ le 4 expEpoch ++ le 4 newKey ++ zeroBytes 4

/-- A fabric request of the block's own; its state when it cannot be issued. -/
def issueOr (n : FabNew) (fail : Nat → State → State) (s : State) : State :=
  match fabIssue n s with
  | .ok s => s
  | .error st => fail st s

/-- The same change follows at the mirror tray (R235); a change that cannot be sent loses the mirror. -/
def followMirror (slot msg key : Nat) (body : Bytes) (s : State) : State :=
  match regionAt s slot with
  | none => s
  | some r =>
    if mirrored r then
      issueOr (ownReq r msg 4 true key body (.mirrorOwn slot))
        (fun _ s => modRegion slot (fun r => { r with mirrorLost := true }) s) s
    else s

/-! ### Creation (R158) -/

/-- LAST_CREATE_STATUS of the session that wrote the creation. -/
def createStatus (slot st : Nat) (s : State) : State :=
  match regionAt s slot with
  | some r => (match r.creator with | some k => setPerSession k 0x3101 5 st s | none => s)
  | none => s

/-- A creation fails (R158): pin invalidated, key index and slot freed, the status reported. -/
def createFails (slot st : Nat) (s : State) : State :=
  match regionAt s slot with
  | none => s
  | some r => freeRegion slot (invalidate (pinHandle r.pin r.pinGen) true (createStatus slot st s))

/-- Send the claim of a slot that is CREATING (R158 step 5, R234). -/
def sendClaim (slot : Nat) (s : State) : State :=
  match regionAt s slot with
  | none => s
  | some r =>
    issueOr (ownReq r 0x09 4 false 0 (claimBody r.accessKey r.sizeLog2 r.checked r.ordered (setting s 0x5000 4)) (.claim slot))
      (createFails slot) s

/-- The claim has been applied (R158, R236). -/
def claimApplied (slot epoch cells inc : Nat) (s : State) : State :=
  let s := modRegion slot (fun r => { r with state := 2, ownerEpoch := epoch, cells := cells, trayInc := some inc }) s
  let s := createStatus slot stDone s
  match regionAt s slot with
  | some r => followMirror slot 0x09 0 (claimBody r.accessKey r.sizeLog2 r.checked r.ordered r.cells) s
  | none => s

/-- REGION_CREATE (R158). -/
def ownRegionCreate (r : OdReq) (v : Nat) (s : State) : Own :=
  let part := fld v 0 6
  let size := fld v 8 8
  let mirror := tbit v 16
  let ordered := tbit v 17
  let checked := tbit v 18
  let pep := fld v 32 16
  let mep := fld v 48 16
  let treg := fld v 64 12
  let mreg := fld v 80 12
  let resv := fld v 6 2 + fld v 19 5 + fld v 24 8 + fld v 76 4 + fld v 92 4 + fld v 96 32
  match firstAbort [
      (resv != 0 || size < 14 || size > 46 || part ≥ partitionsOf s.cfg || (mirror && mep == pep) ||
        (!mirror && mep != 0) || ownOrReserved s pep || (mirror && ownOrReserved s mep), abRange),
      (ordered && granted s r < 2, abAccess),
      (s.recovery.quarantined || (partPin s part).isNone, abState),
      (!rootRoom s part || (freeKidx s part false).isNone || !heldRoom s part ||
        (ordered && decide (8 ≤ tcount s.tally.regions fun _ x => x.state == 2 && x.ordered)), abBusy)],
    partPin s part, lowestFree s.tally.regions 2048 0, freeKidx s part false with
  | some a, _, _, _ => .abort a
  | none, some pp, some slot, some k =>
    (match keyDraw 36 true s with
     | none => .abort abState
     | some (d, s) =>
       match createPin { purpose := puPool, level := 5, kind := 2, objA := slot, objB := 0, parent := pp,
                         value := d.take 32, source := 0 } s with
       | .error _ => .abort abBusy
       | .ok (h, s) =>
         let x : Region :=
           { state := 1, damaged := false, mirror := mirror, ordered := ordered, checked := checked, mirrorLost := false,
             sizeLog2 := size, partition := part, kidx := k, trayRegion := treg, pin := pinIdx h, pinGen := pinGen h,
             primaryEp := pep, mirrorEp := mep, mirrorRegion := mreg, spanRekeys := 0, lineMacFails := 0,
             poisonedReads := 0, roots := List.replicate 8 0, accessKey := ofLe (d.drop 32), ownerEpoch := 0,
             trayInc := none, mirrorInc := none, cells := 0, creator := sessOf r, wholeDamaged := false, lastProbe := 0 }
         let s := bindKidx k h part 2 false { s with tally.regions := tput s.tally.regions slot x }
         .ok (sendClaim slot (setMine r 0x3101 2 slot s)))
  | none, _, _, _ => .abort abBusy

def execRegionCreate (r : OdReq) (v : BitVec 128) (s : State) : Host.Outcome State Fault Refusal :=
  .next (odWrite r 0x3101 1 (le 16 v.toNat) (ownRegionCreate r v.toNat) s)

/-! ### Release (R159, R234) -/

/-- A token is no longer needed. -/
def dropToken (slot : Nat) (s : State) : State :=
  { s with fabric.tokens := s.fabric.tokens.filter fun t => t.slot != slot }

/-- Give a region up: pin invalidated in SQUASH mode, cache entries discarded, slot and key index freed, the owner record
released at the tray. -/
def releaseRegion (slot : Nat) (s : State) : State :=
  match regionAt s slot with
  | none => s
  | some r =>
    let mep := if mirrored r then r.mirrorEp else 0
    let s := freeRegion slot (invalidate (pinHandle r.pin r.pinGen) true (dropToken slot s))
    issueOr (ownReq r 0x0A 4 false r.accessKey (casBody (ownEndpoint s) 0 r.ownerEpoch 0)
      (.release slot mep r.mirrorRegion)) (fun _ s => count 0xB050 0xF s) s

/-- REGION_RELEASE (R159); refused until a hand-over has ended (R240). -/
def ownRegionRelease (v : Nat) (s : State) : Own :=
  match regionAt s v with
  | none => .abort (if v ≥ 2048 then abRange else abState)
  | some r =>
    let offered := r.state == 4 && s.fabric.offers.any fun o => o.slot == v
    guarded [(r.state == 1 || r.state == 3 || offered, abState)] (releaseRegion v s)

/-! ### The root token (R237) -/

/-- The 128 bytes that a token seals. -/
def tokenBody (s : State) (r : Region) : Bytes :=
  slice (regionKey s r) 0 32 ++ le 56 (pack (r.roots.map fun c => (56, c))) ++ le 1 r.sizeLog2 ++
    le 1 (levelsOf r.sizeLog2) ++ le 1 (bit r.mirror + 2 * bit r.ordered + 4 * bit r.checked + 8 * bit r.mirrorLost) ++
    [0] ++ le 2 r.primaryEp ++ le 2 r.mirrorEp ++ le 2 r.mirrorRegion ++ le 4 (r.trayInc.getD 0) ++
    le 4 (r.mirrorInc.getD 0) ++ le 2 r.cells ++ le 4 r.accessKey ++ zeroBytes 16

/-- The clear header of a token. -/
def tokenHead (offerer acceptor region epoch : Nat) : Bytes :=
  le 1 2 ++ [0] ++ le 2 offerer ++ le 2 acceptor ++ le 2 (region % 4096) ++ le 4 epoch ++ zeroBytes 4

/-- The value of DOMAIN_WRAP. -/
def wrapKey (s : State) : Option Bytes := (findPin s puWrap fun _ => true).map (keyOf s)

/-- Seal a region's token for an acceptor; none when no IV is to be had or no domain exists. -/
def sealToken (r : Region) (acceptor : Nat) (s : State) : Option (Bytes × State) :=
  match wrapKey s, keyDraw 12 false s with
  | some k, some (iv, s) =>
    let hd := tokenHead (ownEndpoint s) acceptor r.trayRegion r.ownerEpoch
    some (hd ++ iv ++ Config.gcmSeal k iv hd (tokenBody s r), s)
  | _, _ => none

/-- Open a token: its plaintext when it verifies and its header is well formed. -/
def openToken (s : State) (t : Bytes) : Option Bytes :=
  match wrapKey s with
  | none => none
  | some k =>
    if num t 0 1 = 2 && zeros t 1 1 && num t 6 2 < 4096 && zeros t 12 4 then
      Config.gcmOpen k (slice t 16 12) (slice t 0 16) (slice t 28 128) (slice t 156 16)
    else none

/-! ### The offerer (R238, R240, R241) -/

def offerOf (s : State) (slot : Nat) : Option Offer := s.fabric.offers.find? fun o => o.slot == slot

def modOffer (slot : Nat) (f : Offer → Offer) (s : State) : State :=
  { s with fabric.offers := s.fabric.offers.map fun o => if o.slot = slot then f o else o }

/-- Count a hand-over by its outcome (R240): 0 completed, 1 refused, 2 unresolved, 3 resolved. -/
def countHandover (k : Nat) (s : State) : State := { s with fabric.handovers := addNth s.fabric.handovers k 1 }

/-- An offer ends: its descriptor gets its status, or the one a reset forces. -/
def closeOffer (o : Offer) (st : Nat) (s : State) : State :=
  setOutcome o.desc (o.forced.getD st) 0 0 0
    { s with fabric.offers := s.fabric.offers.filter fun x => x.slot != o.slot,
             fabric.out := s.fabric.out.filter fun e => e.2.purpose != .hoOffer o.slot }

/-- The region is the offerer's again; a doomed one is released (R240). -/
def offerBack (o : Offer) (st : Nat) (s : State) : State :=
  let s := modRegion o.slot (fun r => if r.state = 3 || r.state = 4 then { r with state := 2 } else r) s
  let s := closeOffer o st s
  if o.doomed then releaseRegion o.slot s else s

/-- Step 7 of R238: the region is the acceptor's; HO_RELEASE is sent and waits for no response. -/
def offerGone (slot acceptor vl : Nat) (s : State) : State :=
  match regionAt s slot with
  | none => s
  | some r =>
    let s := freeRegion slot (invalidate (pinHandle r.pin r.pinGen) true s)
    let tag := (lowestFree s.fabric.out 65536 0).getD 0
    let h := fhdrWord { msg := 0x0D, mlen := 32, retry := 0, ord := bit (vl == 1), aop := 0, tag := tag,
                        seq := s.fabric.seq, addr := 0, cnt := 0, resvA := 0, status := 0, poison := 0, resvB := 0,
                        job := jobOf s (some r.partition), epoch := pathEpoch s acceptor, key := 0, inc := 0 }
    let m : FMsg := { srcEp := ownEndpoint s, dstEp := acceptor, vl := vl, hdr := h, body := [], lines := [] }
    match pickPort s acceptor tag (vl == 1) with
    | some p => fabSend p m { s with fabric.seq := (s.fabric.seq + 1) % 2 ^ 24 }
    | none => s

/-- The region of an offer whose ownership is unresolved (R241): UNAVAILABLE, the token kept. -/
def holdToken (slot : Nat) (offerer : Bool) (peer epoch key vl : Nat) (lost : Bool) (s : State) : State :=
  let t : HeldToken := { slot := slot, offerer := offerer, peer := peer, epoch := epoch, newKey := key, lastTry := s.tick,
                         vl := vl, lost := lost }
  modRegion slot (fun r => { r with state := 4, lastProbe := s.tick })
    { s with fabric.tokens := s.fabric.tokens.filter (fun x => x.slot != slot) ++ [t] }

/-- Nothing admitted, written or walked remains of a region (R238 step 2). -/
def regionQuiet (s : State) (slot : Nat) : Bool :=
  !(s.ports.inReqs.any fun e => match poolTarget s (mhdrOf e.2.q) with
      | some (k, _, _) => (mhdrOf e.2.q).tgt == 2 && (mhdrOf e.2.q).opc != 4 && k == slot
      | none => false) &&
  !(s.tally.lineWrites.any fun w => w.1 == slot) &&
  !(s.tension.units.any fun e => match e.2.desc.path with | some (k, _) => k == slot | none => false)

/-- A span migration of the region runs or is queued (R173). -/
def regionMigrating (s : State) (slot : Nat) : Bool :=
  (s.tally.nodes.any fun n => n.slot == slot && n.shadow.isSome)

/-- Carry an offer on through steps 1 to 5 of R238 as far as it can go. -/
def offerOn (slot : Nat) (s : State) : State :=
  match offerOf s slot, regionAt s slot with
  | some o, some r =>
    if o.step ≥ 5 || regionMigrating s slot || !regionQuiet s slot then s
    else
      let s := if o.step < 3 then
          modOffer slot (fun o => { o with step := 3 })
            { s with tally.migrations := s.tally.migrations.filter fun m => m.1 != slot }
        else s
      let s := flushDirty (some slot) s
      if s.tally.nodes.any fun n => n.slot == slot && unsettled n then s
      else match regionAt s slot with
        | none => s
        | some r' =>
          if r'.state ≠ 3 then countHandover 1 (closeOffer o (if r'.state = 5 then stOrphaned else stTargetDead) s)
          else match wrapKey s with
            | none => countHandover 1 (offerBack o stKeyGone s)
            | some _ => match sealToken r' o.acceptor s with
              | none => countHandover 1 (offerBack o stDenied s)
              | some (tok, s) =>
                let s := { s with tally.nodes := s.tally.nodes.filter fun n => n.slot != slot }
                let req : FabNew :=
                  { msg := 0x0C, vl := o.vl, dst := o.acceptor, addr := 0, cnt := 0, aop := 0, key := 0,
                    part := some r.partition, body := tok ++ zeroBytes 4, lines := [], source := none, order := 0,
                    ordered := o.vl == 1, purpose := .hoOffer slot }
                match fabIssue req s with
                | .error st => countHandover 1 (offerBack o st s)
                | .ok s => modOffer slot (fun o =>
                    { o with step := 6, token := tok, epoch := r'.ownerEpoch, sentTick := s.tick }) s
  | some o, none => closeOffer o stKeyGone s
  | none, _ => s

/-- Send the offerer's OWN_CAS (R238 step 9, R241). -/
def offerCas (slot : Nat) (s : State) : State :=
  match regionAt s slot, s.fabric.tokens.find? fun t => t.slot == slot with
  | some r, some t =>
    issueOr (ownReq r 0x0A 4 false r.accessKey (casBody (ownEndpoint s) (ownEndpoint s) t.epoch r.accessKey)
      (.offerCas slot)) (fun _ s => s) s
  | _, _ => s

/-- A region whose key has gone meanwhile is the block's again: it is released at once (R240, log entry 23). -/
def releaseGone (slot : Nat) (s : State) : State :=
  match regionAt s slot with
  | some r => if live s (pinHandle r.pin r.pinGen) then s else releaseRegion slot s
  | none => s

/-- An offer that still waits ends with a status. -/
def closeSlot (slot st : Nat) (s : State) : State :=
  match offerOf s slot with
  | some o => closeOffer o st s
  | none => s

/-- The record decides for an offerer (R241 step 2): owner and epoch as the tray answered, `free` for a FREE record. -/
def offerResolved (slot owner epoch : Nat) (free lost : Bool) (s : State) : State :=
  match s.fabric.tokens.find? (fun t => t.slot == slot), regionAt s slot with
  | some t, some r =>
    let ends := fun (s : State) => countHandover 3 (dropToken slot s)
    if free || lost then
      let s := closeSlot slot stOrphaned (regionOrphan slot (ends s))
      if live s (pinHandle r.pin r.pinGen) then s else freeRegion slot s
    else if owner = ownEndpoint s then
      if epoch ≠ t.epoch + 1 then s
      else
        let s := modRegion slot (fun r => { r with state := 2, ownerEpoch := epoch }) (ends s)
        let s := followMirror slot 0x0A r.accessKey (casBody (ownEndpoint s) (ownEndpoint s) t.epoch r.accessKey) s
        releaseGone slot (match offerOf s slot with | some o => offerBack o stTimeout s | none => s)
    else closeSlot slot stDone (offerGone slot t.peer t.vl (ends s))
  | _, _ => s

/-! ### The acceptor (R239, R240) -/

def modEntry (offerer : Nat) (f : OfferEntry → OfferEntry) (s : State) : State :=
  { s with fabric.offerTable := s.fabric.offerTable.map fun e => if e.offerer = offerer then f e else e }

def entryOf (s : State) (offerer : Nat) : Option OfferEntry := s.fabric.offerTable.find? fun e => e.offerer == offerer

def dropEntry (offerer : Nat) (s : State) : State :=
  { s with fabric.offerTable := s.fabric.offerTable.filter fun e => e.offerer != offerer }

/-- Answer an offer: HO_ACCEPT or HO_REFUSE with its reason (R212). -/
def answerOffer (offerer : Nat) (o : Nat × Nat × Nat × Bytes) (st : Nat) (s : State) : State :=
  let h := fhdrWord { msg := 0x0C, mlen := 208, retry := 0, ord := 0, aop := 0, tag := o.1, seq := o.2.1, addr := 0, cnt := 0,
                      resvA := 0, status := 0, poison := 0, resvB := 0, job := 0, epoch := 0, key := 0, inc := 0 }
  fabAnswer { srcEp := offerer, dstEp := ownEndpoint s, vl := o.2.2.1, hdr := h, body := [], lines := [] }
    (if st = stDone then 0x8C else 0x8E) st false [] [] s

/-- A hand-over ends at the acceptor: the offer is answered, the acceptance completes, the entry goes. -/
def endAccept (offerer : Nat) (reply : Option Nat) (st result : Nat) (s : State) : State :=
  match entryOf s offerer with
  | none => s
  | some e =>
    let s := match e.offer, reply with
      | some o, some r => answerOffer offerer o r s
      | _, _ => s
    let s := match e.accept with
      | some (d, _) => setOutcome d (e.forced.getD st) result 0 0 s
      | none => s
    if st = stDone then modEntry offerer (fun e => { e with accept := none }) s else dropEntry offerer s

/-- Discard what an acceptance has installed. -/
def discardSlot (slot : Nat) (s : State) : State :=
  match regionAt s slot with
  | none => s
  | some r => dropToken slot (freeRegion slot (invalidate (pinHandle r.pin r.pinGen) true s))

/-- The region that a token's plaintext describes. -/
def regionOfToken (b : Bytes) (part kidx tray pin epoch : Nat) : Region :=
  let flags := num b 90 1
  let w := num b 32 56
  { state := 1, damaged := false, mirror := tbit flags 0, ordered := tbit flags 1, checked := tbit flags 2,
    mirrorLost := tbit flags 3, sizeLog2 := num b 88 1, partition := part, kidx := kidx, trayRegion := tray,
    pin := pinIdx pin, pinGen := pinGen pin, primaryEp := num b 92 2, mirrorEp := num b 94 2, mirrorRegion := num b 96 2,
    spanRekeys := 0, lineMacFails := 0, poisonedReads := 0, roots := (List.range 8).map fun j => fld w (56 * j) 56,
    accessKey := num b 108 4, ownerEpoch := epoch, trayInc := some (num b 98 4), mirrorInc := some (num b 102 4),
    cells := num b 106 2, creator := none, wholeDamaged := false, lastProbe := 0 }

/-- An offer and an acceptance meet (R239): unwrap, install, and ask the tray for the change of owner. -/
def meet (offerer : Nat) (s : State) : State :=
  match entryOf s offerer with
  | none => s
  | some e =>
    match e.offer, e.accept, e.slot with
    | some (_, _, vl, tok), some (_, part), none =>
      let epoch := num tok 8 4
      (match openToken s tok with
       | none =>
         countHandover 1 (endAccept offerer (some stIntegrity) stIntegrity 0 (count 0x2000 9 s))
       | some b =>
         if num tok 4 2 ≠ ownEndpoint s then
           let s := match e.offer with | some o => answerOffer offerer o stDenied s | none => s
           countHandover 1 (modEntry offerer (fun e => { e with offer := none }) s)
         else match partPin s part with
           | none => countHandover 1 (endAccept offerer (some stKeyGone) stKeyGone 0 s)
           | some pp =>
             match rootRoom s part && heldRoom s part, lowestFree s.tally.regions 2048 0, freeKidx s part false with
             | true, some slot, some k =>
               (match keyDraw 4 false s with
                | none => countHandover 1 (endAccept offerer (some stDenied) stDenied 0 s)
                | some (nk, s) =>
                  match createPin { purpose := puPool, level := 5, kind := 2, objA := slot, objB := 0, parent := pp,
                                    value := slice b 0 32, source := 2 } s with
                  | .error _ => countHandover 1 (endAccept offerer (some stTableFull) stTableFull 0 s)
                  | .ok (h, s) =>
                    let r := regionOfToken b part k (num tok 6 2) h epoch
                    let s := bindKidx k h part 2 false { s with tally.regions := tput s.tally.regions slot r }
                    let s := modEntry offerer (fun e => { e with slot := some slot }) s
                    let new := ofLe nk
                    let s := { s with fabric.tokens := s.fabric.tokens ++
                      [{ slot := slot, offerer := false, peer := offerer, epoch := epoch, newKey := new, lastTry := s.tick,
                         vl := vl, lost := false }] }
                    issueOr (ownReq r 0x0A vl false r.accessKey (casBody offerer (ownEndpoint s) epoch new) (.acceptCas slot))
                      (fun _ s => countHandover 2 (endAccept offerer none stTimeout 0
                        (holdToken slot false offerer epoch new vl false s))) s)
             | _, _, _ => countHandover 1 (endAccept offerer (some stTableFull) stTableFull 0 s))
    | _, _, _ => s

/-- The acceptor is the owner (R239): the region is LIVE, the mirror follows. One whose key has gone meanwhile is released
again (log entry 23). `ends` closes the hand-over. -/
def acceptOwner (slot inc : Nat) (ends : Region → State → State) (s : State) : State :=
  match s.fabric.tokens.find? (fun t => t.slot == slot), regionAt s slot with
  | some t, some r =>
    let s := modRegion slot (fun r =>
      { r with state := 2, ownerEpoch := t.epoch + 1, accessKey := t.newKey, trayInc := some inc }) s
    let s := followMirror slot 0x0A r.accessKey (casBody t.peer (ownEndpoint s) t.epoch t.newKey) (dropToken slot s)
    releaseGone slot (ends r s)
  | _, _ => s

/-- The acceptor's OWN_CAS ends without an answer, or the tray no longer knows what became of it (R240, R241). -/
def acceptSilent (slot : Nat) (lost : Bool) (s : State) : State :=
  match s.fabric.tokens.find? fun t => t.slot == slot with
  | some t => countHandover 2 (endAccept t.peer none stTimeout 0
      (holdToken slot false t.peer t.epoch t.newKey t.vl lost s))
  | none => s

/-- The record decides for an acceptor that kept its token (R241): naming this block with the epoch of its own change, or
anything else. -/
def acceptResolved (slot owner epoch inc : Nat) (free : Bool) (s : State) : State :=
  match s.fabric.tokens.find? fun t => t.slot == slot with
  | some t =>
    if !free && owner = ownEndpoint s && epoch = t.epoch + 1 then acceptOwner slot inc (fun _ s => countHandover 3 s) s
    else countHandover 3 (discardSlot slot s)
  | none => s

/-- The acceptance of a slot still waits for the answer to its OWN_CAS; else its token is kept for the resolution. -/
def accepting (s : State) (slot : Nat) : Bool :=
  s.fabric.offerTable.any fun e => e.slot == some slot && e.accept.isSome

/-- The answer to the acceptor's OWN_CAS (R239 to R241): `st` with the record's owner and epoch. -/
def acceptAnswer (slot st owner epoch inc : Nat) (free : Bool) (s : State) : State :=
  match s.fabric.tokens.find? (fun t => t.slot == slot), regionAt s slot with
  | some t, some r =>
    let mine := owner = ownEndpoint s && epoch = t.epoch + 1
    let changed := st = stOrphaned || (r.trayInc != some inc && (st = stDone || st = stDenied))
    if !accepting s slot then
      if changed then countHandover 3 (discardSlot slot s)
      else if st = stDone || st = stDenied then acceptResolved slot owner epoch inc free s
      else if st = stUnknown then
        { s with fabric.tokens := s.fabric.tokens.map fun x => if x.slot = slot then { x with lost := true } else x }
      else s
    else if changed then countHandover 1 (endAccept t.peer (some stOrphaned) stOrphaned 0 (discardSlot slot s))
    else if st = stDone || (st = stDenied && mine) then
      acceptOwner slot inc (fun r s =>
        countHandover 0 (endAccept t.peer (some stDone) stDone (slot + 2 ^ 16 * r.kidx) s)) s
    else if st = stUnknown then acceptSilent slot true s
    else countHandover 1 (endAccept t.peer (some st) st 0 (discardSlot slot s))
  | _, _ => s

/-- Ask the tray again for an acceptor's token (R241 step 1): its OWN_CAS, or OWN_READ when its replay entry is lost. -/
def acceptAgain (slot : Nat) (s : State) : State :=
  match s.fabric.tokens.find? (fun t => t.slot == slot), regionAt s slot with
  | some t, some r =>
    if r.state ≠ 4 then s
    else if t.lost then issueOr (ownReq r 0x08 4 false 0 [] (.resolveRead slot)) (fun _ s => s) s
    else issueOr (ownReq r 0x0A t.vl false r.accessKey (casBody t.peer (ownEndpoint s) t.epoch t.newKey) (.acceptCas slot))
      (fun _ s => s) s
  | _, _ => s

/-! ### A key of a hand-over is gone (R240) -/

/-- An offer whose region's key has gone: abandoned before HO_OFFER is sent, else kept only for the resolution. -/
def keyGoneOffer (o : Offer) (s : State) : State :=
  if o.doomed then s
  else
    let o' := { o with doomed := true, forced := some (o.forced.getD stKeyGone) }
    if o.step < 6 then countHandover 1 (offerBack o' stKeyGone s)
    else setOutcome o.desc (o'.forced.getD stKeyGone) 0 0 0 (modOffer o.slot (fun _ => o') s)

/-- An acceptance whose partition's key has gone: withdrawn and refused before its OWN_CAS, else it completes with
KEY_GONE when the tray has answered. -/
def keyGoneAccept (e : OfferEntry) (s : State) : State :=
  if e.slot.isSome then modEntry e.offerer (fun x => { x with forced := some (x.forced.getD stKeyGone) }) s
  else match e.accept with
    | none => s
    | some (d, _) =>
      let s := setOutcome d stKeyGone 0 0 0 s
      match e.offer with
      | some o => countHandover 1 (dropEntry e.offerer (answerOffer e.offerer o stKeyGone s))
      | none => dropEntry e.offerer s

/-- Hand-overs whose keys are no longer live. -/
def endHandovers (s : State) : State :=
  let gone := fun (o : Offer) => match regionAt s o.slot with
    | some r => !live s (pinHandle r.pin r.pinGen)
    | none => false
  let s := each (s.fabric.offers.filter gone) keyGoneOffer s
  each (s.fabric.offerTable.filter fun e => match e.accept with
    | some (_, p) => (partPin s p).isNone
    | none => false) keyGoneAccept s

end Sys2Proof.Machine
end

