-- ==== Sys2Proof/Machine/FabricRows.lean ====
section
/-! DEFINITION. How fabric requests end, by response, timeout or loss of their key, and the rows of the fabric: responses,
timeouts, hand-over, the tally island's background work (R150, R160 to R173, R214 to R218, R232 to R241). -/

namespace Sys2Proof.Machine

/-! ### Lines (R150, R166, R170) -/

/-- A line fails its tag (R150). -/
def lineMacFail (slot : Nat) (s : State) : State :=
  count 0xB033 0xA (modRegion slot (fun r => { r with lineMacFails := r.lineMacFails + 1 }) s)

/-- The outcome of a line that a response carries: its status and plaintext, under the pair it was accepted with. -/
def lineOutcome (s : State) (r : Region) (line : Nat) (pair : Nat × Nat) (st : Nat) (poison : Bool) (l : PoolLine) :
    Nat × Bytes :=
  if st ≠ stDone then (st, [])
  else if poison then (stPoisoned, [])
  else match openLine (regionKey s r) line pair.2 pair.1 l with
    | some pt => (stDone, pt)
    | none => (stIntegrity, [])

/-- Count a line that failed its tag (R170). -/
def countLine (slot st : Nat) (s : State) : State := if st = stIntegrity then lineMacFail slot s else s

def noPair : PoolLine := { data := [], tag := [] }

/-- Line `i` of a pooled READ has been answered. -/
def readLine (n i st : Nat) (poison : Bool) (l : PoolLine) (s : State) : State :=
  match tget s.ports.inReqs n with
  | none => s
  | some x =>
    match poolTarget s (mhdrOf x.q), x.ctrs.find? fun c => c.1 == i with
    | some (slot, r, _), some (_, pair) =>
      let o := lineOutcome s r (poolLine x.q + i) pair st poison l
      lineDone n i o.1 o.2 (countLine slot o.1 s)
    | _, _ => lineDone n i (if st = stDone then stKeyGone else st) [] s

/-- The read of a partial write has been answered (R166): the merged line is ready, or the line ends. -/
def rmwLine (n i st : Nat) (poison : Bool) (l : PoolLine) (src : Option (Nat × Nat × Nat)) (order : Nat) (s : State) :
    State :=
  match tget s.ports.inReqs n with
  | none => s
  | some x =>
    let fails := fun (st : Nat) (slot : Option Nat) (s : State) =>
      let s := match slot with | some k => clearLineWrite k (poolLine x.q + i) s | none => s
      let s := match src with | some (a, b, g) => completeSource a b g order st s | none => s
      lineDone n i st [] s
    match poolTarget s (mhdrOf x.q), x.ctrs.find? fun c => c.1 == i with
    | some (slot, r, _), some (_, pair) =>
      let o := lineOutcome s r (poolLine x.q + i) pair st poison l
      let s := countLine slot o.1 s
      if o.1 = stDone then
        let e : ReadyLine := { line := i, data := mergeBytes o.2 (lineData x.q i) (lineMask x.q i), owns := true,
                               token := src.map fun t => (t.2.2, order) }
        pumpReady n { s with ports.inReqs := tmod s.ports.inReqs n fun y => { y with ready := y.ready ++ [e] } }
      else fails o.1 (some slot) s
    | _, _ => fails (if st = stDone then stKeyGone else st) none s

/-- A write that ended other than by its own response leaves its line poisoned (R165, R215). -/
def writeLine (slot line : Nat) (ended : Bool) (s : State) : State :=
  let s := clearLineWrite slot line s
  migrateOn slot line (if ended then poisonLine slot line s else s)

/-! ### Nodes (R160, R163, R164, R169, R172) -/

/-- Refusals of a fetch that end the walk without touching the region (R164). -/
def plainRefusal (st : Nat) : Bool := st == stDenied || st == stKeyGone || st == stMalformed || st == stTableFull

/-- A fetch of a walk has ended (R164). -/
def walkFetched (slot leaf level : Nat) (mirror : Bool) (st : Nat) (poison : Bool) (b : Bytes) (s : State) : State :=
  match walkOf s slot leaf, regionAt s slot with
  | some _, some r =>
    let awaited := lowestResident s slot leaf (levelsOf r.sizeLog2) = level + 1
    if st = stOrphaned then endWalk slot leaf (regionOrphan slot s)
    else if plainRefusal st then failWaiters slot leaf st (endWalk slot leaf s)
    else if st ≠ stDone then (if awaited then walkFails slot leaf level false s else s)
    else if poison then (if awaited then walkFails slot leaf level true s else s)
    else if mirror && !awaited then s
    else walkOn slot leaf (modWalk slot leaf (fun w => { w with heldNodes := w.heldNodes ++ [(level, b)] }) s)
  | _, _ => s

/-- A write-back or repair of a node has ended (R163, R169). -/
def writeBackDone (slot level index : Nat) (mirror repair : Bool) (st : Nat) (s : State) : State :=
  if repair then
    let s := if st = stOrphaned then regionOrphan slot s else s
    match nodeAt s slot level index with
    | some n => if n.state = 2 then writeBack slot level index s else s
    | none => s
  else if st = stDone then
    let s := copyAcked slot level index mirror s
    match nodeAt s slot level index with
    | some n => if n.state = 2 then writeBack slot level index s else s
    | none => s
  else if mirror then copyAcked slot level index true (modRegion slot (fun r => { r with mirrorLost := true }) s)
  else primaryFails slot level index st s

/-- A scrubbed node has been answered (R172): a failure is handled as in R170, with no request to complete. -/
def scrubbed (slot level index : Nat) (mirror : Bool) (st : Nat) (poison : Bool) (b : Bytes) (s : State) : State :=
  match regionAt s slot, counterAbove s slot level index with
  | some r, some c =>
    let good := st == stDone && !poison && nodeVerifies (regionKey s r) level index c b
    if (nodeAt s slot level index).isSome || c = 0 then s
    else if good then (if mirror then repairPrimary slot level index b (count 0xB033 8 s) else s)
    else if st = stOrphaned then regionOrphan slot s
    else if plainRefusal st then s
    else if !mirror && mirrored r then
      issueOr (metaReq r 0x03 level index 4 true [] (.scrub slot level index true))
        (fun _ s => if st = stDone then poisonNode slot level index s else regionUnavail slot s) s
    else if st = stDone then poisonNode slot level index s
    else regionUnavail slot s
  | _, _ => s

/-- The region is LIVE again (R160): its dirty nodes are written back and its migrations go on. -/
def regionBack (slot : Nat) (s : State) : State :=
  let s := modRegion slot (fun r => if r.state = 4 then { r with state := 2 } else r) s
  let s := flushDirty (some slot) s
  each (s.tally.nodes.filter fun n => n.slot == slot && n.level == 0 && n.shadow.isSome)
    (fun n s => moveLines slot n.index s) s

/-- The top-level node that a probe fetches: one whose root counter is not zero (R160). -/
def probeNode (r : Region) : Option Nat := (List.range 8).find? fun i => nth r.roots i 0 != 0

/-- A probe has been answered (R160). -/
def probed (slot st : Nat) (poison : Bool) (rsp : Nat) (body : Bytes) (s : State) : State :=
  match regionAt s slot with
  | none => s
  | some r =>
    if r.state ≠ 4 then s
    else if st = stOrphaned then regionOrphan slot s
    else if rsp = 0x83 then
      (match probeNode r with
       | some i =>
         if st = stDone && !poison &&
             nodeVerifies (regionKey s r) (levelsOf r.sizeLog2 - 1) i (nth r.roots i 0) body then regionBack slot s else s
       | none => s)
    else if st = stDone && rsp = 0x88 then
      (if num body 2 1 = 2 && num body 0 2 = ownEndpoint s then regionBack slot s else regionOrphan slot s)
    else s

/-! ### Span moves (R167 steps 3 and 4) -/

/-- A line of a running migration has been read. -/
def moved (slot line st : Nat) (poison : Bool) (l : PoolLine) (s : State) : State :=
  match regionAt s slot, leafNode s slot line with
  | some r, some n =>
    match n.shadow with
    | some (old, mv, _) =>
      if nth mv (placeOf line) true then s
      else if st = stDone then
        let o := lineOutcome s r line (old, minorOf n (placeOf line)) st poison l
        let s := if o.1 = stPoisoned then poisonedRead slot s else countLine slot o.1 s
        if o.1 = stDone then
          let s := acceptWrite slot line 1 s
          let pl := sealLine (regionKey s r) line 1 (majorOf n) o.2
          issueOr (dataReq r 0x02 4 line 1 [pl] (.moveWrite slot line))
            (fun _ s => regionUnavail slot (writeLine slot line true s)) s
        else migrateOn slot line (poisonLine slot line s)
      else s
    | none => s
  | _, _ => s

/-! ### Ownership (R233 to R241) -/

/-- The answer to a claim (R158, R233, R234). -/
def claimEnded (slot st inc : Nat) (body : Bytes) (s : State) : State :=
  match regionAt s slot with
  | none => s
  | some r =>
    if st = stDone then claimApplied slot (num body 4 4) (num body 8 2) inc s
    else if st = stUnknown then
      issueOr (ownReq r 0x08 4 false 0 [] (.claimRead slot)) (createFails slot) s
    else createFails slot st s

/-- The owner record read after a claim of unknown outcome (R233). -/
def claimResolved (slot st inc : Nat) (body : Bytes) (s : State) : State :=
  if st ≠ stDone then createFails slot st s
  else if num body 2 1 = 2 then
    (if num body 0 2 = ownEndpoint s then claimApplied slot (num body 4 4) (num body 8 2) inc s
     else createFails slot stDenied s)
  else sendClaim slot s

/-- The mirror answers, or does not (R235, R236). -/
def mirrorAnswered (slot st inc : Nat) (s : State) : State :=
  modRegion slot (fun r => if st = stDone then { r with mirrorInc := some inc } else { r with mirrorLost := true }) s

/-- The answer to an offerer's OWN_CAS (R240, R241). -/
def offerAnswered (slot st : Nat) (ended : Bool) (body : Bytes) (lost : Bool) (s : State) : State :=
  if ended then
    match offerOf s slot with
    | some o => closeOffer o stTimeout s
    | none => s
  else if st = stDone || st = stDenied then
    offerResolved slot (num body 0 2) (num body 4 4) (num body 2 1 == 1) lost s
  else if st = stOrphaned then offerResolved slot 0 0 true lost s
  else s

/-! ### How a request ends -/

/-- The slot whose region a request serves. -/
def purposeSlot (s : State) : FabPurpose → Option Nat
  | .meshRead n _ | .meshWrite n _ | .meshRmw n _ | .meshAtomic n =>
    match tget s.ports.inReqs n with
    | some x => (poolTarget s (mhdrOf x.q)).map (·.1)
    | none => none
  | .walk k _ _ _ | .scrub k _ _ _ | .probe k | .writeBack k _ _ _ _ | .moveRead k _ | .moveWrite k _ | .claim k
  | .claimRead k | .mirrorOwn k | .acceptCas k | .offerCas k | .resolveRead k => some k
  | .release _ _ _ | .hoOffer _ => none

/-- What a request's ending means for what it serves. `ended`: it ended other than by its own response (R215). -/
def purposeEnd (q : FabReq) (st : Nat) (poison ended : Bool) (body : Bytes) (lines : List PoolLine) (inc : Nat)
    (lost : Bool) (s : State) : State :=
  let h := fhdrOf q.hdr
  let each_ := fun (f : Nat → PoolLine → State → State) (s : State) =>
    each (List.range (h.cnt + 1)) (fun k s => f k (lines.getD k noPair) s) s
  match q.purpose with
  | .meshRead n first => each_ (fun k l s => readLine n (first + k) st poison l s) s
  | .meshRmw n line => rmwLine n line st poison (lines.getD 0 noPair) q.source q.order s
  | .meshWrite n first =>
    (match tget s.ports.inReqs n with
     | none => s
     | some x =>
       match poolTarget s (mhdrOf x.q) with
       | some (slot, _, _) => each_ (fun k _ s =>
           lineDone n (first + k) st [] (writeLine slot (poolLine x.q + first + k) ended s)) s
       | none => each_ (fun k _ s => lineDone n (first + k) st [] s) s)
  | .meshAtomic n => lineDone n 0 st (slice body 0 8 ++ zeroBytes 56) s
  | .walk slot leaf level mirror => walkFetched slot leaf level mirror st poison body s
  | .scrub slot level index mirror => scrubbed slot level index mirror st poison body s
  | .probe slot => probed slot st poison (rspType q.msg) body s
  | .writeBack slot level index mirror repair => writeBackDone slot level index mirror repair st s
  | .moveRead slot line => moved slot line st poison (lines.getD 0 noPair) s
  | .moveWrite slot line => writeLine slot line ended s
  | .claim slot => claimEnded slot st inc body s
  | .claimRead slot => claimResolved slot st inc body s
  | .release _ mep mreg =>
    if st = stDone && mep ≠ 0 then
      issueOr { msg := 0x0A, vl := 4, dst := mep, addr := mreg * 2 ^ 52, cnt := 0, aop := 0, key := h.key,
                part := some q.partition, body := q.body, lines := [], source := none, order := 0, ordered := q.ordered,
                purpose := .release 0 0 0 } (fun _ s => s) s
    else if ended then count 0xB050 0xF s else s
  | .mirrorOwn slot => mirrorAnswered slot st inc s
  | .acceptCas slot =>
    if !ended then acceptAnswer slot st (num body 0 2) (num body 4 4) inc (num body 2 1 == 1) s
    else if accepting s slot then acceptSilent slot false s else s
  | .offerCas slot => offerAnswered slot st ended body lost s
  | .resolveRead slot =>
    if ended then s
    else if st = stOrphaned then countHandover 3 (discardSlot slot s)
    else if st ≠ stDone then s
    else acceptResolved slot (num body 0 2) (num body 4 4) inc (num body 2 1 == 1) s
  | .hoOffer _ => s

/-- The tray of a region does not answer (R160): UNAVAILABLE, but for walks, scrubs and write-backs, which decide
themselves. -/
def silentTray (q : FabReq) (slot : Option Nat) (s : State) : State :=
  match q.purpose, slot with
  | .walk _ _ _ _, _ | .scrub _ _ _ _, _ | .writeBack _ _ _ _ _, _ | .mirrorOwn _, _ | .probe _, _ | .claim _, _
  | .claimRead _, _ | .acceptCas _, _ => s
  | _, some k => regionUnavail k s
  | _, none => s

/-- Requests whose source account is settled by what they serve. -/
def keepsSource : FabPurpose → Bool
  | .meshRmw _ _ => true
  | _ => false

/-- The read of a partial write of a descriptor's transfer puts its context into the fault state (R217, R311). -/
def mergeFault (q : FabReq) (st : Nat) (s : State) : State :=
  match q.purpose with
  | .meshRmw n _ =>
    (match tget s.ports.inReqs n with
     | none => s
     | some x => match internal x.q, tget s.host.descs x.q.vch with
       | true, some d => ctxFault (descCtx d) 3 (d.queue % 4) st d.seq (addrOffset (fhdrOf q.hdr).addr) s
       | _, _ => s)
  | _ => s

/-- Free the request and tell what it serves (R214, R215, R217). -/
def endReq (tag : Nat) (q : FabReq) (st : Nat) (poison ended : Bool) (body : Bytes) (lines : List PoolLine) (inc : Nat)
    (lost : Bool) (s : State) : State :=
  let slot := purposeSlot s q.purpose
  let s := match q.source with
    | some (a, b, _) =>
      if ended then s else modSource a b (fun e => { e with last := some (q.dst, tag, q.seq) }) s
    | none => s
  let s := if keepsSource q.purpose then { s with fabric.out := tdel s.fabric.out tag } else fabClose tag q st s
  let dead := ended && (st == stTargetDead || st == stPeerGone || st == stUnknown)
  let s := if dead && isLoad q.msg then mergeFault q st (fabFault q st s) else s
  let s := if dead then silentTray q slot s else s
  purposeEnd q st poison ended body lines inc lost s

/-! ### After an event -/

/-- Offers and acceptances that can go on do. -/
def offersOn (s : State) : State :=
  let s := each (s.fabric.offers.map (·.slot)) offerOn s
  each (s.fabric.offerTable.map (·.offerer)) meet s

/-- Everything that may have waited for a fabric event is tried again. -/
def afterFabric (s : State) : State := retryHeld (offersOn s)

/-- Operations whose key is no longer live end with KEY_GONE (R128 step 4, R148, R215). -/
def endOrphans (s : State) : State :=
  let dead := fun (s : State) (slot : Nat) => match regionAt s slot with
    | some r => !live s (pinHandle r.pin r.pinGen)
    | none => true
  let s := each s.fabric.out (fun e s =>
    match e.2.purpose with
    | .meshRead n _ | .meshWrite n _ | .meshRmw n _ | .meshAtomic n =>
      (match tget s.ports.inReqs n with
       | some x => match poolTarget s (mhdrOf x.q) with
         | some (k, _, _) => if dead s k then endReq e.1 e.2 stKeyGone false true [] [] 0 false s else s
         | none => endReq e.1 e.2 stKeyGone false true [] [] 0 false s
       | none => s)
    | .walk k _ _ _ | .scrub k _ _ _ | .probe k | .moveRead k _ | .moveWrite k _ | .writeBack k _ _ _ _ =>
      if dead s k then { s with fabric.out := tdel s.fabric.out e.1 } else s
    | _ => s) s
  let s := each s.ports.inReqs (fun e s =>
    let h := mhdrOf e.2.q
    let gone := if h.tgt = 1 then kidxCheck s h.kidx e.2.partition false == stKeyGone || (kidxAt s h.kidx).isNone
      else h.opc != 4 && match poolTarget s h with | some (k, _, _) => dead s k | none => true
    if gone then each e.2.waiting (fun i s => lineDone e.1 i stKeyGone [] s) s else s) s
  each s.ports.merge (fun e s =>
    match kidxAt s e.2.kidx with
    | some x => if x.orphaned || x.state = 2 then { s with ports.merge := tdel s.ports.merge e.1 } else s
    | none => { s with ports.merge := tdel s.ports.merge e.1 }) s

/-- The outstanding memory operations of a partition are removed (R48, R350 step 3): a request whose response is still
awaited is answered, and what comes back for it afterwards finds nothing waiting. -/
def endPartReqs (part st : Nat) (s : State) : State :=
  let mine := fun (s : State) (n : Nat) => match tget s.ports.inReqs n with
    | some r => r.partition == some part
    | none => false
  let s := each s.fabric.out (fun e s =>
    match e.2.purpose with
    | .meshRead n _ | .meshWrite n _ | .meshRmw n _ | .meshAtomic n =>
      if mine s n then endReq e.1 e.2 st false true [] [] 0 false s else s
    | _ => s) s
  each s.ports.inReqs (fun e s =>
    if mine s e.1 then
      match tget s.ports.inReqs e.1 with
      | some r =>
        let s := endReady e.1 r (match poolTarget s (mhdrOf r.q) with | some (k, _, _) => k | none => 0) st s
        each r.waiting (fun i s => lineDone e.1 i st [] s) s
      | none => s
    else s) s

/-! ### The rows of responses -/

/-- A message for this block: forwarded by a switch, discarded and counted when it breaks the rules, else acted on. -/
def msgRow (msg : Nat) (m : FMsg) (act : State → State) (s : State) : State :=
  if !running s then s
  else if m.dstEp ≠ ownEndpoint s then (if profile s = 1 then fabForward m s else s)
  else if (fhdrOf m.hdr).msg ≠ msg then s
  else if !msgOk m then fabMalformed m s
  else act s

/-- A response finds its request (R228), its INC is noted (R218, R236), and the request ends with it. -/
def rspRow (msg : Nat) (m : FMsg) (s : State) : State :=
  msgRow msg m (fun s =>
    let h := fhdrOf m.hdr
    match matchRsp m s with
    | none => count 0xB050 0xD s
    | some (tag, q) =>
      let s := noteInc m.srcEp h.inc s
      let gone := h.status == stPeerGone
      let s := if gone then bumpEra q.dst s else s
      let slot := purposeSlot s q.purpose
      let changed := match slot with
        | some k => (match regionAt s k with
          | some r => m.srcEp == r.primaryEp && r.trayInc.isSome && r.trayInc != some h.inc
          | none => false)
        | none => false
      let mirrorChanged := match slot with
        | some k => (match regionAt s k with
          | some r => mirrored r && m.srcEp == r.mirrorEp && r.mirrorInc.isSome && r.mirrorInc != some h.inc
          | none => false)
        | none => false
      let s := match slot with
        | some k => if changed then regionOrphan k s
                    else if mirrorChanged then modRegion k (fun r => { r with mirrorLost := true }) s else s
        | none => s
      afterFabric (endReq tag q (if changed then stOrphaned else h.status) (h.poison == 1) gone m.body m.lines h.inc changed s))
    s

/-- READ_RSP (R150, R209). -/
def execReadRsp (m : FMsg) (s : State) : Host.Outcome State Fault Refusal := .next (rspRow 0x81 m s)

/-- WRITE_RSP (R165). -/
def execWriteRsp (m : FMsg) (s : State) : Host.Outcome State Fault Refusal := .next (rspRow 0x82 m s)

/-- META_READ_RSP (R164). -/
def execMetaReadRsp (m : FMsg) (s : State) : Host.Outcome State Fault Refusal := .next (rspRow 0x83 m s)

/-- META_WRITE_RSP (R163). -/
def execMetaWriteRsp (m : FMsg) (s : State) : Host.Outcome State Fault Refusal := .next (rspRow 0x84 m s)

/-- ATOMIC_RSP (R233). -/
def execAtomicRsp (m : FMsg) (s : State) : Host.Outcome State Fault Refusal := .next (rspRow 0x85 m s)

/-- OWN_RSP (R234). -/
def execOwnRsp (m : FMsg) (s : State) : Host.Outcome State Fault Refusal := .next (rspRow 0x88 m s)

/-- NOP (R191): it carries its group's echo and asks for nothing. -/
def execNopMsg (m : FMsg) (s : State) : Host.Outcome State Fault Refusal := .next (msgRow 0x0F m (fun s => s) s)

/-! ### Timeouts and retries (R215, R233) -/

/-- REMOTE_TIMEOUT after the first send (R215). A HO_OFFER is bounded by OFFER_TIMEOUT instead. -/
def execRemoteTimeout (tag : Nat) (s : State) : Host.Outcome State Fault Refusal :=
  .next (match tget s.fabric.out tag with
    | none => s
    | some q =>
      if s.tick < q.firstTick + setting s 0x5000 2 || q.msg = 0x0C then s
      else afterFabric (endReq tag q (timeoutStatus s q) true true [] [] 0 false (count 0xB050 4 s)))

/-- ATOMIC_RETRY ticks without a response (R233). -/
def execAtomicRetry (tag : Nat) (s : State) : Host.Outcome State Fault Refusal :=
  .next (match tget s.fabric.out tag with
    | none => s
    | some q =>
      if !(q.msg = 0x05 || q.msg = 0x09 || q.msg = 0x0A) || s.tick < q.lastSend + setting s 0x5000 3 then s
      else match pickPort s q.dst tag q.ordered with
        | some p => count 0xB050 6 (fabResend tag p q s)
        | none => s)

/-! ### Hand-over rows (R238 to R241) -/

/-- A started descriptor of an opcode without an outcome. -/
def descFor (s : State) (d op : Nat) : Option Desc :=
  match tget s.host.descs d with
  | some x => if x.started && x.outcome.isNone && opc x == op then some x else none
  | none => none

/-- The priority of a descriptor's queue or node: 0 for P0 (R294, R316). -/
def descPrio (d : Desc) : Nat := d.queue % 4

/-- HANDOVER_OFFER (R207, R238 step 1). -/
def execHandoverOffer (d : Nat) (s : State) : Host.Outcome State Fault Refusal :=
  .next (match descFor s d 0x0B with
    | none => s
    | some x =>
      let slot := num x.bytes 8 2
      let acceptor := num x.bytes 10 2
      match regionAt s slot with
      | none => setOutcome d stDenied 0 0 0 s
      | some r =>
        if r.partition ≠ descPart s x || ownOrReserved s acceptor || ownEndpoint s = 0 || r.state ≠ 2 then
          setOutcome d stDenied 0 0 0 s
        else if r.damaged then setOutcome d stPoisoned 0 0 0 s
        else
          let o : Offer := { slot := slot, desc := d, acceptor := acceptor, vl := if descPrio x = 0 then 1 else 4, step := 1,
                             token := [], epoch := r.ownerEpoch, sentTick := s.tick, forced := none, doomed := false }
          afterFabric (offerOn slot (modRegion slot (fun r => { r with state := 3 })
            { s with fabric.offers := s.fabric.offers ++ [o] })))

/-- OFFER_TIMEOUT without an answer (R238 step 9): OWN_CAS, and the token is kept until the record decides. -/
def execOfferTimeout (slot : Nat) (s : State) : Host.Outcome State Fault Refusal :=
  .next (match offerOf s slot with
    | none => s
    | some o =>
      if o.step ≠ 6 || s.tick < o.sentTick + setting s 0x5000 5 then s
      else
        let s := { s with fabric.out := s.fabric.out.filter fun e => e.2.purpose != .hoOffer slot }
        let s := holdToken slot true o.acceptor o.epoch 0 o.vl false (modOffer slot (fun o => { o with step := 9 }) s)
        let s := countHandover 2 s
        let n := s.fabric.out.length
        let s := offerCas slot s
        afterFabric (if s.fabric.out.length = n then
          (match offerOf s slot with | some o => closeOffer o stTimeout s | none => s) else s))

/-- HO_ACCEPT (R238 step 7). -/
def execHoAccept (m : FMsg) (s : State) : Host.Outcome State Fault Refusal :=
  .next (msgRow 0x8C m (fun s =>
    match matchRsp m s with
    | none => count 0xB050 0xD s
    | some (tag, q) =>
      let s := noteInc m.srcEp (fhdrOf m.hdr).inc s
      match q.purpose with
      | .hoOffer slot =>
        let s := { s with fabric.out := tdel s.fabric.out tag }
        (match offerOf s slot with
         | some o => afterFabric (countHandover 0 (closeOffer o stDone (offerGone slot o.acceptor o.vl s)))
         | none => s)
      | _ => s) s)

/-- HO_REFUSE (R238 step 8, R240). -/
def execHoRefuse (m : FMsg) (s : State) : Host.Outcome State Fault Refusal :=
  .next (msgRow 0x8E m (fun s =>
    match matchRsp m s with
    | none => count 0xB050 0xD s
    | some (tag, q) =>
      let st := (fhdrOf m.hdr).status
      let s := noteInc m.srcEp (fhdrOf m.hdr).inc s
      let s := if st = stPeerGone then bumpEra q.dst s else s
      match q.purpose with
      | .hoOffer slot =>
        let s := { s with fabric.out := tdel s.fabric.out tag }
        (match offerOf s slot with
         | some o =>
           afterFabric (countHandover 1 (if st = stOrphaned then closeOffer o stOrphaned (regionOrphan slot s)
             else offerBack o st s))
         | none => s)
      | _ => s) s)

/-- HO_OFFER (R239): matched, entered, or refused when the offer table is full. -/
def execHoOffer (m : FMsg) (s : State) : Host.Outcome State Fault Refusal :=
  .next (msgRow 0x0C m (fun s =>
    let h := fhdrOf m.hdr
    if profile s ≠ 0 then fabMalformed m s
    else
      let o := (h.tag, h.seq, m.vl, slice m.body 0 172)
      match entryOf s m.srcEp with
      | some e =>
        (match e.offer with
         | some x => if x.1 = h.tag && x.2.1 = h.seq then s else answerOffer m.srcEp o stTableFull s
         | none =>
           match e.forced, e.accept with
           | some st, none => countHandover 1 (answerOffer m.srcEp o st (dropEntry m.srcEp s))
           | _, _ => afterFabric (meet m.srcEp (modEntry m.srcEp (fun e => { e with offer := some o }) s)))
      | none =>
        if s.fabric.offerTable.length ≥ 16 then countHandover 1 (answerOffer m.srcEp o stTableFull s)
        else
          let e : OfferEntry := { offerer := m.srcEp, offer := some o, accept := none, tick := s.tick, slot := none,
                                  forced := none }
          { s with fabric.offerTable := s.fabric.offerTable ++ [e] }) s)

/-- HO_RELEASE (R239): it closes the entry. -/
def execHoRelease (m : FMsg) (s : State) : Host.Outcome State Fault Refusal :=
  .next (msgRow 0x0D m (fun s =>
    match entryOf s m.srcEp with
    | some e => if e.slot.isSome && e.accept.isNone then dropEntry m.srcEp s else s
    | none => s) s)

/-- HANDOVER_ACCEPT (R239). -/
def execHandoverAccept (d : Nat) (s : State) : Host.Outcome State Fault Refusal :=
  .next (match descFor s d 0x0C with
    | none => s
    | some x =>
      let offerer := num x.bytes 8 2
      match entryOf s offerer with
      | some e =>
        if s.fabric.offerTable.any fun e => e.accept == some (d, descPart s x) then s
        else if e.accept.isSome || e.slot.isSome then setOutcome d stTableFull 0 0 0 s
        else afterFabric (meet offerer (modEntry offerer (fun e => { e with accept := some (d, descPart s x), forced := none }) s))
      | none =>
        if s.fabric.offerTable.length ≥ 16 then setOutcome d stTableFull 0 0 0 s
        else
          let e : OfferEntry := { offerer := offerer, offer := none, accept := some (d, descPart s x), tick := s.tick,
                                  slot := none, forced := none }
          { s with fabric.offerTable := s.fabric.offerTable ++ [e] })

/-- ACCEPT_WAIT ends (R239, R240): an offer or an acceptance that has met nothing times out, a closed entry goes. -/
def execAcceptWaitExpiry (offerer : Nat) (s : State) : Host.Outcome State Fault Refusal :=
  .next (match entryOf s offerer with
    | none => s
    | some e =>
      if s.tick < e.tick + setting s 0x5000 6 then s
      else if e.slot.isSome then (if e.accept.isNone then dropEntry offerer s else s)
      else
        let s := match e.offer with | some o => countHandover 1 (answerOffer offerer o stTimeout s) | none => s
        let s := match e.accept with | some (d, _) => setOutcome d (e.forced.getD stTimeout) 0 0 0 s | none => s
        dropEntry offerer s)

/-- Every TRAY_RETRY ticks a token's holder asks the tray again (R241). -/
def execHandoverResolveRetry (slot : Nat) (s : State) : Host.Outcome State Fault Refusal :=
  .next (match s.fabric.tokens.find? fun t => t.slot == slot with
    | none => s
    | some t =>
      if s.tick < t.lastTry + setting s 0x3000 5 then s
      else
        let s := { s with fabric.tokens := s.fabric.tokens.map fun x => if x.slot = slot then { x with lastTry := s.tick } else x }
        if t.offerer then offerCas slot s else acceptAgain slot s)

/-! ### Region and tally rows (R159, R160, R167, R172 to R174) -/

/-- REGION_RELEASE (R159). -/
def execRegionRelease (r : OdReq) (v : BitVec 16) (s : State) : Host.Outcome State Fault Refusal :=
  .next (afterFabric (endOrphans (odWrite r 0x3101 3 (le 2 v.toNat) (ownRegionRelease v.toNat) s)))

/-- One probe every TRAY_RETRY ticks while the region is UNAVAILABLE (R160, R169). A region whose token is kept is
resolved under R241 instead. -/
def execTrayRetryProbe (slot : Nat) (s : State) : Host.Outcome State Fault Refusal :=
  .next (match regionAt s slot with
    | none => s
    | some r =>
      if r.state ≠ 4 || s.tick < r.lastProbe + setting s 0x3000 5 || s.fabric.tokens.any (fun t => t.slot == slot) then s
      else
        let s := modRegion slot (fun r => { r with lastProbe := s.tick }) s
        match probeNode r with
        | some i => issueOr (metaReq r 0x03 (levelsOf r.sizeLog2 - 1) i 4 false [] (.probe slot)) (fun _ s => s) s
        | none => issueOr (ownReq r 0x08 4 false 0 [] (.probe slot)) (fun _ s => s) s)

/-- The switch-in (R167 step 2): the hold ends and the writes that waited for it go on before lines are moved and, where
nothing is left to move, the migration switches out. -/
def switchSpan (slot leaf : Nat) (s : State) : State :=
  let s := afterFabric (switchIn slot leaf s)
  afterFabric (switchOut slot leaf (moveLines slot leaf s))

/-- The switch-in of a queued span migration (R167 steps 1 and 2): the leaf is brought in first. -/
def execSpanSwitchIn (slot : Nat) (leaf : Nat) (s : State) : Host.Outcome State Fault Refusal :=
  .next (
    if !migQueued s slot leaf then s
    else match regionAt s slot with
      | none => s
      | some r =>
        if r.state ≠ 2 then s
        else if pathResident s slot leaf then switchSpan slot leaf s
        else
          let s := walkFor slot leaf 4 s
          if pathResident s slot leaf then switchSpan slot leaf s else s)

/-- A region's nodes that are not resident, in a walk or being written back, whose parent is resident with a non-zero
counter: what a scrub may verify (R172). -/
def scrubChoices (s : State) (slot : Nat) (r : Region) : List (Nat × Nat) :=
  let top := levelsOf r.sizeLog2 - 1
  let ok := fun (k i : Nat) => (nodeAt s slot k i).isNone && !copyBusy s slot k i false &&
    !(s.tally.walks.any fun w => w.slot == slot && w.leaf / 8 ^ k == i) && (counterAbove s slot k i).getD 0 != 0
  ((List.range 8).filter fun i => decide (i < nodesOf r.sizeLog2 top) && ok top i).map (fun i => (top, i)) ++
  s.tally.nodes.flatMap fun n =>
    if n.slot = slot && n.level ≠ 0 then
      ((List.range 8).filter fun j => ok (n.level - 1) (8 * n.index + j)).map fun j => (n.level - 1, 8 * n.index + j)
    else []

/-- One scrub every SCRUB_INTERVAL ticks, LIVE regions round robin (R172). -/
def execScrubTick (s : State) : Host.Outcome State Fault Refusal :=
  .next (
    let every := setting s 0x3000 4
    if every = 0 || s.tick < s.tally.lastScrub + every then s
    else
      let s := { s with tally.lastScrub := s.tick }
      let live_ := s.tally.regions.filter fun e => e.2.state == 2
      let order := (live_.filter fun e => decide (s.tally.scrubNext ≤ e.1)) ++ live_.filter fun e => decide (e.1 < s.tally.scrubNext)
      match order.find? fun e => !(scrubChoices s e.1 e.2).isEmpty with
      | none => s
      | some (slot, r) =>
        let s := { s with tally.scrubNext := slot + 1 }
        match scrubChoices s slot r with
        | [] => s
        | (k, i) :: _ =>
          if fetchesOut s ≥ 256 then s
          else issueOr (metaReq r 0x03 k i 4 false [] (.scrub slot k i false)) (fun _ s => regionUnavail slot s)
            (count 0xB033 6 s))

/-- TALLY_FLUSH (R173, R174). -/
def ownTallyFlush (v : Nat) (s : State) : Own := guarded [(v > 1, abRange)] (if v = 1 then flushDirty none s else s)

def execTallyFlush (r : OdReq) (v : BitVec 8) (s : State) : Host.Outcome State Fault Refusal :=
  .next (odWrite r 0x3000 8 (le 1 v.toNat) (ownTallyFlush v.toNat) s)

/-- MEM_INTERLEAVE (R174): stored in user flash, in effect from the next whole-block reset. -/
def ownMemInterleave (v : Nat) (s : State) : Own :=
  if !powerGood s then .abort abState
  else match writeRecord recInterleave (le 1 v) s with
    | some s => .ok (setOd 0x3000 6 v s)
    | none => .abort abState

def execMemInterleaveWrite (r : OdReq) (v : BitVec 8) (s : State) : Host.Outcome State Fault Refusal :=
  .next (odWrite r 0x3000 6 (le 1 v.toNat) (ownMemInterleave v.toNat) s)

/-! ### Endpoint and routes (R205, R206) -/

/-- ENDPOINT_ID (R205). -/
def ownEndpointId (v : Nat) (s : State) : Own :=
  guarded [(v = 0 || v = 0xFFFF, abRange),
    (s.links.ports.any fun e => e.2.state == 3 || e.2.state == 4, abState)] (setOd 0x5000 1 v s)

def execEndpointIdWrite (r : OdReq) (v : BitVec 16) (s : State) : Host.Outcome State Fault Refusal :=
  .next (odWrite r 0x5000 1 (le 2 v.toNat) (ownEndpointId v.toNat) s)

/-- ROUTE_WRITE (R206). -/
def ownRouteWrite (v : Nat) (s : State) : Own :=
  let i := fld v 0 16
  let ports := fld v 48 18
  let resv := fld v 66 6 + fld v 73 23
  guarded [(resv != 0 || ports ≥ 2 ^ linkPortsOf s.cfg || i ≥ 1024, abRange)]
    (sendUnsent { s with fabric.routes := tput s.fabric.routes i
                           { base := fld v 16 16, mask := fld v 32 16, ports := ports, valid := tbit v 72,
                             epoch := ((match tget s.fabric.routes i with | some r => r.epoch | none => 0) + 1) % 65536 } })

def execRouteWrite (r : OdReq) (v : BitVec 96) (s : State) : Host.Outcome State Fault Refusal :=
  .next (odWrite r 0x5011 1 (le 12 v.toNat) (ownRouteWrite v.toNat) s)

end Sys2Proof.Machine
end

