-- ==== Sys2Proof/Machine/PlaitNum.lean ====
section
/-! DEFINITION. The arithmetic of plaits: number formats, their layouts in messages and in memory, accumulation and
requantization (R251 to R262). Values are exact: m × 2^e with unbounded m. -/

namespace Sys2Proof.Machine

/-! ### Formats (R251) -/

/-- An element encoding: exponent bits, mantissa bits, bias, and its special codes (0 infinities and NaNs, 1 one NaN and
no infinity, 2 neither). None for the integer elements of MXINT8 and INT8S. -/
def elemFp (f : Nat) : Option (Nat × Nat × Nat × Nat) :=
  if f = 0 then some (8, 23, 127, 0)
  else if f = 1 then some (8, 7, 127, 0)
  else if f = 2 then some (5, 10, 15, 0)
  else if f = 3 || f = 5 then some (4, 3, 7, 1)
  else if f = 4 || f = 6 then some (5, 2, 15, 0)
  else if f = 7 then some (3, 2, 3, 2)
  else if f = 8 then some (2, 3, 1, 2)
  else if f = 9 then some (2, 1, 1, 2)
  else none

/-- Element width in bits. -/
def elemBits (f : Nat) : Nat := [32, 16, 16, 8, 8, 8, 8, 6, 6, 4, 8, 8].getD f 0
/-- A block format: one scale per 32 elements. -/
def isBlock (f : Nat) : Bool := decide (5 ≤ f) && decide (f ≤ 11)
/-- Scale width in bytes. -/
def scaleBytes (f : Nat) : Nat := if f = 11 then 2 else if isBlock f then 1 else 0
/-- EMAX (R261). -/
def emaxOf (f : Nat) : Int := [0, 0, 0, 0, 0, 8, 15, 4, 2, 2, 0, 0].getD f 0
/-- Chunk elements. -/
def chunkElems (f : Nat) : Nat := [224, 448, 448, 896, 896, 864, 864, 1152, 1152, 1696, 864, 832].getD f 0
/-- Entries of a sparse message (R254), and the bytes of one entry (R249). -/
def sparseCap (f : Nat) : Nat := [114, 152, 152, 182, 182].getD f 0
def entryBytes (f : Nat) : Nat := 4 + elemBits f / 8

/-- Bytes of `n` elements in a message (R253) and in memory (R252). -/
def msgBytes (f n : Nat) : Nat :=
  if isBlock f then 16 * ceilDiv (n / 32 * scaleBytes f) 16 + n * elemBits f / 8 else n * elemBits f / 8
def memBytes (f n : Nat) : Nat := n / 32 * scaleBytes f + n * elemBits f / 8

/-! ### Exact numbers -/

/-- The larger of two numbers' common exponent: their mantissas over the smaller exponent. -/
def align (m₁ e₁ m₂ e₂ : Int) : Int × Int × Int :=
  if e₁ ≤ e₂ then (m₁, m₂ * 2 ^ (e₂ - e₁).toNat, e₁) else (m₁ * 2 ^ (e₁ - e₂).toNat, m₂, e₂)

/-- Exact sum (R256, R260); an exact zero is +0. −0 is kept only by −0 + −0. -/
def Num.add : Num → Num → Num
  | .nan _, _ => .nan none
  | _, .nan _ => .nan none
  | .inf a, .inf b => if a = b then .inf a else .nan none
  | .inf a, _ => .inf a
  | _, .inf a => .inf a
  | .negZero, .negZero => .negZero
  | .negZero, x => x
  | x, .negZero => x
  | .fin m₁ e₁, .fin m₂ e₂ =>
    let (a, b, e) := align m₁ e₁ m₂ e₂
    if a + b = 0 then .fin 0 0 else .fin (a + b) e

/-- The negative of a number. -/
def Num.neg : Num → Num
  | .nan s => .nan s
  | .inf a => .inf (!a)
  | .negZero => .fin 0 0
  | .fin m e => if m = 0 then .negZero else .fin (-m) e

/-- x is below y in the order of R259: −0 below +0. -/
def Num.lt : Num → Num → Bool
  | .nan _, _ => false
  | _, .nan _ => false
  | .inf a, .inf b => a && !b
  | .inf a, _ => a
  | _, .inf b => !b
  | .negZero, .negZero => false
  | .negZero, .fin m _ => decide (0 ≤ m)
  | .fin m _, .negZero => decide (m < 0)
  | .fin m₁ e₁, .fin m₂ e₂ => let (a, b, _) := align m₁ e₁ m₂ e₂; decide (a < b)

/-- Is a number finite. -/
def Num.finite : Num → Bool
  | .nan _ => false
  | .inf _ => false
  | _ => true

/-! ### Rounding (R258, R262) -/

/-- num / den as an integer: to nearest even, or with the 16-bit value `r` of R262. -/
def roundQ (r : Option Nat) (num den : Nat) : Nat :=
  let k := num / den
  let rem := num % den
  match r with
  | none => if 2 * rem > den || (2 * rem == den && k % 2 == 1) then k + 1 else k
  | some r => if rem * 65536 / den + r ≥ 65536 then k + 1 else k

/-- num / den × 2^e rounded to a mantissa of `mw` bits over `bias`: the code without sign as if the exponent had no
upper end, and whether the value lies above the code's. -/
def roundFp (mw bias : Nat) (r : Option Nat) (num den : Nat) (e : Int) : Nat × Bool :=
  let l : Int := Nat.log2 (num * 2 ^ 64 / den) - 64 + e
  let q := max (l - mw) (1 - bias - mw)
  let (a, d) := if q ≤ e then (num * 2 ^ (e - q).toNat, den) else (num, den * 2 ^ (q - e).toNat)
  let k := roundQ r a d
  ((q + bias + mw - 1).toNat * 2 ^ mw + k, decide (k * d < a))

/-- Largest finite code of an encoding. -/
def maxCode (ew mw sp : Nat) : Nat :=
  if sp = 0 then (2 ^ ew - 1) * 2 ^ mw - 1 else if sp = 1 then 2 ^ (ew + mw) - 2 else 2 ^ (ew + mw) - 1

/-- The value of a code (R251). -/
def decodeFp (ew mw bias sp c : Nat) : Num :=
  let neg := tbit c (ew + mw)
  let ex := fld c mw ew
  let mant := fld c 0 mw
  let sgn : Int := if neg then -1 else 1
  if sp = 0 && ex = 2 ^ ew - 1 then (if mant = 0 then .inf neg else .nan (some neg))
  else if sp = 1 && c % 2 ^ (ew + mw) = 2 ^ (ew + mw) - 1 then .nan (some neg)
  else if ex = 0 then
    (if mant = 0 then (if neg then .negZero else .fin 0 0) else .fin (sgn * mant) (1 - bias - mw))
  else .fin (sgn * (2 ^ mw + mant)) (ex - bias - mw)

/-- A NaN code: the one of E4M3 with the value's sign (R260); elsewhere a fraction that the spec leaves open
(log entry 15). -/
def nanCode (ew mw sp : Nat) (sign : Option Bool) (salt i : Nat) : Nat :=
  let v := Config.freeCode salt i
  let neg := match sign with | some b => bit b | none => v % 2
  let body := if sp = 0 then (2 ^ ew - 1) * 2 ^ mw + 1 + v / 2 % (2 ^ mw - 1) else 2 ^ (ew + mw) - 1
  neg * 2 ^ (ew + mw) + body

/-- A value in an encoding, clamped (R260): its code, and whether it was clamped. -/
def encodeFp (p : Nat × Nat × Nat × Nat) (r : Option Nat) (salt i : Nat) (x : Num) : Nat × Bool :=
  let (ew, mw, bias, sp) := p
  match x with
  | .nan s => (nanCode ew mw sp s salt i, false)
  | .inf neg =>
    (if sp = 0 then bit neg * 2 ^ (ew + mw) + (2 ^ ew - 1) * 2 ^ mw
     else if sp = 1 then bit neg * 2 ^ (ew + mw) + 2 ^ (ew + mw) - 1
     else Config.freeCode salt i % 2 ^ (ew + mw + 1), false)
  | .negZero => (2 ^ (ew + mw), false)
  | .fin m e =>
    if m = 0 then (0, false)
    else
      let (c, lost) := roundFp mw bias r m.natAbs 1 e
      let top := maxCode ew mw sp
      let past := decide (c > top) || (c == top && lost)
      (bit (decide (m < 0)) * 2 ^ (ew + mw) + Nat.min c top, past)

/-- A sum of two binary32 values rounded to binary32, nearest even, subnormals kept (R258). -/
def add32 (x y : Num) : Num :=
  match Num.add x y with
  | .fin m e =>
    if m = 0 then .fin 0 0
    else
      let (c, _) := roundFp 23 127 none m.natAbs 1 e
      if c > maxCode 8 23 0 then .inf (decide (m < 0)) else decodeFp 8 23 127 0 (bit (decide (m < 0)) * 2 ^ 31 + c)
  | z => z

/-! ### Accumulation (R256 to R260) -/

/-- Formats accumulated in the pair of R258. -/
def isPair (f : Nat) : Bool := decide (f ≤ 2)

/-- One contribution added to a compensated pair. -/
def pairAdd (a : Acc) (x : Num) : Acc :=
  match a.s, x with
  | .nan _, _ => a
  | _, .nan _ => { s := .nan none, c := .fin 0 0, wide := false }
  | .inf p, .inf q =>
    if a.wide then { s := .inf q, c := .fin 0 0, wide := false }
    else if p = q then a else { s := .nan none, c := .fin 0 0, wide := false }
  | .inf _, _ => a
  | _, .inf q => { s := .inf q, c := .fin 0 0, wide := false }
  | s, x =>
    let t := add32 s x
    let bp := add32 t s.neg
    let e := add32 (add32 s (add32 t bp.neg).neg) (add32 x bp.neg)
    match t with
    | .inf _ => { s := t, c := .fin 0 0, wide := true }
    | _ => { s := t, c := add32 a.c e, wide := false }

/-- One contribution to an element: OP 1 MAX, 2 MIN, else a sum. -/
def accPut (op f : Nat) (a : Option Acc) (x : Num) : Acc :=
  let z : Acc := { s := .fin 0 0, c := .fin 0 0, wide := false }
  if op = 1 || op = 2 then
    match a with
    | none => { z with s := x }
    | some b =>
      match b.s, x with
      | .nan _, _ => b
      | _, .nan _ => { z with s := .nan none }
      | s, x => if (if op = 1 then Num.lt s x else Num.lt x s) then { b with s := x } else b
  else if isPair f then pairAdd (a.getD z) x
  else { z with s := match Num.add (a.getD z).s x with | .negZero => .fin 0 0 | y => y }

/-- The value presented to requantization, and whether the element is saturated (R258). -/
def accValue (a : Acc) : Num × Bool :=
  if a.wide then
    match a.s with
    | .inf neg => (.fin ((if neg then -1 else 1) * 0xFFFFFF) 104, true)
    | x => (x, true)
  else match a.s with
    | .inf b => (.inf b, false)
    | .nan s => (.nan s, false)
    | .negZero => (if a.c == .fin 0 0 then .negZero else Num.add .negZero a.c, false)
    | x => (Num.add x a.c, false)

/-- A block is SPREAD: its scale exponents differ by more than 23 (R257). -/
def isSpread (l : List Int) : Bool :=
  match l with
  | [] => false
  | x :: xs => decide ((x :: xs).foldl max x - (x :: xs).foldl min x > 23)

/-! ### Encoding and decoding of chunks (R252, R253, R261) -/

/-- Numbers of `w` bits packed from bit 0 upwards. -/
def packCodes (w : Nat) (cs : List Nat) : Bytes := le (cs.length * w / 8) (pack (cs.map fun c => (w, c)))

/-- The `n` numbers of `w` bits in an area. -/
def codesOf (w n : Nat) (area : Bytes) : List Nat :=
  let v := ofLe area
  (List.range n).map fun i => fld v (w * i) w

/-- A chunk in a format: scales and element codes, and whether something was clamped. -/
structure Enc where
  scales : List Nat
  codes : List Nat
  sat : Bool
deriving DecidableEq, Repr

/-- The scale exponent of R261: floor(log2 amax) of the largest finite magnitude; none when it is zero. -/
def amaxOf (xs : List Num) : Option (Nat × Int) :=
  xs.foldl (fun b x => match x with
    | .fin m e => if m = 0 then b else match b with
      | some (a, k) => (let (p, q, _) := align a k m.natAbs e; if p < q then some (m.natAbs, e) else b)
      | none => some (m.natAbs, e)
    | _ => b) none

/-- Some element is NaN. -/
def anyNan (xs : List Num) : Bool := xs.any fun x => match x with | .nan _ => true | _ => false

/-- An integer element of MXINT8 and INT8S: a magnitude and a sign, two's complement. -/
def intCode (neg : Bool) (k : Nat) : Nat := if neg then (256 - k) % 256 else k

/-- One element of a block, `num / den × 2^e` its magnitude over the scale. -/
def blockElem (f : Nat) (r : Option Nat) (salt i : Nat) (scale : Nat × Int) (x : Num) : Nat :=
  let free := Config.freeCode salt i % 2 ^ elemBits f
  match elemFp f, x with
  | some p, .fin m e =>
    if m = 0 then 0
    else
      let (c, _) := roundFp p.2.1 p.2.2.1 r m.natAbs 1 (e - scale.2)
      bit (decide (m < 0)) * 2 ^ (p.1 + p.2.1) + Nat.min c (maxCode p.1 p.2.1 p.2.2.2)
  | some p, x => (encodeFp p r salt i x).1
  | none, .fin m e =>
    if scale.1 = 0 then free
    else
      let d := e - scale.2
      let (a, b) := if 0 ≤ d then (m.natAbs * 2 ^ d.toNat, scale.1) else (m.natAbs, scale.1 * 2 ^ (-d).toNat)
      intCode (decide (m < 0)) (Nat.min (roundQ r a b) 127)
  | none, .negZero => if scale.1 = 0 then free else 0
  | none, _ => free

/-- One block of 32 elements from place `at_` on (R261): its scale, its codes, SAT. A SPREAD block, and a block with a
NaN in a format that has no NaN element, is given the NaN scale (R257, R260). -/
def encodeBlock (f : Nat) (r : Nat → Option Nat) (salt at_ : Nat) (spread : Bool) (xs : List Num) : Nat × List Nat × Bool :=
  let free := (List.range xs.length).map fun i => Config.freeCode salt (at_ + i) % 2 ^ elemBits f
  let noNan := match elemFp f with | some p => p.2.2.2 == 2 | none => true
  if spread || (noNan && anyNan xs) then
    (if f = 11 then nanCode 8 7 0 none salt at_ else 0xFF, free, false)
  else
    let elems := fun (sc : Nat × Int) => (List.range xs.length).map fun i =>
      blockElem f (r (at_ + i)) salt (at_ + i) sc (xs.getD i (.fin 0 0))
    match amaxOf xs with
    | none => (0, elems (if f = 11 then (0, 0) else (1, if f = 10 then -133 else -127)), false)
    | some (a, e) =>
      if f = 11 then
        let big := a * 2 ^ 32
        let l : Int := Nat.log2 (big / 127) - 32 + e
        let q := max (l - 7) (-133)
        let k := if q ≤ e then ceilDiv (a * 2 ^ (e - q).toNat) 127 else ceilDiv a (127 * 2 ^ (q - e).toNat)
        let c := (q + 133).toNat * 128 + k
        let top := maxCode 8 7 0
        let c' := Nat.min c top
        let sc := match decodeFp 8 7 127 0 c' with | .fin m e => (m.natAbs, e) | _ => (0, 0)
        (c', elems sc, decide (c > top))
      else
        let ex : Int := Nat.log2 a + e - emaxOf f
        let x := max (-127) (min 127 ex)
        ((x + 127).toNat, elems (1, if f = 10 then x - 6 else x), decide (ex > 127))

/-- Blocks of 32. -/
def encodeBlocks (f : Nat) (r : Nat → Option Nat) (salt : Nat) : Nat → Nat → List Bool → List Num → Enc
  | 0, _, _, _ => { scales := [], codes := [], sat := false }
  | fuel + 1, at_, sp, xs =>
    if xs.isEmpty then { scales := [], codes := [], sat := false }
    else
      let (sc, cs, sat) := encodeBlock f r salt at_ (sp.headD false) (xs.take 32)
      let rest := encodeBlocks f r salt fuel (at_ + 32) sp.tail (xs.drop 32)
      { scales := sc :: rest.scales, codes := cs ++ rest.codes, sat := sat || rest.sat }

/-- A chunk of values in a format. -/
def encodeChunk (f : Nat) (r : Nat → Option Nat) (salt : Nat) (spread : List Bool) (xs : List Num) : Enc :=
  if isBlock f then encodeBlocks f r salt xs.length 0 spread xs
  else
    let cs := (List.range xs.length).map fun i =>
      encodeFp ((elemFp f).getD (8, 23, 127, 0)) (r i) salt i (xs.getD i (.fin 0 0))
    { scales := [], codes := cs.map (·.1), sat := cs.any (·.2) }

/-- The bytes of a chunk in a message (R253) and in memory (R252). -/
def encMsg (f : Nat) (e : Enc) : Bytes :=
  let sc := e.scales.flatMap fun c => le (scaleBytes f) c
  slice sc 0 (16 * ceilDiv sc.length 16) ++ packCodes (elemBits f) e.codes
def encMem (f : Nat) (e : Enc) : Bytes :=
  if isBlock f then
    (List.range e.scales.length).flatMap fun b =>
      le (scaleBytes f) (e.scales.getD b 0) ++ packCodes (elemBits f) ((e.codes.drop (32 * b)).take 32)
  else packCodes (elemBits f) e.codes

/-- The value of an element under its block's scale: none for a NaN scale. -/
def scaled (f : Nat) (scale : Option (Int × Int)) (c : Nat) : Num :=
  match scale with
  | none => .nan none
  | some (sm, se) =>
    match elemFp f with
    | some p => match decodeFp p.1 p.2.1 p.2.2.1 p.2.2.2 c with
      | .fin m e => if m = 0 then .fin 0 0 else .fin m (e + se)
      | x => x
    | none =>
      let k : Int := if c ≥ 128 then (c : Int) - 256 else c
      if k = 0 || sm = 0 then .fin 0 0 else .fin (k * sm) (if f = 10 then se - 6 else se)

/-- A scale code: its value (mantissa, exponent), none when NaN or not finite, and the exponent that the spread of R257
looks at. -/
def scaleOf (f c : Nat) : Option (Int × Int) × Option Int :=
  if f = 11 then
    match decodeFp 8 7 127 0 c with
    | .fin m e => (some (m, e), some ((fld c 7 8 : Int) - 127))
    | .negZero => (some (0, 0), some (-127))
    | _ => (none, none)
  else if c = 0xFF then (none, none)
  else (some (1, (c : Int) - 127), some ((c : Int) - 127))

/-- The values of `n` elements and the scale exponents of their blocks, from scale codes and element codes. -/
def decodeCodes (f n : Nat) (scales codes : List Nat) : List Num × List (Option Int) :=
  if isBlock f then
    ((List.range n).map fun i => scaled f (scaleOf f (scales.getD (i / 32) 0)).1 (codes.getD i 0),
     (List.range (n / 32)).map fun b => (scaleOf f (scales.getD b 0)).2)
  else
    (codes.map fun c => match elemFp f with
      | some p => decodeFp p.1 p.2.1 p.2.2.1 p.2.2.2 c
      | none => .fin 0 0, [])

/-- A chunk of a message, and a piece of memory. -/
def decodeMsg (f n : Nat) (data : Bytes) : List Num × List (Option Int) :=
  let sl := if isBlock f then 16 * ceilDiv (n / 32 * scaleBytes f) 16 else 0
  decodeCodes f n (codesOf (8 * scaleBytes f) (n / 32) (data.take sl)) (codesOf (elemBits f) n (data.drop sl))
def decodeMem (f n : Nat) (data : Bytes) : List Num × List (Option Int) :=
  if isBlock f then
    let bb := memBytes f 32
    let blk := fun b => slice data (bb * b) bb
    decodeCodes f n ((List.range (n / 32)).map fun b => num (blk b) 0 (scaleBytes f))
      ((List.range (n / 32)).flatMap fun b => codesOf (elemBits f) 32 ((blk b).drop (scaleBytes f)))
  else decodeCodes f n [] (codesOf (elemBits f) n data)

/-! ### Sparse entries (R249) -/

/-- An entry: index, TAG, value. -/
abbrev Entry := Nat × Nat × Num

/-- The `n` entries of packed bytes. -/
def decodeEntries (f n : Nat) (data : Bytes) : List Entry :=
  (List.range n).map fun i =>
    let b := slice data (entryBytes f * i) (entryBytes f)
    (num b 0 3, num b 3 1, match elemFp f with
      | some p => decodeFp p.1 p.2.1 p.2.2.1 p.2.2.2 (num b 4 (elemBits f / 8))
      | none => .fin 0 0)

/-- Entries packed in a format, with SAT. -/
def encodeEntries (f : Nat) (r : Nat → Option Nat) (salt : Nat) (es : List Entry) : Bytes × Bool :=
  let enc := encodeChunk f r salt [] (es.map (·.2.2))
  ((List.range es.length).flatMap fun i =>
    let e := es.getD i (0, 0, .fin 0 0)
    le 3 e.1 ++ le 1 e.2.1 ++ le (elemBits f / 8) (enc.codes.getD i 0), enc.sat)

/-- Indices strictly ascending, from `lo` on, below `hi`. -/
def ascending : Nat → Nat → List Entry → Bool
  | _, _, [] => true
  | lo, hi, e :: es => decide (lo ≤ e.1) && decide (e.1 < hi) && ascending (e.1 + 1) hi es

end Sys2Proof.Machine
end

