-- ==== Sys2Proof/Machine/Plait.lean ====
section
/-! DEFINITION. Plait records, their messages and the running of their steps (R243 to R275). -/

namespace Sys2Proof.Machine

/-! ### Records (R244 to R246) -/

/-- The fixed part of a record, and its children: endpoint, MASK, MATCH. -/
structure PlRec where
  id : Nat
  leaf : Bool
  root : Bool
  rootOnly : Bool
  stochastic : Bool
  op : Nat
  up : Nat
  down : Nat
  src : Nat
  dst : Nat
  part : Nat
  parent : Nat
  count : Nat
  window : Nat
  rank : Nat
  total : Nat
  localMask : Nat
  localMatch : Nat
  timeout : Nat
  children : List (Nat × Nat × Nat)
deriving DecidableEq, Repr

/-- The record that 320 bytes spell (R244). -/
def plRec (b : Bytes) : PlRec :=
  let w := num b 0 64
  { id := fld w 0 16, leaf := tbit w 16, root := tbit w 17, rootOnly := tbit w 18, stochastic := tbit w 19,
    op := fld w 20 4, up := fld w 24 4, down := fld w 28 4, src := fld w 32 4, dst := fld w 36 4, part := fld w 40 6,
    parent := fld w 48 16, count := fld w 64 32, window := fld w 96 10 + 1, rank := fld w 112 16, total := fld w 128 15,
    localMask := fld w 152 8, localMatch := fld w 160 8, timeout := fld w 168 24,
    children := (List.range (fld w 144 7)).map fun k =>
      (num b (64 + 4 * k) 2, num b (66 + 4 * k) 1, num b (67 + 4 * k) 1) }

def sparseOp (op : Nat) : Bool := op == 3 || op == 5
def gatherOp (op : Nat) : Bool := op == 4 || op == 5

/-- Elements of a dense chunk (R255). -/
def chunkLen (r : PlRec) : Nat := Nat.min (chunkElems r.up) (chunkElems r.down)

/-- CHUNKS of R255. The capacity of FILTER is that of UP_FMT. -/
def chunkCount (r : PlRec) : Nat :=
  if r.op = 3 then ceilDiv r.count 224
  else if r.op = 5 then ceilDiv r.count (sparseCap r.up)
  else ceilDiv r.count (chunkLen r)

/-- Elements of dense chunk `c`. -/
def chunkN (r : PlRec) (c : Nat) : Nat := Nat.min (chunkLen r) (r.count - c * chunkLen r)

/-- Downward chunks that end a step. -/
def downTotal (r : PlRec) : Nat := if gatherOp r.op then r.total * chunkCount r else chunkCount r

/-- Scratch regions of one slot (R246); 0 when the record reserves none. -/
def slotRegions (r : PlRec) : Nat :=
  if r.children.isEmpty || gatherOp r.op then 0
  else if r.op = 3 then 2
  else
    let e := chunkLen r
    ceilDiv (8 * e + 2 * (if isBlock r.up then e / 32 else 0) + 16) 1024

/-- Bytes of the leaf's source and destination (R249, R250): of a list, its header and, for the destination, COUNT
entries. -/
def plaitSizes (r : PlRec) : Nat × Nat :=
  if r.op = 3 then (16, 16 + r.count * entryBytes r.dst)
  else if r.op = 5 then (16, r.total * chunkCount r * 928)
  else if r.op = 4 then (memBytes r.src r.count, memBytes r.dst (r.total * r.count))
  else (memBytes r.src r.count, memBytes r.dst r.count)

/-- Who contributes at a member: its children, and its own leaf as 0. -/
def contributors (r : PlRec) : List Nat := (r.children.map (·.1)) ++ (if r.leaf then [0] else [])

/-- Bobbin `k` in the order of R246: every pillow once, then every pillow's next bobbin. -/
def bobbinAt (s : State) (k : Nat) : Nat :=
  let p := pillowsOf s.cfg
  k % p * lastPillowOf s.cfg + k / p % lastPillowOf s.cfg

/-- Free scratch regions of a bobbin. -/
def freeRegions (s : State) (taken : List Nat) (b : Nat) : List Nat :=
  ((List.range 16).map (b * 16 + ·)).filter fun r => !thas s.tension.scratch r && !taken.contains r

/-- Place `n` slots of `a` regions, visiting the bobbins in order and skipping those without room (R246). -/
def placeSlots (s : State) (a : Nat) : Nat → Nat → Nat → List (List Nat) → Option (List (List Nat))
  | _, 0, _, acc => some acc
  | 0, _ + 1, _, _ => none
  | fuel + 1, n + 1, k, acc =>
    let got := (freeRegions s acc.flatten (bobbinAt s (k % bobbinsOf s.cfg))).take a
    if got.length = a then placeSlots s a fuel n (k + 1) (acc ++ [got])
    else placeSlots s a fuel (n + 1) (k + 1) acc

/-- The slots of a record: none when they cannot be reserved. -/
def reserveSlots (s : State) (r : PlRec) : Option (List (List Nat)) :=
  let a := slotRegions r
  if a = 0 then some [] else placeSlots s a (17 * bobbinsOf s.cfg) r.window 0 []

/-! ### State of a record -/

def plaitAt (s : State) (id : Nat) : Option Plait := tget s.plaits id

def runOf (s : State) (id : Nat) : Option PStep :=
  match plaitAt s id with | some p => p.run | none => none

def modRun (id : Nat) (f : PStep → PStep) (s : State) : State :=
  { s with plaits := tmod s.plaits id fun p => { p with run := p.run.map f } }

/-- LAST_STEP: the running step, or the last one ended. -/
def lastStep (p : Plait) : Option Nat := match p.run with | some r => some r.step | none => p.last

/-! ### Messages (R263, R264) -/

structure PHdr where
  pmsg : Nat
  part : Bool
  more : Bool
  sat : Bool
  id : Nat
  step : Nat
  chunk : Nat
  status : Nat
  rank : Nat
  n : Nat
  contrib : Nat
  join : Nat
deriving DecidableEq, Repr

def phdrWord (h : PHdr) : BitVec 256 :=
  BitVec.ofNat 256 (pack [(8, h.pmsg), (1, bit h.part), (1, bit h.more), (1, bit h.sat), (5, 0), (16, h.id), (32, h.step),
    (24, h.chunk), (8, h.status), (16, h.rank), (16, h.n), (15, h.contrib), (49, 0), (64, h.join)])

def phdrOf (v : BitVec 256) : PHdr :=
  let w := v.toNat
  { pmsg := fld w 0 8, part := tbit w 8, more := tbit w 9, sat := tbit w 10, id := fld w 16 16, step := fld w 32 32,
    chunk := fld w 64 24, status := fld w 88 8, rank := fld w 96 16, n := fld w 112 16, contrib := fld w 128 15,
    join := fld w 192 64 }

/-- Reserved bits of a header are zero. -/
def phdrReserved (v : BitVec 256) : Bool := fld v.toNat 11 5 == 0 && fld v.toNat 143 49 == 0

/-- Send a plait message to a member (R263) on VL3, by the lowest-numbered LINKED port of its route; with none it is
lost (log entry 16). A MSG_SENT record names the step (R472). -/
def plSend (ep : Nat) (h : PHdr) (data : Bytes) (s : State) : State :=
  match pickPort s ep 0 true with
  | none => s
  | some p =>
    let m : PMsg := { srcEp := ownEndpoint s, dstEp := ep, hdr := phdrWord h, data := data }
    let s := tack { rtype := 5, island := linkIsland s p, partition := 0, context := 0, object := h.id + 2 ^ 16 * h.step,
                    sigIsland := 0x3E, sigEp := 0, sigLseq := 0, detail := h.chunk } s
    sendMessage p 3 ep (ownEndpoint s) (le 32 m.hdr.toNat ++ data) [] (emit (.plait p m) s)

/-- A header of a step, its other fields zero. -/
def stepHdr (id : Nat) (x : PStep) (pmsg : Nat) : PHdr :=
  { pmsg := pmsg, part := false, more := false, sat := false, id := id, step := x.step, chunk := 0, status := 0, rank := 0,
    n := 0, contrib := 0, join := x.join }

/-! ### Starting and ending a step (R266 to R275) -/

/-- The step timeout (R273). -/
def plTimeout (s : State) (r : PlRec) : Nat := if r.timeout = 0 then setting s 0x6000 1 else r.timeout

/-- A step that has just started. -/
def newStep (s : State) (r : PlRec) (step join : Nat) : PStep :=
  { step := step, join := join, startTick := s.tick, limit := plTimeout s r, desc := none, sat := false, slots := [],
    ready := [], leavesReady := 0, go := false, nextUp := 0, down := [], seen := [], held := [], source := [],
    listed := !sparseOp r.op, rfail := none, closed := false, list := [] }

/-- A step ends early (R274): everything of it is discarded, PL_ABORT goes to the parent and every child but those in
`from_`, the leaf's descriptor completes with its own status. -/
def endEarly (id own carry : Nat) (from_ : List Nat) (s : State) : State :=
  match plaitAt s id with
  | none => s
  | some p => match p.run with
    | none => s
    | some x =>
      let r := plRec p.bytes
      let ends := ((if r.root then [] else [r.parent]) ++ r.children.map (·.1)).filter fun e => !from_.contains e
      let s := { s with plaits := tput s.plaits id { p with run := none, last := some x.step } }
      let s := each ends (fun e s => plSend e { stepHdr id x 0x26 with status := carry } [] s) s
      let s := match x.desc with | some d => setOutcome d own 0 0 0 (dropLists d s) | none => s
      trigger 4 (count 0xB060 (if carry = stIntegrity then 4 else 3) s)

/-- End a step with ABORTED for everyone. -/
def abortStep (id : Nat) (s : State) : State := endEarly id stAborted stAborted [] s

/-- Start a step: a running one ends with ABORTED first (R270). -/
def startStep (id step join : Nat) (s : State) : State :=
  let s := abortStep id s
  match plaitAt s id with
  | none => s
  | some p => { s with plaits := tput s.plaits id { p with run := some (newStep s (plRec p.bytes) step join) } }

/-- Downward chunks complete so far: the last part of each. -/
def downDone (x : PStep) : Nat := (x.down.filter fun d => d.2.2 != 0).length

/-- The SPARSE_SUM destination: a list header and the entries in chunk order (R249, R250). -/
def listBytes (x : PStep) : Bytes :=
  le 16 (x.list.map (·.2.1)).sum ++ x.list.flatMap (·.2.2)

/-- A write to the leaf's destination. -/
def leafWrite (k : Nat) (d : Desc) (off : Nat) (b : Bytes) (s : State) : State :=
  nextAccess k (askWrite k (num d.bytes 12 4) (num d.bytes 24 8 + off) b s)

/-- The leaf's writes have all been acknowledged. -/
def leafWritten (s : State) (k : Nat) : Bool :=
  match tget s.host.xfers k with | some j => j.writes.isEmpty | none => true

/-- The step ends with everything done. -/
def endStep (id : Nat) (p : Plait) (x : PStep) (s : State) : State :=
  let s := { s with plaits := tput s.plaits id { p with run := none, last := some x.step } }
  let s := count 0xB060 (if x.sat then 2 else 1) s
  match x.desc with
  | some k => setOutcome k (if x.sat then stSaturated else stDone) 0 0 0 s
  | none => s

/-- A step whose downward messages have all been accepted, and whose leaf has written, ends (R266 step 5, R267). -/
def settleStep (id : Nat) (s : State) : State :=
  match plaitAt s id with
  | none => s
  | some p => match p.run with
    | none => s
    | some x =>
      let r := plRec p.bytes
      if downDone x < downTotal r || (r.leaf && x.desc.isNone) then s
      else match x.desc with
        | none => endStep id p x s
        | some k =>
          if r.op = 3 && !x.closed then
            (match tget s.host.descs k with
             | some d => leafWrite k d 0 (listBytes x) (modRun id (fun x => { x with closed := true }) s)
             | none => s)
          else if leafWritten s k then endStep id p x s
          else s

/-! ### Conversions (R261, R262) -/

/-- Prepare the conversion of one chunk: a seed when the plait rounds stochastically, and a number for its open bits.
None when the rounding DRBG refuses. -/
def convSeed (r : PlRec) (s : State) : Option ((Nat → Option Nat) × Nat × State) :=
  let salt := s.free
  let s := { s with free := s.free + 1 }
  if r.stochastic then
    match roundDraw s with
    | some (seed, s) => some (fun i => some (Config.plaitRandom seed i % 65536), salt, s)
    | none => none
  else some (fun _ => none, salt, s)

/-- The rounding DRBG refused (R262). -/
def seedRefused (id : Nat) (s : State) : State := abortStep id (count 0xB060 0xA s)

/-! ### Downward (R266, R267, R249) -/

/-- Entries that meet a FILTER predicate. -/
def filterEntries (f n mask mtch : Nat) (data : Bytes) : Nat × Bytes :=
  let keep := (List.range n).filter fun i => num (slice data (entryBytes f * i) (entryBytes f)) 3 1 &&& mask == mtch
  (keep.length, keep.flatMap fun i => slice data (entryBytes f * i) (entryBytes f))

/-- The own leaf takes a downward message (R250, R266 step 4). -/
def leafDown (id : Nat) (h : PHdr) (data : Bytes) (s : State) : State :=
  match plaitAt s id with
  | none => s
  | some p => match p.run with
    | none => s
    | some x => match x.desc with
      | none => s
      | some k => match tget s.host.descs k, convSeed (plRec p.bytes) s with
        | some d, some (rnd, salt, s) =>
          let r := plRec p.bytes
          if r.op = 3 then
            let (b, sat) := encodeEntries r.dst rnd salt (decodeEntries r.down h.n data)
            modRun id (fun x => { x with sat := x.sat || sat,
                                         list := tput x.list (2 * h.chunk + bit h.part) (h.n, b) }) s
          else if r.op = 5 then
            let (n, kept) := filterEntries r.down h.n r.localMask r.localMatch data
            let (b, sat) := encodeEntries r.dst rnd salt (decodeEntries r.down n kept)
            let s := modRun id (fun x => { x with sat := x.sat || sat }) s
            leafWrite k d ((h.rank * chunkCount r + h.chunk) * 928) (le 16 n ++ b) s
          else
            let base := (if r.op = 4 then h.rank * r.count else 0) + h.chunk * chunkLen r
            let e := encodeChunk r.dst rnd salt [] (decodeMsg r.down h.n data).1
            let s := modRun id (fun x => { x with sat := x.sat || e.sat }) s
            leafWrite k d (memBytes r.dst base) (encMem r.dst e) s
        | some _, none => seedRefused id s
        | none, _ => s

/-- A PLAIT_WAIT_END record: a chunk of the leaf has been finished by a message of `src` (R472). -/
def tackPlait (id : Nat) (x : PStep) (src chunk : Nat) (s : State) : State :=
  match x.desc with
  | none => s
  | some k => match tget s.host.descs k with
    | none => s
    | some d => tack { rtype := 4, island := hostIsland, partition := descPart s d, context := descCtx d,
                       object := id + 2 ^ 16 * x.step, sigIsland := if src = 0 then hostIsland else 0x3F, sigEp := src,
                       sigLseq := 0, detail := chunk } s

/-- A downward message goes on to every child and to the own leaf; one for a leaf that has not started is held. -/
def goDown (id src : Nat) (h : PHdr) (data : Bytes) (s : State) : State :=
  match plaitAt s id with
  | none => s
  | some p =>
    let r := plRec p.bytes
    let s := each r.children (fun c s =>
      if r.op = 5 && h.pmsg = 0x22 then
        let (n, b) := filterEntries r.down h.n c.2.1 c.2.2 data
        plSend c.1 { h with n := n } b s
      else plSend c.1 h data s) s
    let place := if h.more then 0 else if h.part then 1 else 2
    let s := modRun id (fun x => { x with sat := x.sat || h.sat, down := x.down ++ [(h.rank, h.chunk, place)] }) s
    match runOf s id with
    | none => s
    | some x =>
      if !r.leaf then s
      else if x.desc.isNone then
        modRun id (fun x => { x with held := x.held ++ [{ srcEp := src, hdr := phdrWord h, data := data }] }) s
      else
        let s := if h.more then s else tackPlait id x src h.chunk s
        if h.pmsg = 0x23 then s else leafDown id h data s

/-! ### Upward (R267) -/

/-- An accumulator slot that nobody has contributed to. -/
def emptySlot (c size blocks : Nat) : Slotted :=
  { chunk := c, from_ := [], contrib := 0, sat := false, acc := List.replicate size none,
    scales := List.replicate blocks [], tags := [], half := [] }

/-- Places of a chunk's accumulators, and its blocks. -/
def slotSize (r : PlRec) (c : Nat) : Nat × Nat :=
  if r.op = 3 then (224, 0) else (chunkN r c, if isBlock r.up then chunkN r c / 32 else 0)

/-- Fold a contribution into a slot (R249, R256 to R259): values by place with their TAGs, scale exponents by block. The
last part of a chunk makes its sender a contributor. -/
def fold (r : PlRec) (ep contrib : Nat) (more sat : Bool) (xs : List Entry) (sc : List (Option Int)) (z : Slotted) :
    Slotted :=
  { z with
    acc := xs.foldl (fun a x => setNth a x.1 (some (accPut r.op r.up (nth a x.1 none) x.2.2))) z.acc,
    tags := xs.foldl (fun t x => tput t x.1 (tgetD t x.1 0 ||| x.2.1)) z.tags,
    scales := (List.range z.scales.length).map fun b =>
      match nth sc b none with | some e => nth z.scales b [] ++ [e] | none => nth z.scales b [],
    sat := z.sat || sat,
    from_ := if more then z.from_ else z.from_ ++ [ep],
    half := if more then z.half ++ [ep] else z.half.filter (· != ep),
    contrib := if more then z.contrib else z.contrib + contrib }

/-- The result of a full slot: entries by place, SPREAD blocks, SAT. -/
def slotResult (r : PlRec) (z : Slotted) : List Entry × List Bool × Bool :=
  let spread := z.scales.map isSpread
  let vals := (List.range z.acc.length).filterMap fun i =>
    match nth z.acc i none with
    | some a => some (i, if nth spread (i / 32) false then (.nan none, false) else accValue a)
    | none => if r.op = 3 then none else some (i, (.fin 0 0, false))
  (vals.map fun v => (v.1, tgetD z.tags v.1 0, v.2.1), spread, z.sat || spread.any id || vals.any fun v => v.2.2)

/-- The messages of a chunk's result in a format: part, more, entries or elements, data, SAT. -/
def chunkParts (r : PlRec) (f : Nat) (rnd : Nat → Option Nat) (salt c : Nat) (es : List Entry) (spread : List Bool) :
    List (Bool × Bool × Nat × Bytes × Bool) :=
  if r.op = 3 then
    let es := es.map fun e => (e.1 + 224 * c, e.2)
    let a := es.take (sparseCap f)
    let b := es.drop (sparseCap f)
    let (d, sat) := encodeEntries f rnd salt a
    if b.isEmpty then [(false, false, a.length, d, sat)]
    else
      let (d', sat') := encodeEntries f (fun i => rnd (i + a.length)) (salt + 2 ^ 64) b
      [(false, true, a.length, d, sat || sat'), (true, false, b.length, d', sat || sat')]
  else
    let e := encodeChunk f rnd salt spread (es.map (·.2.2))
    [(false, false, es.length, encMsg f e, e.sat)]

/-- A slot is full: its result goes to the parent, or at the root down the tree (R267). -/
def emitSlot (id : Nat) (z : Slotted) (s : State) : State :=
  match plaitAt s id with
  | none => s
  | some p => match p.run with
    | none => s
    | some x =>
      let r := plRec p.bytes
      if r.root && z.contrib ≠ r.total then abortStep id (count 0xB060 9 s)
      else
        let (es, spread, sat) := slotResult r z
        let s := countBy 0xB060 6 (spread.filter (· == true)).length s
        match convSeed r s with
        | none => seedRefused id s
        | some (rnd, salt, s) =>
          let parts := chunkParts r (if r.root then r.down else r.up) rnd salt z.chunk es spread
          let sat := sat || parts.any fun q => q.2.2.2.2
          let s := modRun id (fun x => { x with sat := x.sat || sat }) s
          let hdr := fun (q : Bool × Bool × Nat × Bytes × Bool) (pm : Nat) =>
            { stepHdr id x pm with part := q.1, more := q.2.1, sat := sat, chunk := z.chunk, n := q.2.2.1,
                                   contrib := z.contrib }
          if !r.root then each parts (fun q s => plSend r.parent (hdr q 0x21) q.2.2.2.1 s) s
          else if r.rootOnly then
            let credit := { stepHdr id x 0x23 with sat := sat, chunk := z.chunk, contrib := z.contrib }
            let s := each r.children (fun c s => plSend c.1 credit [] s) s
            each parts (fun q s => leafDown id (hdr q 0x22) q.2.2.2.1 s)
              (modRun id (fun x => { x with down := x.down ++ [(0, z.chunk, 2)] }) (tackPlait id x 0 z.chunk s))
          else each parts (fun q s => goDown id 0 (hdr q 0x22) q.2.2.2.1 s) s

/-- A dense or SPARSE_SUM contribution reaches its slot (R267). A slot that another chunk holds, a second contribution of
one member, or a part out of order breaks the checks of R265. -/
def contribute (id ep : Nat) (h : PHdr) (data : Bytes) (s : State) : State :=
  match plaitAt s id with
  | none => s
  | some p => match p.run with
    | none => s
    | some x =>
      let r := plRec p.bytes
      let same := x.slots.find? fun z => z.chunk == h.chunk
      let clash := x.slots.any fun z => z.chunk % r.window == h.chunk % r.window && z.chunk != h.chunk
      let z := match same with
        | some z => z
        | none => emptySlot h.chunk (slotSize r h.chunk).1 (slotSize r h.chunk).2
      let past := x.seen.any fun d => d.2.1 == h.chunk
      if clash || past || z.from_.contains ep || h.part != z.half.contains ep then abortStep id (count 0xB060 9 s)
      else
        let (xs, sc) := if r.op = 3 then
            ((decodeEntries r.up h.n data).map fun e => (e.1 - 224 * h.chunk, e.2), [])
          else
            let (vs, sc) := decodeMsg r.up h.n data
            ((List.range vs.length).map fun i => (i, 0, vs.getD i (.fin 0 0)), sc)
        let z := fold r ep h.contrib h.more h.sat xs sc z
        let full := (contributors r).all fun e => z.from_.contains e
        let others := x.slots.filter fun y => y.chunk != h.chunk
        let s := modRun id (fun x =>
          { x with slots := if full then others else others ++ [z], sat := x.sat || h.sat,
                   seen := if full then x.seen ++ [(0, h.chunk, z.contrib)] else x.seen }) s
        if full then emitSlot id z s else s

/-- A GATHER or FILTER chunk on its way up (R267): forwarded unchanged, or at the root converted and sent down. -/
def passUp (id : Nat) (h : PHdr) (data : Bytes) (s : State) : State :=
  match plaitAt s id with
  | none => s
  | some p => match p.run with
    | none => s
    | some x =>
      let r := plRec p.bytes
      let ofChunk := x.seen.filter fun e => e.2.1 == h.chunk
      let sum := (ofChunk.map (·.2.2)).sum + h.contrib
      if (x.seen.any fun e => e.1 == h.rank && e.2.1 == h.chunk) ||
          (r.root && ofChunk.length + 1 == r.total && sum != r.total) then abortStep id (count 0xB060 9 s)
      else
        let s := modRun id (fun x => { x with seen := x.seen ++ [(h.rank, h.chunk, h.contrib)], sat := x.sat || h.sat }) s
        if !r.root then plSend r.parent h data s
        else match convSeed r s with
          | none => seedRefused id s
          | some (rnd, salt, s) =>
            let (b, sat) := if r.op = 5 then encodeEntries r.down rnd salt (decodeEntries r.up h.n data)
              else
                let e := encodeChunk r.down rnd salt [] (decodeMsg r.up h.n data).1
                (encMsg r.down e, e.sat)
            goDown id 0 { h with pmsg := 0x22, sat := h.sat || sat } b s

/-- Entries of the own leaf's list. -/
def leafEntries (r : PlRec) (x : PStep) : List Entry := decodeEntries r.src (num x.source 0 4) (x.source.drop 16)

/-- The own leaf's chunk `c` as values in place order, with the source bytes it covers. -/
def leafChunk (r : PlRec) (x : PStep) (c : Nat) : List Entry × Nat × Nat :=
  if r.op = 3 then
    (((leafEntries r x).filter fun e => e.1 / 224 == c).map fun e => (e.1 - 224 * c, e.2), 0, 0)
  else if r.op = 5 then (((leafEntries r x).drop (sparseCap r.up * c)).take (sparseCap r.up), 0, 0)
  else
    let n := chunkN r c
    let at_ := memBytes r.src (c * chunkLen r)
    let vs := (decodeMem r.src n (slice x.source at_ (memBytes r.src n))).1
    ((List.range n).map fun i => (i, 0, vs.getD i (.fin 0 0)), at_, memBytes r.src n)

/-- The own leaf sends its next chunk up (R266 step 3), to the parent or into the block's own slots. -/
def sendChunk (id : Nat) (s : State) : State :=
  match plaitAt s id with
  | none => s
  | some p => match p.run with
    | none => s
    | some x =>
      let r := plRec p.bytes
      let c := x.nextUp
      let (es, at_, len) := leafChunk r x c
      if at_ + len > x.source.length then
        (match x.rfail with | some st => endEarly id st stAborted [] s | none => s)
      else match convSeed r s with
        | none => seedRefused id s
        | some (rnd, salt, s) =>
          let parts := if r.op = 5 then
              (let (b, sat) := encodeEntries r.up rnd salt es
               [(false, false, es.length, b, sat)])
            else chunkParts r r.up rnd salt c es []
          let s := modRun id (fun x => { x with nextUp := c + 1, sat := x.sat || parts.any fun q => q.2.2.2.2 }) s
          each parts (fun q s =>
            let h := { stepHdr id x 0x21 with part := q.1, more := q.2.1, sat := q.2.2.2.2, chunk := c, n := q.2.2.1,
                                              contrib := 1, rank := if gatherOp r.op then r.rank else 0 }
            if gatherOp r.op then passUp id h q.2.2.2.1 s
            else if r.root || !r.children.isEmpty then contribute id 0 h q.2.2.2.1 s
            else plSend r.parent h q.2.2.2.1 s) s

/-- The source of the leaf's next chunk has been read, or cannot be. -/
def sourceReady (r : PlRec) (x : PStep) : Bool :=
  let c := leafChunk r x x.nextUp
  x.listed && (decide (c.2.1 + c.2.2 ≤ x.source.length) || x.rfail.isSome)

/-- Own chunks sent up and not finished (R266, R268). -/
def unfinished (r : PlRec) (x : PStep) : Nat :=
  x.nextUp - (x.down.filter fun d => d.2.2 != 0 && (!gatherOp r.op || d.1 == r.rank)).length

/-- The own leaf may send a chunk now. -/
def canSend (s : State) (id : Nat) : Bool :=
  match plaitAt s id with
  | none => false
  | some p => match p.run with
    | none => false
    | some x =>
      let r := plRec p.bytes
      r.leaf && x.desc.isSome && (!gatherOp r.op || x.go) && decide (x.nextUp < chunkCount r) &&
        decide (unfinished r x < r.window) && sourceReady r x

/-- Send what the window allows, and end the step when everything has come down. -/
def pumpPlait (id : Nat) : Nat → State → State
  | 0, s => settleStep id s
  | fuel + 1, s => if canSend s id then pumpPlait id fuel (sendChunk id s) else settleStep id s

/-- Everything that follows from a change of a plait's step. -/
def runPlait (id : Nat) (s : State) : State :=
  match plaitAt s id with
  | some p => pumpPlait id (chunkCount (plRec p.bytes)) s
  | none => s

/-! ### Readiness (R267) -/

/-- A child, or the own leaf as 0, is ready with `n` leaves: once all are, PL_READY goes up, or PL_GO down. -/
def readyFrom (id ep n : Nat) (s : State) : State :=
  match plaitAt s id with
  | none => s
  | some p => match p.run with
    | none => s
    | some x =>
      let r := plRec p.bytes
      let ready := if x.ready.contains ep then x.ready else x.ready ++ [ep]
      let sum := if x.ready.contains ep then x.leavesReady else x.leavesReady + n
      let s := modRun id (fun x => { x with ready := ready, leavesReady := sum }) s
      if x.ready.contains ep || !(contributors r).all (fun e => ready.contains e) then s
      else if !r.root then plSend r.parent { stepHdr id x 0x24 with contrib := sum } [] s
      else
        let s := each r.children (fun c s => plSend c.1 (stepHdr id x 0x25) [] s) s
        modRun id (fun x => { x with go := true }) s

/-! ### Endings from outside (R275) -/

/-- End the steps whose leaf's descriptor a test holds of. The descriptors themselves end as their own rules say. -/
def endLeafSteps (t : Nat → Bool) (own : Nat) (s : State) : State :=
  each s.plaits (fun e s => match e.2.run with
    | some x => (match x.desc with
      | some d => if t d then endEarly e.1 own stAborted [] s else s
      | none => s)
    | none => s) s

/-- End every step (R468). -/
def endAllSteps (s : State) : State := each s.plaits (fun e s => abortStep e.1 s) s

/-- Steps with groups sent on a port and not acknowledged, or waiting there (R195, R275). -/
def portSteps (x : Link) : List (Nat × Nat) :=
  (x.replay.filterMap fun g => match g.flits with
    | f :: _ => if (hdrOf f).vl = 3 then some (num g.head 2 2, num g.head 4 4) else none
    | [] => none) ++
  (x.queue.filterMap fun g => if g.vl = 3 then some (num g.body 2 2, num g.body 4 4) else none)

/-- A port leaves LINKED: the block's own steps with groups outstanding on it end with ABORTED. -/
def endPortSteps (l : List (Nat × Nat)) (s : State) : State :=
  each s.plaits (fun e s => match e.2.run with
    | some x => if l.contains (e.1, x.step) then abortStep e.1 s else s
    | none => s) s

/-- A contributing group failed its tag at this block (R189): the step ends with INTEGRITY. -/
def plaitTagFail (body : Bytes) (s : State) : State :=
  let id := num body 2 2
  match runOf s id with
  | some x => if x.step = num body 4 4 then endEarly id stIntegrity stIntegrity [] s else s
  | none => s

/-- Memory-object keys of a plait descriptor are no longer live (R275): KEY_GONE for its leaf. -/
def endPlaitKeys (s : State) : State :=
  let dead := fun (d : Nat) => match tget s.host.descs d with
    | some x => (objHandles x).any fun h =>
        let o := objAt s (hIdx h)
        o.kind == 1 && (match kidxAt s o.kidx with
          | some e => e.state == 2 || e.orphaned || !live s (pinHandle e.pin e.gen)
          | none => true)
    | none => false
  endLeafSteps dead stKeyGone s

/-- Delete a record (R247): its step ends, its scratch returns. -/
def dropPlait (id : Nat) (s : State) : State :=
  let s := abortStep id s
  { s with plaits := tdel s.plaits id,
           tension.scratch := s.tension.scratch.filter fun e => e.2.plait != some id }

end Sys2Proof.Machine
end

