-- ==== Sys2Proof/Machine/PlaitRows.lean ====
section
/-! DEFINITION. The commands of plaits: records, the PLAIT descriptor, messages and the step timeout (R243 to R277). -/

namespace Sys2Proof.Machine

/-! ### Records (R245, R247) -/

/-- A format OP allows (R248). -/
def fmtOk (op f : Nat) : Bool := if sparseOp op then decide (f ≤ 4) else decide (f ≤ 11)

/-- What R245 answers with RANGE. -/
def plaitRange (s : State) (b : Bytes) : Bool :=
  let w := num b 0 64
  let r := plRec b
  let named := [r.up, r.down] ++ (if r.leaf then [r.src, r.dst] else [])
  let eps := r.children.map (·.1)
  let members := bit r.leaf + r.children.length
  fld w 46 2 != 0 || fld w 106 6 != 0 || tbit w 143 || tbit w 151 || decide (w ≥ 2 ^ 192) ||
  decide (r.op > 5) || named.any (fun f => !fmtOk r.op f) || r.id == 0 ||
  (!r.leaf && (r.src != 0 || r.dst != 0 || r.part != 0)) ||
  r.count == 0 || (named.any isBlock && r.count % 32 != 0) || (r.op == 3 && decide (r.count > 2 ^ 24)) ||
  members == 0 || decide (members > 64) || decide (r.children.length > 64) || r.root != (r.parent == 0) ||
  r.total == 0 || decide (r.total > 16384) || decide (r.rank ≥ r.total) ||
  (r.rootOnly && (!r.root || !r.leaf || decide (r.op > 2))) || (r.leaf && profile s == 1) ||
  eps.any (fun e => e == 0 || e == 0xFFFF || e == ownEndpoint s || e == r.parent) || eps.eraseDups.length != eps.length ||
  (r.op != 5 && r.children.any fun c => c.2.1 != 0 || c.2.2 != 0) ||
  !zeros b (64 + 4 * r.children.length) (256 - 4 * r.children.length)

/-- PLAIT_CREATE (R245, R246, R468). -/
def ownPlaitCreate (v : Bytes) (s : State) : Own :=
  let r := plRec v
  let partLive := match tget s.parts r.part with | some p => p.state == 1 | none => false
  match firstAbort [(plaitRange s v, abRange), (s.recovery.quarantined, abState), (thas s.plaits r.id, abState),
      (r.leaf && !partLive, abState), (decide (s.plaits.length ≥ 1024), abBusy)], reserveSlots s r with
  | some a, _ => .abort a
  | none, none => .abort abBusy
  | none, some slots =>
    let p : Plait := { bytes := v, run := none, last := none, leafStep := none, slots := slots }
    let own : Scratch := { partition := if r.leaf then some r.part else none, context := none, plait := some r.id,
                           provisional := false }
    .ok { s with plaits := tput s.plaits r.id p,
                 tension.scratch := slots.flatten.foldl (fun t k => tput t k own) s.tension.scratch }

def execPlaitCreate (r : OdReq) (v : Bytes) (s : State) : Host.Outcome State Fault Refusal :=
  .next (odWrite r 0x6011 1 v (ownPlaitCreate v) s)

/-- PLAIT_DELETE (R247). -/
def ownPlaitDelete (v : Nat) (s : State) : Own := guarded [(!thas s.plaits v, abState)] (dropPlait v s)

def execPlaitDelete (r : OdReq) (v : BitVec 16) (s : State) : Host.Outcome State Fault Refusal :=
  .next (odWrite r 0x6011 2 (le 2 v.toNat) (ownPlaitDelete v.toNat) s)

/-! ### The PLAIT descriptor (R266, R269, R270) -/

/-- What is wrong with the header of the leaf's sparse list (R249): 0 when nothing is. -/
def listHead (s : State) (d : Desc) (r : PlRec) (b : Bytes) : Nat :=
  if !zeros b 4 12 || decide (num b 0 4 > r.count) then stMalformed
  else if num d.bytes 16 8 + 16 + num b 0 4 * entryBytes r.src > (objAt s (hIdx (num d.bytes 8 4))).length then stDenied
  else stDone

/-- The list's indices keep R249. -/
def listSorted (r : PlRec) (b : Bytes) : Bool :=
  ascending 0 (if r.op = 3 then r.count else 2 ^ 24) (decodeEntries r.src (num b 0 4) (b.drop 16))

/-- What has been read of a sparse list is checked: the header, which says how much more there is, then the entries. -/
def listRead (id k : Nat) (d : Desc) (r : PlRec) (x : PStep) (s : State) : State :=
  let n := num x.source 0 4
  let passed := fun (s : State) => modRun id (fun x => { x with listed := true }) s
  match x.rfail with
  | some st => endEarly id st stAborted [] s
  | none =>
    if x.source.length ≤ 16 then
      (if listHead s d r x.source ≠ stDone then endEarly id (listHead s d r x.source) stAborted [] s
       else if n = 0 then passed s
       else askRead k (num d.bytes 8 4) (num d.bytes 16 8 + 16) (n * entryBytes r.src) s)
    else if listSorted r x.source then passed s
    else endEarly id stMalformed stAborted [] s

/-- The leaf's descriptor runs the step (R266 steps 2 and 3): held messages apply, its source is read. -/
def runLeaf (id k : Nat) (d : Desc) (r : PlRec) (s : State) : State :=
  let held := match runOf s id with | some x => x.held | none => []
  let s := { s with plaits := tmod s.plaits id fun p =>
    { p with leafStep := some (num d.bytes 32 4), run := p.run.map fun x => { x with desc := some k, held := [] } } }
  let s := askRead k (num d.bytes 8 4) (num d.bytes 16 8) (plaitSizes r).1 (openDesc k d 0 s)
  let s := each held (fun h s => if (phdrOf h.hdr).pmsg = 0x22 then leafDown id (phdrOf h.hdr) h.data s else s) s
  runPlait id (nextAccess k (if gatherOp r.op then readyFrom id 0 1 s else s))

/-- The leaf's descriptor goes on: what its accesses gave is taken in, the next one made, and what has been read goes
up. -/
def leafTurn (id k : Nat) (d : Desc) (s : State) : State :=
  let s := modXfer k settleAccess s
  match tget s.host.xfers k, plaitAt s id with
  | some j, some p =>
    let r := plRec p.bytes
    (match j.wfail with
     | some (st, _) => endEarly id st stAborted [] s
     | none =>
       let s := modRun id (fun x => { x with source := x.source ++ j.buf, rfail := j.rfail.map (·.1) }) (takeBuf k 0 s)
       let reading := !j.reads.isEmpty || match j.acc with | some a => !a.write | none => false
       let s := match runOf s id with
         | some x => if x.listed || reading then s else listRead id k d r x s
         | none => s
       runPlait id (nextAccess k s))
  | _, _ => s

/-- PLAIT (R266). A running step with another, lower number keeps the descriptor waiting. The command is given again until
the step has ended (log entry 42). -/
def execPlait (d : Nat) (s : State) : Host.Outcome State Fault Refusal :=
  .next (match descFor s d 0x02 with
    | none => s
    | some x =>
      let id := num x.bytes 44 2
      let step := num x.bytes 32 4
      let join := num x.bytes 36 8
      if thas s.host.xfers d then leafTurn id d x s
      else match plaitAt s id with
      | none => setOutcome d stDenied 0 0 0 s
      | some p =>
        let r := plRec p.bytes
        let packaged := (objHandles x).all fun h => (objAt s (hIdx h)).kind == 1
        if !r.leaf || r.part ≠ descPart s x || !packaged then setOutcome d stDenied 0 0 0 s
        else if (match lastStep p with | some l => decide (step < l) | none => false) || p.leafStep = some step then
          setOutcome d stMalformed 0 0 0 s
        else match p.run with
          | some run =>
            if run.step ≠ step then s
            else if run.join ≠ join then
              abortStep id (modRun id (fun y => { y with desc := some d }) (count 0xB060 7 s))
            else runLeaf id d x r s
          | none =>
            if p.last = some step then setOutcome d stAborted 0 0 0 s
            else runLeaf id d x r (startStep id step join s))

/-! ### Messages (R265, R267) -/

/-- The fields and data of a message agree with its record (R253 to R255, R263, R264). -/
def plMsgOk (r : PlRec) (m : PMsg) : Bool :=
  let h := phdrOf m.hdr
  let f := if h.pmsg = 0x21 then r.up else r.down
  let folds := decide (1 ≤ h.contrib) && decide (h.contrib ≤ 16384)
  let dataOk :=
    if sparseOp r.op then
      decide (h.n ≤ sparseCap f) && m.data.length == h.n * entryBytes f && (!h.more || h.n == sparseCap f) &&
      (if r.op = 3 then ascending (224 * h.chunk) (Nat.min (224 * h.chunk + 224) r.count) (decodeEntries f h.n m.data)
       else ascending 0 (2 ^ 24) (decodeEntries f h.n m.data))
    else h.n == chunkN r h.chunk && m.data.length == msgBytes f h.n
  phdrReserved m.hdr && (h.pmsg == 0x26 || h.status == 0) && (r.op == 3 || (!h.part && !h.more)) && !(h.part && h.more) &&
  (if h.pmsg = 0x21 || h.pmsg = 0x22 then
     decide (h.chunk < chunkCount r) && dataOk && (h.pmsg == 0x22 || folds) &&
     (if gatherOp r.op then decide (h.rank < r.total) else h.rank == 0)
   else m.data.isEmpty && h.n == 0 && h.rank == 0 && !h.part && !h.more &&
     (if h.pmsg = 0x23 then decide (h.chunk < chunkCount r) else h.chunk == 0) && (h.pmsg != 0x24 || folds) &&
     (h.pmsg != 0x26 || h.status == stAborted || h.status == stIntegrity))

/-- A message type that the record uses, from the right neighbour. Whether a step is ROOT_ONLY is the root's record's
DELIVERY, which no other member holds (R245); its credits are those of SUM, MAX and MIN. -/
def plDirection (r : PlRec) (m : PMsg) : Bool :=
  let pm := (phdrOf m.hdr).pmsg
  let up := r.children.any fun c => c.1 == m.srcEp
  let down := !r.root && m.srcEp == r.parent
  if pm = 0x21 then up
  else if pm = 0x24 then up && gatherOp r.op
  else if pm = 0x22 then down
  else if pm = 0x23 then down && decide (r.op ≤ 2)
  else if pm = 0x25 then down && gatherOp r.op
  else pm == 0x26 && (up || down)

/-- A plait message for another member is forwarded by a switch (R208). -/
def plForward (m : PMsg) (s : State) : State :=
  if profile s ≠ 1 then s
  else match pickPort s m.dstEp 0 true with
    | some p => sendMessage p 3 m.dstEp m.srcEp (le 32 m.hdr.toNat ++ m.data) [] (emit (.plait p m) s)
    | none => s

/-- A plait message of a type (R265, R270, R468): the checks in the order of their table, then what it does. -/
def plRow (pm : Nat) (m : PMsg) (act : PlRec → PHdr → State → State) (s : State) : State :=
  let h := phdrOf m.hdr
  if !running s then s
  else if m.dstEp ≠ ownEndpoint s then plForward m s
  else if h.pmsg ≠ pm then s
  else if s.recovery.quarantined then
    plSend m.srcEp { h with pmsg := 0x26, part := false, more := false, sat := false, chunk := 0, status := stAborted,
                            rank := 0, n := 0, contrib := 0 } [] s
  else match plaitAt s h.id with
    | none => count 0xB060 9 s
    | some p =>
      let r := plRec p.bytes
      let stale := match p.run, p.last with
        | some x, _ => decide (h.step < x.step)
        | none, some l => decide (h.step ≤ l)
        | none, none => false
      if !plDirection r m then count 0xB060 9 s
      else if stale then count 0xB060 8 s
      else
        let s := match p.run with
          | some x => if x.step = h.step then s else startStep h.id h.step h.join s
          | none => startStep h.id h.step h.join s
        match runOf s h.id with
        | none => s
        | some x =>
          if x.join ≠ h.join then abortStep h.id (count 0xB060 7 s)
          else if !plMsgOk r m then abortStep h.id (count 0xB060 9 s)
          else runPlait h.id (act r h s)

/-- PL_UP (R267). -/
def execPlUp (m : PMsg) (s : State) : Host.Outcome State Fault Refusal :=
  .next (plRow 0x21 m (fun r h s =>
    if gatherOp r.op then passUp h.id h m.data s else contribute h.id m.srcEp h m.data s) s)

/-- A downward chunk that has come down before, or a second part without its first. -/
def downTwice (s : State) (h : PHdr) : Bool :=
  match runOf s h.id with
  | none => false
  | some x => x.down.any (fun d => d.1 == h.rank && d.2.1 == h.chunk && (d.2.2 != 0 || !h.part)) ||
      (h.part && !x.down.any fun d => d.1 == h.rank && d.2.1 == h.chunk)

/-- PL_DOWN (R266, R267). -/
def execPlDown (m : PMsg) (s : State) : Host.Outcome State Fault Refusal :=
  .next (plRow 0x22 m (fun _ h s =>
    if downTwice s h then abortStep h.id (count 0xB060 9 s) else goDown h.id m.srcEp h m.data s) s)

/-- PL_CREDIT (R266, R267). -/
def execPlCredit (m : PMsg) (s : State) : Host.Outcome State Fault Refusal :=
  .next (plRow 0x23 m (fun _ h s =>
    if downTwice s h then abortStep h.id (count 0xB060 9 s) else goDown h.id m.srcEp h [] s) s)

/-- PL_READY (R267). -/
def execPlReady (m : PMsg) (s : State) : Host.Outcome State Fault Refusal :=
  .next (plRow 0x24 m (fun _ h s => readyFrom h.id m.srcEp h.contrib s) s)

/-- PL_GO (R267): the own leaf may send, and every child is told. -/
def execPlGo (m : PMsg) (s : State) : Host.Outcome State Fault Refusal :=
  .next (plRow 0x25 m (fun r h s =>
    modRun h.id (fun x => { x with go := true }) (each r.children (fun c s => plSend c.1 h [] s) s)) s)

/-- PL_ABORT (R274, R275): the step ends in the same way; a leaf without a tag failure of its own reports ABORTED. -/
def execPlAbort (m : PMsg) (s : State) : Host.Outcome State Fault Refusal :=
  .next (plRow 0x26 m (fun _ h s => endEarly h.id stAborted h.status [m.srcEp] s) s)

/-- PLAIT_STEP_TIMEOUT (R273): due once the step's timeout has passed. -/
def execPlaitStepTimeout (id : Nat) (s : State) : Host.Outcome State Fault Refusal :=
  .next (match runOf s id with
    | some x => if s.tick < x.startTick + x.limit then s else abortStep id (count 0xB060 5 s)
    | none => s)

/-! ### After an invalidation -/

/-- Everything that used a key which is no longer live ends with KEY_GONE (R128, R148, R215, R240, R275). -/
def endKeyUsers (s : State) : State := endPlaitKeys (endOrphans (endHandovers s))

end Sys2Proof.Machine
end

