-- ==== Sys2Proof/Machine/KeyRows.lean ====
section
/-! DEFINITION. The rows of the key island that end operations or let held ones go: invalidation, its sweep, unbinding, and
the fills of the pin cache (R122, R125 to R129). -/

namespace Sys2Proof.Machine

/-- PIN_INVALIDATE (R127). -/
def execPinInvalidate (r : OdReq) (v : BitVec 32) (s : State) : Host.Outcome State Fault Refusal :=
  .next (endKeyUsers (odWrite r 0x2002 1 (le 4 v.toNat) (ownPinInvalidate v.toNat) s))

/-- The sweep of a running invalidation (R128 steps 5 and 6): due once no admitted passage uses the subtree. -/
def execInvalidationSweep (pin : Nat) (s : State) : Host.Outcome State Fault Refusal :=
  .next (if thas s.keys.inval pin && !subtreeInUse s pin then afterFabric (sweep pin (endKeyUsers s)) else s)

/-- KIDX_UNBIND (R122). -/
def execKidxUnbind (r : OdReq) (v : BitVec 16) (s : State) : Host.Outcome State Fault Refusal :=
  .next (endKeyUsers (odWrite r 0x2101 2 (le 2 v.toNat) (ownKidxUnbind v.toNat) s))

/-- A derivation engine has filled the oldest miss (R125, R126): what waited for the pin is offered again. -/
def execPinCacheFillDone (s : State) : Host.Outcome State Fault Refusal := .next (retryHeld (fillPin s))

end Sys2Proof.Machine
end

