-- ==== Sys2Proof/Machine/PortRows.lean ====
section
/-! DEFINITION. The commands of the mesh and memory ports: credits, inbound requests, memory reads (R53 to R68, R142 to
R148, R209, R227, R231). -/

namespace Sys2Proof.Machine

/-- The block has this port (R51). -/
def portExists (s : State) : PortId → Bool
  | .mesh n => decide (n < meshPortsOf s.cfg)
  | .mem n => decide (n < memPortsOf s.cfg)
  | .link n => decide (n < linkPortsOf s.cfg)
  | .gangA | .gangB | .flash => true

/-- CREDIT_RETURN (R53, R58, R65): what waits for the credits is sent, what tension holds for them is offered again. -/
def execCreditReturn (p : PortId) (cls n : Nat) (s : State) : Host.Outcome State Fault Refusal :=
  if !portExists s p then .fault .noSuchPort
  else
    let takes := match p with
      | .mesh _ => decide (cls ≤ 1)
      | .mem _ | .gangA | .gangB => cls == 0
      | .link _ | .flash => false
    .next (if !takes || !portUp s p then s
      else retryHeld (flushWaiting
        { s with ports.owned := creditSet s.ports.owned p cls (creditOf s.ports.owned p cls + n) }))

/-- BEAT_WITHOUT_CREDIT (R54). -/
def execBeatWithoutCredit (p : PortId) (cls : Nat) (s : State) : Host.Outcome State Fault Refusal :=
  if !portExists s p then .fault .noSuchPort
  else
    let counts := match p with
      | .mesh _ => decide (cls ≤ 5)
      | .gangA | .gangB => cls == 0
      | .mem _ | .link _ | .flash => false
    .next (if counts && portUp s p && creditOf s.ports.granted p cls = 0 then count 0xB031 1 s else s)

/-! ### Inbound mesh requests (R56 to R61) -/

/-- An inbound request arrives at its port (R53, R54, R57 to R59): ignored while the port is not enabled, discarded
without a credit, answered MALFORMED when it breaks the header's rules or reuses a tag, else presented to tension. -/
def meshArrive (q : MeshReq) (s : State) : State :=
  match takeGrant q s with
  | none => s
  | some t =>
    if !underCredit s q then t
    else if !meshWellFormed q || tagReused s q then meshRefuse q stMalformed t
    else present q t

/-- A request of the row's kind (TGT and OPC), or one that breaks the header's rules and is no register request. -/
def meshRow (tgt opc : Nat) (q : MeshReq) (s : State) : Host.Outcome State Fault Refusal :=
  if q.port ≥ meshPortsOf s.cfg then .fault .noSuchPort
  else .next (if ((mhdrOf q).tgt = tgt && (mhdrOf q).opc = opc) || ((mhdrOf q).tgt ≠ 0 && !meshWellFormed q) then
    meshArrive q s else s)

/-- MESH_PKG_READ (R63, R142, R145). -/
def execMeshPkgRead (q : MeshReq) (s : State) : Host.Outcome State Fault Refusal := meshRow 1 1 q s

/-- MESH_PKG_WRITE (R145, R146). -/
def execMeshPkgWrite (q : MeshReq) (s : State) : Host.Outcome State Fault Refusal := meshRow 1 2 q s

/-- MESH_FABRIC_READ (R209). -/
def execMeshFabricRead (q : MeshReq) (s : State) : Host.Outcome State Fault Refusal := meshRow 2 1 q s

/-- MESH_FABRIC_WRITE (R209, R225). -/
def execMeshFabricWrite (q : MeshReq) (s : State) : Host.Outcome State Fault Refusal := meshRow 2 2 q s

/-- MESH_FABRIC_ATOMIC (R231). -/
def execMeshFabricAtomic (q : MeshReq) (s : State) : Host.Outcome State Fault Refusal := meshRow 2 3 q s

/-- MESH_FABRIC_FENCE (R227). -/
def execMeshFabricFence (q : MeshReq) (s : State) : Host.Outcome State Fault Refusal := meshRow 2 4 q s

/-- MERGE_WINDOW_EXPIRE (R146). -/
def execMergeWindowExpire (entry : Nat) (s : State) : Host.Outcome State Fault Refusal :=
  .next (retryHeld (closeMerge entry s))

/-! ### Memory reads (R65 to R68, R143, R148) -/

/-- Line `i` of an outstanding read has come back. -/
def memLineDone (m : MemRead) (i st : Nat) (plain : Bytes) (s : State) : State :=
  let s := match m.entry with | some k => mergeReadDone k st plain s | none => s
  match m.req with
  | some n => lineDone n (m.firstLine + i) st plain s
  | none => s

/-- MEM_READ_DATA (R66, R67, R143): each line is decrypted under its key index, one with an error ends POISONED; an unknown
tag is counted. -/
def execMemReadData (port : Nat) (tag : BitVec 10) (data : Bytes) (lerr : BitVec 8) (s : State) :
    Host.Outcome State Fault Refusal :=
  if port ≥ memPortsOf s.cfg then .fault .noSuchPort
  else
    let key := port * 1024 + tag.toNat
    .next (if profile s ≠ 2 && !portUp s (.mem port) then s
      else match tget s.ports.memReads key with
        | none => count 0xB031 2 s
        | some m =>
          let s := { s with ports.memReads := tdel s.ports.memReads key }
          retryHeld (each (List.range m.lines) (fun i s =>
            let lane := (m.laddr + i) % 8
            if lerr.getLsbD lane then memLineDone m i stPoisoned [] s
            else memLineDone m i stDone
              (Config.xtsDec (kidxKey s m.kidx) (xtsUnit (m.laddr + i) m.kidx) (slice data (64 * lane) 64)) s) s))

/-- MEM_READ_TIMEOUT (R66): due 1,000 ticks after the read was issued. -/
def execMemReadTimeout (port : Nat) (tag : BitVec 10) (s : State) : Host.Outcome State Fault Refusal :=
  if port ≥ memPortsOf s.cfg then .fault .noSuchPort
  else
    let key := port * 1024 + tag.toNat
    .next (match tget s.ports.memReads key with
      | none => s
      | some m =>
        if s.tick < m.issueTick + 1000 then s
        else
          let s := count 0xB031 3 { s with ports.memReads := tdel s.ports.memReads key }
          retryHeld (each (List.range m.lines) (fun i s => memLineDone m i stPoisoned [] s) s))

/-- Raise the enable of a memory port whose controller is ready (R65); the tray profile leaves its memory ports unused
(R68). -/
def enableMem (n : Nat) (s : State) : State :=
  if s.power.ctlRdy.contains n && !s.power.enabled.contains (.mem n) && profile s ≠ 2 then
    { s with power.enabled := .mem n :: s.power.enabled }
  else s

/-- MEM_CTL_RDY_FALL (R67): the port's enable is lowered and every credit is void (R54). -/
def execMemCtlRdyFall (port : Nat) (s : State) : Host.Outcome State Fault Refusal :=
  if port ≥ memPortsOf s.cfg then .fault .noSuchPort
  else .next (dropWaiting (.mem port)
    { s with power.ctlRdy := s.power.ctlRdy.filter (· != port),
             power.enabled := s.power.enabled.filter (· != .mem port) })

/-- MEM_CTL_RDY_RISE (R65): the port's enable rises, at once or with the other ports at start-up step 10, and the controller
grants between 1 and 256 command credits. -/
def execMemCtlRdyRise (port credits : Nat) (s : State) : Host.Outcome State Fault Refusal :=
  if port ≥ memPortsOf s.cfg then .fault .noSuchPort
  else
    let n := Nat.max 1 (Nat.min 256 credits)
    .next (if profile s = 2 || s.power.ctlRdy.contains port then s
      else
        let s := { s with power.ctlRdy := port :: s.power.ctlRdy, ports.owned := creditSet s.ports.owned (.mem port) 0 n }
        if running s && !s.power.retention && !s.power.quiesced then retryHeld (flushWaiting (enableMem port s)) else s)

end Sys2Proof.Machine
end

