-- ==== Sys2Proof/Machine/Tension.lean ====
section
/-! DEFINITION. Tension: classes, tickets and credits of units, admission, issue and egress, and reserved positions
(R22 to R50, R92, R485). -/

namespace Sys2Proof.Machine

/-! ### Ports and islands (R29, R51) -/

/-- A port as a number. -/
def portCode : PortId → Nat
  | .mesh n => n
  | .mem n => 64 + n
  | .link n => 128 + n
  | .gangA => 192
  | .gangB => 193
  | .flash => 194

/-- The island of an ingress port. -/
def portIsland (s : State) : PortId → Nat
  | .mesh _ => 2
  | .mem _ => 3
  | .link n => linkIsland s n
  | .gangA | .gangB => 1
  | .flash => 0

/-! ### Reservations (R37, R40, R41, R485) -/

/-- RESERVED_SLOTS of a partition. -/
def reservedSlots (s : State) (p : Nat) : Nat := setting s 0x7400 (p + 1)

/-- The class a unit is admitted in (R485): 0 reserved, 1 to 5. -/
def effClass (s : State) (u : UnitDesc) : Nat :=
  if u.cls ≠ 0 then u.cls
  else match u.partition with
    | some p => if profile s = 0 && reservedSlots s p ≠ 0 then 0 else 1
    | none => 1

def pillowAt (s : State) (k : Nat) : Pillow := tgetD s.tension.pillows k { frames := 0, taken := [], releasing := [] }

/-- Positions of a pillow that serve a partition, oldest first. -/
def positions (s : State) (k p : Nat) : List Nat := ((pillowAt s k).taken.filter fun e => e.2 == p).map (·.1)

/-- Ticket cycles of a partition's pool at a pillow (R40). -/
def ticketPool (s : State) (k p : Nat) : Nat := 64 * (positions s k p).length

/-- Ticket cycles out of the pool. -/
def ticketsOut (s : State) (k p : Nat) : Nat := tgetD s.tension.ticketsOut (p * 64 + k) 0

/-- The pillow that the next unit is offered to: round robin. -/
def nextPillow (s : State) : Nat := s.tension.nextUnit % pillowsOf s.cfg

/-- What an ingress island's grants of a partition and pillow hold. -/
def grantLeft (s : State) (i p k : Nat) : Nat :=
  match s.tension.grants.find? fun g => g.island == i && g.partition == p && g.pillow == k with
  | some g => g.left
  | none => 0

/-- Grants of 32 to draw for a cost (R40). -/
def grantsNeeded (s : State) (i p k cost : Nat) : Nat := ceilDiv (cost - grantLeft s i p k) 32

/-- Tickets cover a cost. -/
def ticketsCover (s : State) (i p k cost : Nat) : Bool :=
  decide (ticketsOut s k p + 32 * grantsNeeded s i p k cost ≤ ticketPool s k p)

/-- Draw the grants a unit needs and spend its cost. -/
def spendTickets (i p k cost : Nat) (s : State) : State :=
  let n := grantsNeeded s i p k cost
  let g : Grant := { island := i, partition := p, pillow := k, left := grantLeft s i p k + 32 * n - cost,
                     lastFrame := (pillowAt s k).frames }
  { s with tension.ticketsOut := tput s.tension.ticketsOut (p * 64 + k) (ticketsOut s k p + 32 * n),
           tension.grants := g :: s.tension.grants.filter fun x => !(x.island == i && x.partition == p && x.pillow == k) }

/-! ### Bobbins (R22, R23, R26) -/

/-- The bobbins of a pillow. -/
def bobbinsIn (s : State) (k : Nat) : List Nat :=
  (List.range (lastPillowOf s.cfg)).map (k * lastPillowOf s.cfg + ·)

def backlogOf (s : State) (b : Nat) : Nat := tgetD s.tension.backlog b 0

/-- The bobbin with the smallest best-effort backlog (R26). -/
def leastBobbin (s : State) (k : Nat) : Nat :=
  match bobbinsIn s k with
  | [] => 0
  | b :: bs => bs.foldl (fun m x => if backlogOf s x < backlogOf s m then x else m) b

/-- Pins of a unit take their round-key slots, most recently used first (R23): 16 slots; one that an issued unit still
uses is not overwritten. -/
def loadKeys (b : Nat) (pins : List Nat) (s : State) : State :=
  let used := fun h => s.tension.units.any fun e => e.2.issued && e.2.bobbin == b && e.2.desc.pins.contains h
  let put := fun (l : List Nat) h =>
    let rest := l.filter (· != h)
    if rest.length < 16 then h :: rest
    else match rest.reverse.find? fun x => !used x with
      | some v => h :: rest.filter (· != v)
      | none => h :: rest.take 15
  { s with tension.roundKeys := tput s.tension.roundKeys b (pins.foldl put (tgetD s.tension.roundKeys b [])) }

/-! ### The conditions of R38 -/

/-- A downstream credit is held (R38). -/
def downstream (s : State) (u : UnitDesc) : Bool :=
  match u.egress with
  | .mesh n => portUp s (.mesh n) && (decide (0 < creditOf s.ports.owned (.mesh n) 0) ||
      decide (0 < creditOf s.ports.owned (.mesh n) 1))
  | .mem n => portUp s (.mem n) && decide (0 < creditOf s.ports.owned (.mem n) 0)
  | .link n => linked s n && decide (0 < nth (linkAt s n).credits u.vl 0)
  | .gangA | .gangB | .flash => true

/-- Units that hold entries of an egress port. -/
def atEgress (s : State) (p : PortId) (t : UnitRec → Bool) : Nat :=
  tcount s.tension.units fun _ u => u.desc.egress == p && t u

/-- Egress credits, the reorder buffer and the downstream credit (R35, R38, R41). -/
def egressFree (s : State) (u : UnitDesc) (cls : Nat) : Bool :=
  let part := u.partition.getD 0
  decide (atEgress s u.egress (fun _ => true) < 512) && downstream s u &&
  (if cls = 0 then decide (atEgress s u.egress (fun x => x.cls == 0) < 64) &&
      decide (atEgress s u.egress (fun x => x.cls == 0 && x.desc.partition == u.partition) < Nat.max 1 (reservedSlots s part))
   else decide (atEgress s u.egress (fun x => x.cls != 0) < 128))

/-- The HOLD counters (R44) whose conditions hold a unit back: 1 tickets or backlog, 2 egress, 3 key, 4 tally, 5 span. -/
def unitBars (s : State) (u : UnitDesc) : List Nat :=
  let cls := effClass s u
  let k := nextPillow s
  let room := if cls = 0 then ticketsCover s (portIsland s u.ingress) (u.partition.getD 0) k u.cost
    else decide (backlogOf s (leastBobbin s k) + u.cost ≤ 512)
  let tally := (match u.path with | some (slot, leaf) => pathResident s slot leaf | none => true) &&
    decide (nodesBooked s + u.booked ≤ 8192)
  let span := match u.path with
    | some (slot, leaf) => (match nodeAt s slot 0 leaf with | some n => n.shadow.isSome | none => false)
    | none => false
  [(!room, 1), (!egressFree s u cls, 2), (!u.pins.all (cached s), 3), (!tally, 4), (span, 5)].filterMap fun c =>
    if c.1 then some c.2 else none

/-- The status a unit completes with instead of entering (R38, R49): KEY_GONE for a pin or a region that is gone. -/
def unitEnds (s : State) (u : UnitDesc) : Option Nat :=
  if u.pins.any fun h => !live s h then some stKeyGone
  else match u.path with
    | some (slot, _) => (match regionAt s slot with
      | some r => if live s (pinHandle r.pin r.pinGen) then none else some stKeyGone
      | none => some stKeyGone)
    | none => none

/-- What the block does for a held unit (R38), and the counters it advances once each (R44). -/
def tendHeld (e : UnitDesc × List Nat) (s : State) : State :=
  let bars := unitBars s e.1
  let new := bars.filter fun b => !e.2.contains b
  let s := each new (fun b s => count 0xB030 b s) s
  let s := if bars.contains 3 then each (e.1.pins.filter fun h => !cached s h) missPin s else s
  let s := match e.1.path with
    | some (slot, leaf) => if pathResident s slot leaf then s else walkFor slot leaf (if e.1.vl = 1 then 1 else 4) s
    | none => s
  { s with tension.held := s.tension.held.map fun x => if x == e then (x.1, x.2 ++ new) else x }

/-! ### Admission (R38 to R43, R50) -/

/-- Units in their holding slots: the first of each ingress port and class. -/
def holdingSlots : List (UnitDesc × List Nat) → List (PortId × Nat) → List (UnitDesc × List Nat)
  | [], _ => []
  | e :: es, seen =>
    if seen.contains (e.1.ingress, e.1.cls) then holdingSlots es seen
    else e :: holdingSlots es ((e.1.ingress, e.1.cls) :: seen)

/-- Throttling (R92): at level t a pillow lets (8 − t) of every 8 opportunities admit a best-effort unit. The opportunity
a unit is admitted at, counting from the next one. -/
def throttled (s : State) (k : Nat) : Nat :=
  let o := tgetD s.tension.turns k 0
  if o % 8 < 8 - s.power.throttle then o else o + (8 - o % 8)

/-- The stream of a unit (R35). -/
def streamOf (s : State) (u : UnitDesc) : Stream :=
  match s.tension.streams.find? fun x =>
    x.ingress == u.ingress && x.egress == u.egress && x.vl == u.vl && x.dst == u.dst with
  | some x => x
  | none => { ingress := u.ingress, egress := u.egress, vl := u.vl, dst := u.dst, give := 0, release := 0 }

def putStream (x : Stream) (s : State) : State :=
  { s with tension.streams := x :: s.tension.streams.filter fun y =>
      !(y.ingress == x.ingress && y.egress == x.egress && y.vl == x.vl && y.dst == x.dst) }

/-- Accept a unit that no condition holds back. -/
def admitUnit (u : UnitDesc) (s : State) : State :=
  let cls := effClass s u
  let k := nextPillow s
  let part := u.partition.getD 0
  let bobbin := if cls = 0 then (positions s k part).headD 0 / 4 else leastBobbin s k
  let x := streamOf s u
  let rec_ : UnitRec := { desc := u, cls := cls, pillow := k, bobbin := bobbin, seq := x.give % 65536, issued := false }
  let n := s.tension.nextUnit
  let s := each u.pins touchPin s
  let s := match u.path with | some (slot, leaf) => touchPath slot leaf s | none => s
  let s := putStream { x with give := x.give + 1 } s
  let s := { s with tension.units := tput s.tension.units n rec_, tension.nextUnit := n + 1,
                    tension.bookedNodes := s.tension.bookedNodes + u.booked }
  if cls = 0 then count 0xB000 1 (spendTickets (portIsland s u.ingress) part k u.cost s)
  else
    let o := throttled s k
    let late := decide (o ≠ tgetD s.tension.turns k 0)
    let s := { s with tension.backlog := tput s.tension.backlog bobbin (backlogOf s bobbin + u.cost),
                      tension.turns := tput s.tension.turns k (o + 1) }
    let s := match u.partition with
      | some p => { s with tension.admitted := tput s.tension.admitted p (tgetD s.tension.admitted p 0 + 1),
                           tension.delayed := if late then
                             tput s.tension.delayed p (tgetD s.tension.delayed p 0 + 1) else s.tension.delayed }
      | none => s
    count 0xB000 2 s

/-- Weights of B1 to B5 (R37). -/
def classWeights : List Nat := [8, 4, 2, 1, 1]

/-- Turns left in a port's round of classes (R43). -/
def turnsLeft (s : State) (port : Nat) : List Nat := tgetD s.tension.wrr port classWeights

/-- The candidate of a port that goes next: the reserved one, else by the round of weights. -/
def portChoice (s : State) (port : Nat) (cs : List (UnitDesc × List Nat)) : Option (UnitDesc × List Nat) × List Nat :=
  let left := turnsLeft s port
  match cs.find? fun e => effClass s e.1 == 0 with
  | some e => (some e, left)
  | none =>
    let byClass := fun (l : List Nat) => (List.range 5).findSome? fun c =>
      if nth l c 0 = 0 then none else cs.find? fun e => effClass s e.1 == c + 1
    let take := fun (l : List Nat) (e : UnitDesc × List Nat) =>
      setNth l (effClass s e.1 - 1) (nth l (effClass s e.1 - 1) 0 - 1)
    match byClass left with
    | some e => (some e, take left e)
    | none => match byClass classWeights with
      | some e => (some e, take classWeights e)
      | none => (none, left)

/-- The next port of an island after the one served last (R50). -/
def nextPort (last : Nat) (ports : List Nat) : Option Nat :=
  match ports.filter (· > last) with
  | p :: ps => some (ps.foldl Nat.min p)
  | [] => match ports with
    | p :: ps => some (ps.foldl Nat.min p)
    | [] => none

/-- Which waiting unit of a port and class takes the holding slot next: deficit round robin over partitions (R43), the
partition with the largest deficit, whose BOBBIN_SHARE every waiting partition gains. -/
def refillSlot (port : PortId) (cls : Nat) (s : State) : State :=
  let mine := s.tension.held.filter fun e => e.1.ingress == port && e.1.cls == cls
  let key := fun (e : UnitDesc × List Nat) => portCode port * 4096 + cls * 64 + e.1.partition.getD 0
  let parts := (mine.map key).eraseDups
  let gain := fun (t : Tbl Nat) => parts.foldl (fun t k => tput t k (tgetD t k 0 + setting s 0x7401 (k % 64 + 1))) t
  let drr := gain s.tension.drr
  match mine with
  | [] => s
  | e :: es =>
    let best := es.foldl (fun m x => if tgetD drr (key m) 0 < tgetD drr (key x) 0 then x else m) e
    let rest := s.tension.held.filter (· != best)
    { s with tension.held := best :: rest,
             tension.drr := tput drr (key best) (tgetD drr (key best) 0 - best.1.cost) }

/-- Take a unit out of the list of held ones. -/
def dropHeld (e : UnitDesc × List Nat) (s : State) : State :=
  let s := { s with tension.held := s.tension.held.erase e }
  if s.tension.held.any fun x => x.1.ingress == e.1.ingress && x.1.cls == e.1.cls then
    refillSlot e.1.ingress e.1.cls s
  else s

/-- One admission decision: units whose key is gone complete; then the first island, in number order, that has an
admissible unit takes its next port's. None when nothing can be decided. -/
def admitOne (s : State) : Option State :=
  if s.tension.closed then none
  else
    let slots := holdingSlots s.tension.held []
    match slots.find? fun e => (unitEnds s e.1).isSome with
    | some e => some (emit (.unit 0 ((unitEnds s e.1).getD stKeyGone)) (count 0x2000 5 (dropHeld e s)))
    | none =>
      let able := slots.filter fun e => (unitBars s e.1).isEmpty
      match able.head? with
      | none => none
      | some first =>
        let island := able.foldl (fun m e => Nat.min m (portIsland s e.1.ingress)) (portIsland s first.1.ingress)
        let here := able.filter fun e => portIsland s e.1.ingress == island
        let last := tgetD s.tension.lastPort island 0xFFFF
        match nextPort last (here.map fun e => portCode e.1.ingress) with
        | none => none
        | some port =>
          match portChoice s port (here.filter fun e => portCode e.1.ingress == port) with
          | (some e, left) =>
            let s := { s with tension.wrr := tput s.tension.wrr port left,
                              tension.lastPort := tput s.tension.lastPort island port }
            some (admitUnit e.1 (dropHeld e s))
          | (none, _) => none

/-- Decide until nothing more can be. -/
def admitAll : Nat → State → State
  | 0, s => s
  | fuel + 1, s => match admitOne s with
    | some s => admitAll fuel s
    | none => s

/-- Offer the held units again, and tend those that stay. -/
def retryUnits (s : State) : State :=
  let s := admitAll s.tension.held.length s
  if s.tension.closed then s else each (holdingSlots s.tension.held []) tendHeld s

/-! ### The commands -/

/-- Ingress and egress ports of a unit exist. -/
def unitPorts (s : State) (u : UnitDesc) : Bool := portExists s u.ingress && portExists s u.egress

/-- UNIT_ADMIT (R38, R39). No unit costs more than 32 cycles (R28). -/
def execUnitAdmit (u : UnitDesc) (s : State) : Host.Outcome State Fault Refusal :=
  if !unitPorts s u then .fault .noSuchPort
  else .next (if !running s || u.cost > 32 || u.cls > 5 then s
    else retryUnits { s with tension.held := s.tension.held ++ [(u, [])] })

/-- TICKET_GRANT_EXPIRY (R40): due after four of the pillow's frames without use. -/
def execTicketGrantExpiry (island part pillow : Nat) (s : State) : Host.Outcome State Fault Refusal :=
  if pillow ≥ pillowsOf s.cfg then .fault .noSuchPort
  else .next (match s.tension.grants.find? fun g => g.island == island && g.partition == part && g.pillow == pillow with
    | none => s
    | some g =>
      if (pillowAt s pillow).frames < g.lastFrame + 4 then s
      else retryUnits
        { s with tension.grants := s.tension.grants.erase g,
                 tension.ticketsOut := tput s.tension.ticketsOut (part * 64 + pillow) (ticketsOut s pillow part - g.left) })

/-- The unit is the next of its bobbin's best-effort units, or of its partition's reserved units at its pillow, in
admission order (R40, R43). -/
def issuesNext (s : State) (n : Nat) (u : UnitRec) : Bool :=
  !(s.tension.units.any fun e => decide (e.1 < n) && !e.2.issued && (e.2.cls == 0) == (u.cls == 0) &&
    (if u.cls = 0 then e.2.pillow == u.pillow && e.2.desc.partition == u.desc.partition else e.2.bobbin == u.bobbin))

/-- UNIT_ISSUE (R23, R26, R40, R471): the unit's last block is issued, its tickets or its backlog return. -/
def execUnitIssue (unit : Nat) (s : State) : Host.Outcome State Fault Refusal :=
  .next (match tget s.tension.units unit with
    | none => s
    | some u =>
      if u.issued || !issuesNext s unit u then s
      else
        let c := u.desc.cost
        let p := u.desc.partition.getD 0
        let s := loadKeys u.bobbin u.desc.pins s
        let s := { s with
          tension.units := tput s.tension.units unit { u with issued := true },
          tension.backlog := if u.cls = 0 then s.tension.backlog
            else tput s.tension.backlog u.bobbin (backlogOf s u.bobbin - c),
          tension.ticketsOut := if u.cls = 0 then
            tput s.tension.ticketsOut (p * 64 + u.pillow) (ticketsOut s u.pillow p - c) else s.tension.ticketsOut }
        retryUnits (countBy 0xB001 (u.pillow + 1) c (countBy 0xB000 3 c s)))

/-- UNIT_EGRESS (R35, R46): an issued unit leaves in its stream's order, and what it held returns. -/
def execUnitEgress (unit : Nat) (s : State) : Host.Outcome State Fault Refusal :=
  .next (match tget s.tension.units unit with
    | none => s
    | some u =>
      let x := streamOf s u.desc
      let earlier := s.tension.units.any fun e => decide (e.1 < unit) && streamOf s e.2.desc == x
      if !u.issued || earlier then s
      else
        let s := putStream { x with release := u.seq + 1 } (emit (.unit unit stDone) (dropUnit unit s))
        let s := if s.tension.units.any fun e => streamOf s e.2.desc == streamOf s u.desc then s
          else { s with tension.streams := s.tension.streams.erase (streamOf s u.desc) }
        retryUnits s)

/-! ### Reserved positions (R45) -/

/-- RESERVED_SLOTS_WRITE (R45, R352): refused when the sum would exceed the positions of a pillow, or during the
partition's teardown. -/
def ownReservedSlots (part v : Nat) (s : State) : Own :=
  let sum := ((List.range (partitionsOf s.cfg)).map fun p => if p = part then v else reservedSlots s p).sum
  let tearing := match tget s.parts part with | some p => decide (p.state ≥ 2) | none => false
  guarded [(decide (sum > 2 * lastPillowOf s.cfg), abRange), (tearing, abState)] (setOd 0x7400 (part + 1) v s)

def execReservedSlotsWrite (r : OdReq) (part : Nat) (v : BitVec 8) (s : State) : Host.Outcome State Fault Refusal :=
  .next (odWrite r 0x7400 (part + 1) (le 1 v.toNat) (ownReservedSlots part v.toNat) s)

/-- The free reservable positions of a pillow in the order in which they are taken. -/
def freePositions (s : State) (k : Nat) (p : Pillow) : List Nat :=
  (((bobbinsIn s k).map (4 * ·)) ++ ((bobbinsIn s k).map (4 * · + 2))).filter fun x =>
    !(p.taken.any fun e => e.1 == x) && !(p.releasing.any fun e => e.1 == x)

/-- Positions that a partition takes or releases at a pillow. -/
def applySlots (k part : Nat) (s : State) : State :=
  let p := pillowAt s k
  let want := reservedSlots s part
  let mine := p.taken.filter fun e => e.2 == part
  let have_ := mine.length
  let q := if want < have_ then
      let gone := mine.drop want
      { p with taken := p.taken.filter (fun e => !gone.contains e), releasing := p.releasing ++ gone }
    else { p with taken := p.taken ++ ((freePositions s k p).take (want - have_)).map fun x => (x, part) }
  { s with tension.pillows := tput s.tension.pillows k q }

/-- FRAME_BOUNDARY_APPLY (R45): the frame count advances; released positions stop serving once the partition's tickets fit
the new pool; releases come before what is taken. -/
def execFrameBoundaryApply (pillow : Nat) (s : State) : Host.Outcome State Fault Refusal :=
  if pillow ≥ pillowsOf s.cfg then .fault .noSuchPort
  else
    let parts := List.range (partitionsOf s.cfg)
    let p := pillowAt s pillow
    let s := { s with tension.pillows := tput s.tension.pillows pillow { p with frames := p.frames + 1 } }
    let less := parts.filter fun q => decide (reservedSlots s q < (positions s pillow q).length)
    let more := parts.filter fun q => decide ((positions s pillow q).length < reservedSlots s q)
    let s := each less (applySlots pillow) s
    let now := pillowAt s pillow
    let still := now.releasing.filter fun e => decide (ticketsOut s pillow e.2 > ticketPool s pillow e.2)
    let s := { s with tension.pillows := tput s.tension.pillows pillow { now with releasing := still } }
    .next (retryUnits (each more (applySlots pillow) s))

end Sys2Proof.Machine
end

