-- ==== Sys2Proof/Machine/LinkRows.lean ====
section
/-! DEFINITION. The commands of the link flit ports: physical layer, flits received, acknowledgements and credits,
congestion marks, the stitch handshake and re-keying (R69 to R72, R175 to R203). -/

namespace Sys2Proof.Machine

/-! ### Leaving and entering states (R194, R195) -/

/-- What waited for a link is offered again. -/
def afterLink (s : State) : State := afterFabric (retryUnits s)

/-- Entry to DISABLED (0), HOLD (5) or QUARANTINED (6): the actions of R195, the partner's ERA at HOLD (R218), requests
sent again (R216), plait steps ended (R189). -/
def linkFall (p state : Nat) (s : State) : State :=
  let x := linkAt s p
  let s := linkDown p state s
  let s := if state = 5 then (match x.partner with | some q => bumpEra q.ep s | none => s) else s
  afterLink (endPortSteps (portSteps x) (reissue p s))

/-- QUARANTINED with a reason (R202): a port in DISABLED stays there. -/
def quarantine (p reason : Nat) (s : State) : State :=
  if (linkAt s p).state = 0 then s
  else linkFall p 6 (setLink p (fun x => { x with reason := reason, stitchFails := 0, tagTicks := [], protoTicks := [] }) s)

/-- Entry to TRAINING (R194): PHY_EN rises, the allotments of VL_CREDITS take effect (R203). -/
def enterTraining (p : Nat) (s : State) : State :=
  let allot := (List.range 8).map fun v => setting s 0x4007 (v + 1)
  setLink p (fun x => { clearLink x with state := 1, phyEn := true, reason := 0, allot := allot }) s

/-- The physical layer is up: CLEAR, or STITCHING with a seed and a charter (R186, R194). -/
def enterClear (p : Nat) (s : State) : State :=
  let s := setLink p (fun x => clearCredits { clearLink x with state := 2 }) s
  if canStitch s then pumpLink p (beginStitch p s) else s

/-- A LINKED or STITCHING port loses its domain (R194, R383): CLEAR, its keys dropped. -/
def toClear (p : Nat) (s : State) : State :=
  let x := linkAt s p
  if x.state ≠ 3 && x.state ≠ 4 then s
  else
    let s := dropHopKeys p true s
    let s := setLink p (fun x => clearCredits { clearLink x with state := 2 }) s
    let s := each (s.tension.units.filter fun e => e.2.desc.egress == .link p) (fun e s => dropUnit e.1 s) s
    afterLink (endPortSteps (portSteps x) (reissue p s))

/-- Every port of the block. -/
def allPorts (s : State) : List Nat := List.range (linkPortsOf s.cfg)

/-- Ports in CLEAR stitch once a domain is joined (R194, R380). -/
def stitchAll (s : State) : State :=
  each (allPorts s) (fun p s =>
    if (linkAt s p).state = 2 && canStitch s then pumpLink p (beginStitch p s) else s) s

/-- Ports that stitch do so afresh under a new charter (R381), or after a management-island reset (R434). -/
def restitchAll (s : State) : State :=
  each (allPorts s) (fun p s => if (linkAt s p).state = 3 then pumpLink p (beginStitch p s) else s) s

/-! ### Violations (R202, R466) -/

/-- Events of the last VIOLATION_WINDOW ticks. -/
def recent (s : State) (l : List Nat) : List Nat := l.filter fun t => decide (s.tick - t < setting s 0x4000 6)

/-- NAK once for a gap (R185): in the next flit, or in a CTRL flit. -/
def nakGap (p : Nat) (s : State) : State :=
  let x := linkAt s p
  let e := match epochOf x (rxEpoch x) with | some q => q.rxGroup | none => 0
  if x.nakFor = some e then s
  else setLink p (fun x => { x with nakFor := some e, nakPending := true, ackDue := true }) s

/-- A tag failure or a broken group: counted, answered with NAK, and escalated. -/
def tagFailure (p counter : Nat) (s : State) : State :=
  let s := linkCount p counter 1 s
  let l := recent s (linkAt s p).tagTicks ++ [s.tick]
  let s := setLink p (fun x => { x with tagTicks := l }) s
  if l.length ≥ setting s 0x4000 8 then quarantine p 4 s
  else
    let s := nakGap p s
    if l.length % Nat.max 1 (setting s 0x4000 7) = 0 then pumpLink p (startRekey p s) else s

/-- A protocol error, or an overrun: counted and escalated. -/
def protoFailure (p counter : Nat) (s : State) : State :=
  let s := linkCount p counter 1 s
  let l := recent s (linkAt s p).protoTicks ++ [s.tick]
  let s := setLink p (fun x => { x with protoTicks := l }) s
  if l.length ≥ setting s 0x4000 9 then quarantine p 5 s else s

/-- A stitch failure: the handshake starts again, or the port is quarantined after STITCH_RETRIES in a row. -/
def stitchFail (p : Nat) (s : State) : State :=
  let s := linkCount p lcStitchFails 1 s
  let n := (linkAt s p).stitchFails + 1
  if n ≥ setting s 0x4000 3 then quarantine p 3 s
  else pumpLink p (beginStitch p (setLink p (fun x => { x with stitchFails := n }) s))

/-! ### Credits and acknowledgements (R184 to R186) -/

/-- The largest allotment of a virtual lane (R203). -/
def mostCredits (v : Nat) : Nat := if v = 0 then 64 else 256

/-- Returned credits, clamped to what can be outstanding; whether they were too many. -/
def gainCredits (x : Link) (v n : Nat) : Link × Bool :=
  let c := nth x.credits v 0 + n
  ({ x with credits := setNth x.credits v (Nat.min c (mostCredits v)) }, decide (c > mostCredits v))

/-- An ACK_SEQ: the groups it covers leave the replay buffer. A value of an earlier flit changes nothing; one that names a
group not sent is an error. -/
def takeAck (now a : Nat) (x : Link) : Link × Bool :=
  match txSeq x with
  | none => (x, false)
  | some e =>
    let last := match x.replay with
      | g :: _ => (g.seq + 2 ^ 24 - 1) % 2 ^ 24
      | [] => (e.txGroup + 2 ^ 24 - 1) % 2 ^ 24
    let d := (a + 2 ^ 24 - last) % 2 ^ 24
    if d = 0 || d ≥ 2 ^ 23 then (x, false)
    else if d ≤ x.replay.length then
      ({ x with replay := x.replay.drop d, resends := 0, progressTick := now }, false)
    else (x, decide (e.epoch = 1) || decide (e.txGroup ≠ x.replay.length))

/-- The place in the replay buffer of the group that a NAK names. -/
def nakPlace (a : Nat) (x : Link) : Option Nat := x.replay.findIdx? fun g => g.seq % 2 ^ 24 == a

/-- The acknowledgement and credit fields of a verified flit. -/
def takeFields (p : Nat) (h : Hdr) (s : State) : State :=
  let s := if h.nak = 1 then
      (match nakPlace h.ack (linkAt s p) with
       | some k => resendFrom p k s
       | none => protoFailure p lcProtoErrors s)
    else
      let (y, bad) := takeAck s.tick h.ack (linkAt s p)
      let s := setLink p (fun _ => y) s
      if bad then protoFailure p lcProtoErrors s else s
  if h.crdCnt = 0 || (linkAt s p).state ≠ 4 then s
  else
    let (y, bad) := gainCredits (linkAt s p) h.crdVl h.crdCnt
    let s := setLink p (fun _ => y) s
    if bad then protoFailure p lcProtoErrors s else s

/-! ### VL0 messages (R183) -/

/-- Known message types, and the longest body of each. -/
def mtypeKnown (m : Nat) : Bool := (1 ≤ m && m ≤ 6) || m == 0x10
def mtypeMax (m : Nat) : Nat :=
  if m = 1 then 132 else if m = 2 || m = 3 then 2 + 12288 + 97 + 1568 + 96 + 4627
  else if m = 4 then 49 else if m = 5 || m = 6 then 4 else 128 * 936

/-- A segment out of order or of a wrong form (R202). -/
def badSegment (p : Nat) (s : State) : State :=
  let s := setLink p (fun x => { x with asm := none }) s
  match (linkAt s p).state with
  | 3 => stitchFail p s
  | 2 => linkCount p lcStitchFails 1 s
  | _ => protoFailure p lcProtoErrors s

/-- A segment: the message is delivered, its MTYPE first, when it is complete. -/
def segment (p src dst room : Nat) (b : Bytes) (s : State) : State :=
  let mt := num b 0 1
  let idx := num b 2 2
  let cnt := num b 4 2
  let len := num b 6 2
  if num b 1 1 ≠ 0 || cnt < 1 || cnt > 128 || idx ≥ cnt || len < 1 || len > room then badSegment p s
  else
    let data := slice b 8 len
    let old := if idx = 0 then some [] else match (linkAt s p).asm with
      | some a => if a.mtype = mt && a.count = cnt && a.next = idx then some a.bytes else none
      | none => none
    match old with
    | none => badSegment p s
    | some bs =>
      let all := bs ++ data
      if all.length > mtypeMax mt then badSegment p s
      else if idx + 1 = cnt then
        emit (.deliver p 0 src dst (le 1 mt ++ all)) (setLink p (fun x => { x with asm := none }) s)
      else setLink p (fun x => { x with asm := some { mtype := mt, count := cnt, next := idx + 1, bytes := all } }) s

/-! ### Congestion (R190 to R192) -/

/-- A marked group from `src` reaches its endpoint: the echo is due, at most once in CMARK_HOLDOFF ticks. -/
def markSeen (src : Nat) (s : State) : State :=
  let soon := match tget s.links.echoed src with
    | some t => decide (s.tick < t + setting s 0x4000 0xB)
    | none => false
  if soon || thas s.links.echoDue src then s
  else { s with links.echoDue := tput s.links.echoDue src s.tick }

/-- The entry with the highest rate makes room. -/
def congVictim (t : Tbl Cong) : Option Nat :=
  match t with
  | [] => none
  | e :: es => some (es.foldl (fun m x => if x.2.rate > m.2.rate then x else m) e).1

/-- An echo from `d`: the rate towards it is halved, and further echoes are ignored for CMARK_HOLDOFF ticks. -/
def echoSeen (d : Nat) (s : State) : State :=
  let fresh := !thas s.links.cong d
  let t := if fresh && s.links.cong.length ≥ 1024 then
      (match congVictim s.links.cong with | some v => tdel s.links.cong v | none => s.links.cong)
    else s.links.cong
  let held := match tget t d with
    | some c => decide (s.tick < c.halved + setting s 0x4000 0xB)
    | none => false
  if held then s
  else
    let r := match tget t d with | some c => c.rate | none => 64
    count 0xB041 2 { s with links.cong := tput t d { rate := Nat.max 1 (r / 2), halved := s.tick, raised := s.tick } }

/-! ### Receiving (R184, R202) -/

/-- The row of a port: absent ports fault; a low enable ignores every input (R52); with PHY_UP low a flit is counted
(R71). -/
def linkRow (p flits : Nat) (act : State → State) (s : State) : Host.Outcome State Fault Refusal :=
  if p ≥ linkPortsOf s.cfg then .fault .noSuchPort
  else .next (
    if !(linkAt s p).phyEn then s
    else if !(linkAt s p).phyUp then countBy 0xB031 4 flits s
    else act (countBy 0xB000 6 flits s))

/-- The row of something that concerns a port and is no flit. -/
def portRow (p : Nat) (act : State → State) (s : State) : Host.Outcome State Fault Refusal :=
  if p ≥ linkPortsOf s.cfg then .fault .noSuchPort else .next (act s)

/-- A received epoch is one that the receiver still accepts (R201 step 4). -/
def accepts (x : Link) (e : Nat) : Bool :=
  match x.rekey with
  | some r => if r.rxSwitched then e == r.epoch else true
  | none => true

/-- The epoch that EPAR selects. -/
def eparEpoch (x : Link) (par : Nat) : Option EpochSeq :=
  x.epochs.find? fun q => q.epoch % 2 == par && accepts x q.epoch

/-- The IV under which the partner sent sequence `n` (R180). -/
def rxIv (x : Link) (e n : Nat) : Bytes := hopIv e (bit x.initiator) (partnerPort x) n

/-- The ciphertext and the tag of a group (R179). -/
def groupCipher (fs : List Bytes) : Bytes × Bytes :=
  let n := fs.length
  let all := fs.flatMap fun f => slice f 16 240
  (if (hdrOf (fs.headD [])).keymode = 1 then [] else slice all 0 (240 * n - 16), slice all (240 * n - 16) 16)

/-- The headers of a group are whole: 256 B flits, GIDX in order, the group fields alike (R176, R178). -/
def groupWhole (fs : List Bytes) : Bool :=
  let h := hdrOf (fs.headD [])
  fs.length == h.glen + 1 && h.ftype == 1 && fs.all (fun f => f.length == 256 && sameGroup (hdrOf f) h) &&
    (List.range fs.length).all fun i => (hdrOf (fs.getD i [])).gidx == i

/-- Open a group: its epoch, full sequence and plaintext. None when the tag fails or no epoch fits. -/
def openGroup (s : State) (p : Nat) (fs : List Bytes) : Option (EpochSeq × Nat × Bytes) :=
  let x := linkAt s p
  let h := hdrOf (fs.headD [])
  match eparEpoch x h.epar with
  | none => none
  | some q => match rebuild q.rxGroup h.gseq with
    | none => none
    | some n =>
      let (ct, tag) := groupCipher fs
      match Config.gcmOpen (keyOf s q.pin) (rxIv x q.epoch n) (fs.flatMap fun f => slice f 0 16) ct tag with
      | some b => some (q, n, b)
      | none => none

/-- What a group on VL3 decrypts to before its tag is checked (R187): AES-256-CTR from the second block of the IV. -/
def provisional (s : State) (p : Nat) (fs : List Bytes) : Option Bytes :=
  let x := linkAt s p
  let h := hdrOf (fs.headD [])
  if h.vl ≠ 3 || h.keymode ≠ 0 then none
  else match eparEpoch x h.epar with
    | none => none
    | some q =>
      if rebuild q.rxGroup h.gseq = some q.rxGroup then
        some (Config.aesCtr (keyOf s q.pin) (rxIv x q.epoch q.rxGroup ++ be 4 2) (groupCipher fs).1)
      else none

/-- The last message of a group's plaintext, by its offset (R210). -/
def lastMsg (b : Bytes) : Nat → Nat → Option Nat → Option Nat
  | 0, _, l => l
  | fuel + 1, off, l =>
    let mlen := num b (off + 1) 2 % 1024
    if off + 32 > b.length || num b off 1 = 0 then l
    else if mlen < 32 || mlen % 16 ≠ 0 then some off
    else lastMsg b fuel (off + mlen) (some off)

/-- COUNT_M1 of the REGION_PASS group that a group's plaintext announces (R213). -/
def announces (b : Bytes) : Option Nat :=
  match lastMsg b 60 0 none with
  | none => none
  | some off =>
    let h := fhdrOf (BitVec.ofNat 256 (num b off 32))
    if h.msg = 0x02 || (h.msg = 0x81 && h.status = 0) then some h.cnt else none

/-- A verified group breaks R177, R181 or R213: reserved fields, a KEYMODE its lane does not accept, line slots that no
announcement names, an unknown MTYPE. -/
def groupBad (x : Link) (fs : List Bytes) (b : Bytes) (credit : Bool) : Bool :=
  let h := hdrOf (fs.headD [])
  h.resv ≠ 0 || h.keymode ≥ 2 ||
  (if h.keymode = 1 then
     h.vl == 0 || h.vl == 3 ||
     (match tget x.announced h.vl with
      | some c => !(h.glen == c / 3 && (List.range fs.length).all fun i =>
          (hdrOf (fs.getD i [])).slotV == 2 ^ Nat.min 3 (c + 1 - 3 * i) - 1)
      | none => true)
   else fs.any (fun f => (hdrOf f).slotV != 0) || (h.vl == 0 && !credit && !mtypeKnown (num b 0 1)))

/-- The next group is verified: its sequence is done with, and a re-key's receive direction has switched when it is the
first of the new epoch. -/
def groupDone (q : EpochSeq) (x : Link) : Link :=
  let y := modEpoch q.epoch (fun e => { e with rxGroup := e.rxGroup + 1 }) x
  { y with nakFor := none, nakPending := false, ackDue := true,
           rekey := y.rekey.map fun r => if r.epoch = q.epoch then { r with rxSwitched := true } else r }

/-- The content of a verified group in order: congestion marks, a VL0 segment, messages, or the lines of a REGION_PASS
group. -/
def groupContent (p : Nat) (fs : List Bytes) (b : Bytes) (credit : Bool) (s : State) : State :=
  let h := hdrOf (fs.headD [])
  let mine := h.dst == ownEndpoint s
  let s := if mine && h.vl ≥ 4 && h.cmark = 1 then markSeen h.src s else s
  let s := if mine && h.cecho = 1 then echoSeen h.src (linkCount p lcEchoesReceived 1 s) else s
  let s := setLink p (fun x => { x with announced := tdel x.announced h.vl }) s
  if credit then s
  else if h.vl = 0 then segment p h.src h.dst (b.length - 8) b s
  else if h.keymode = 1 then emit (.deliver p h.vl h.src h.dst (fs.flatMap fun f => slice f 16 216)) s
  else
    let s := match (if h.vl = 3 then none else announces b) with
      | some c => setLink p (fun x => { x with announced := tput x.announced h.vl c }) s
      | none => s
    emit (.deliver p h.vl h.src h.dst b) s

/-- A verified group of a LINKED port, by its place in the sequence (R184, R185, R202). -/
def groupVerified (p : Nat) (fs : List Bytes) (q : EpochSeq) (n : Nat) (b : Bytes) (s : State) : State :=
  let h := hdrOf (fs.headD [])
  let x := linkAt s p
  let credit := h.keymode == 0 && h.vl == 0 && h.glen == 0 && b.all (· == 0)
  let cost := if credit then 0 else fs.length
  let bad := groupBad x fs b credit
  if n > q.rxGroup then nakGap p (linkCount p lcSeqGaps 1 s)
  else if n < q.rxGroup then linkCount p lcDuplicates 1 s
  else if !bad && cost > nth x.partnerCredits h.vl 0 then protoFailure p lcOverruns s
  else
    let f := fun (x : Link) =>
      { groupDone q x with partnerCredits := setNth x.partnerCredits h.vl (nth x.partnerCredits h.vl 0 - cost),
                           owe := addNth x.owe h.vl (Nat.min cost (nth x.partnerCredits h.vl 0)) }
    let s := linkCount p lcGroupsRx 1 (setLink p f s)
    let s := each fs (fun g s => if (linkAt s p).state = 4 then takeFields p (hdrOf g) s else s) s
    if (linkAt s p).state ≠ 4 then s
    else if bad then protoFailure p lcProtoErrors s
    else groupContent p fs b credit s

/-- FINISH of the partner while this side stitches (R200): under epoch 1 and group sequence 0; kept until epoch 1 is
held. -/
def finishGroup (p : Nat) (fs : List Bytes) (s : State) : State :=
  if (linkAt s p).epochs.isEmpty then
    setLink p (fun x => { x with stitch := x.stitch.map fun y => { y with early := fs.head? } }) s
  else match openGroup s p fs with
    | none => tagFailure p lcTagFails s
    | some (q, n, b) =>
      if n > q.rxGroup then nakGap p (linkCount p lcSeqGaps 1 s)
      else if n < q.rxGroup then linkCount p lcDuplicates 1 s
      else
        let h := hdrOf (fs.headD [])
        if num b 0 1 ≠ 4 then linkCount p lcModeRejects 1 s
        else segment p h.src h.dst (b.length - 8) b (linkCount p lcGroupsRx 1 (setLink p (groupDone q) s))

/-- A FINISH that came before epoch 1 was held. -/
def earlyFinish (p : Nat) (s : State) : State :=
  match (linkAt s p).stitch with
  | some y => match y.early with
    | some f => finishGroup p [f] (setLink p (fun x => { x with stitch := some { y with early := none } }) s)
    | none => s
  | none => s

/-- GROUP_RECEIVE (R184, R202). -/
def execGroupReceive (port : Nat) (flits : List Bytes) (s : State) : Host.Outcome State Fault Refusal :=
  linkRow port flits.length (fun s =>
    let h := hdrOf (flits.headD [])
    match (linkAt s port).state with
    | 4 =>
      if !groupWhole flits then tagFailure port lcGroupErrors s
      else match openGroup s port flits with
        | none =>
          let s := match provisional s port flits with | some b => plaitTagFail b s | none => s
          tagFailure port lcTagFails s
        | some (q, n, b) => afterLink (pumpLink port (groupVerified port flits q n b s))
    | 3 =>
      if groupWhole flits && h.vl = 0 && h.keymode = 0 && h.glen = 0 then pumpLink port (finishGroup port flits s)
      else linkCount port lcModeRejects 1 s
    | _ => linkCount port lcModeRejects 1 s) s

/-- A CTRL flit with a reserved field, or with a field that R177 wants zero. -/
def ctrlBad (h : Hdr) : Bool :=
  h.resv ≠ 0 || h.keymode ≠ 0 || h.vl ≠ 0 || h.glen ≠ 0 || h.gidx ≠ 0 || h.slotV ≠ 0 || h.crdVl ≠ 0 || h.crdCnt ≠ 0

/-- CTRL_FLIT_RECEIVE (R184, R185). -/
def execCtrlFlitReceive (port : Nat) (flit : Bytes) (s : State) : Host.Outcome State Fault Refusal :=
  linkRow port 1 (fun s =>
    let x := linkAt s port
    let h := hdrOf flit
    if x.state ≠ 4 then linkCount port lcModeRejects 1 s
    else
      let opened := match eparEpoch x h.epar with
        | none => none
        | some q => match rebuild q.rxCtrl h.gseq with
          | none => none
          | some n =>
            (match Config.gcmOpen (keyOf s q.pin) (rxIv x q.epoch (2 ^ 63 + n)) (slice flit 0 16) [] (slice flit 240 16) with
             | some _ => some (q, n)
             | none => none)
      match opened with
      | none => tagFailure port lcTagFails s
      | some (q, n) =>
        if n < q.rxCtrl then linkCount port lcDuplicates 1 s
        else
          let s := setLink port (modEpoch q.epoch fun e => { e with rxCtrl := n + 1 }) s
          if ctrlBad h then protoFailure port lcProtoErrors s
          else afterLink (pumpLink port (takeFields port h s))) s

/-- CLEAR_FLIT_RECEIVE (R183, R186): its CRC is checked, its VL0 credits take effect, its segment is taken. A flit that
carries no segment only returns credits (log entry 21). -/
def execClearFlitReceive (port : Nat) (flit : Bytes) (s : State) : Host.Outcome State Fault Refusal :=
  linkRow port 1 (fun s =>
    let x := linkAt s port
    let h := hdrOf flit
    if (x.state ≠ 2 && x.state ≠ 3) || h.vl ≠ 0 then linkCount port lcModeRejects 1 s
    else if num flit 240 4 ≠ crc32c (slice flit 0 240) then linkCount port lcRxBad 1 s
    else
      let f := fun (x : Link) =>
        { (if h.crdVl = 0 then (gainCredits x 0 h.crdCnt).1 else x) with
          partnerCredits := setNth x.partnerCredits 0 (nth x.partnerCredits 0 0 - 1), owe := addNth x.owe 0 1 }
      let s := setLink port f s
      let b := slice flit 16 224
      let s := if b.all (· == 0) || !mtypeKnown (num b 0 1) then s else segment port h.src h.dst 216 b s
      pumpLink port s) s

/-- IDLE_FLIT_RECEIVE (R177, R202). -/
def execIdleFlitReceive (port : Nat) (flit : Bytes) (s : State) : Host.Outcome State Fault Refusal :=
  linkRow port 1 (fun s => if flit.all (· == 0) then s else linkCount port lcIdleErrors 1 s) s

/-- RX_FLIT_BAD (R71, R202): discarded, and answered with NAK in LINKED. -/
def execRxFlitBad (port : Nat) (s : State) : Host.Outcome State Fault Refusal :=
  linkRow port 1 (fun s =>
    let s := linkCount port lcRxBad 1 s
    if linked s port then nakGap port s else s) s

/-- RX_FLIT_WHILE_DOWN (R71). -/
def execRxFlitWhileDown (port : Nat) (s : State) : Host.Outcome State Fault Refusal :=
  portRow port (fun s => if (linkAt s port).phyEn && !(linkAt s port).phyUp then count 0xB031 4 s else s) s

/-! ### The physical layer and the manager (R194) -/

/-- PHY_UP_RISE. -/
def execPhyUpRise (port : Nat) (s : State) : Host.Outcome State Fault Refusal :=
  portRow port (fun s =>
    let s := setLink port (fun x => { x with phyUp := true }) s
    if (linkAt s port).state = 1 then enterClear port s else s) s

/-- PHY_UP_FALL: TRAINING, CLEAR, STITCHING and LINKED go to HOLD. -/
def execPhyUpFall (port : Nat) (s : State) : Host.Outcome State Fault Refusal :=
  portRow port (fun s =>
    let s := setLink port (fun x => { x with phyUp := false }) s
    let st := (linkAt s port).state
    if 1 ≤ st && st ≤ 4 then linkFall port 5 s else s) s

/-- HOLD_RETRAIN (R195): the entry actions are complete and PHY_UP has been seen low. -/
def execHoldRetrain (port : Nat) (s : State) : Host.Outcome State Fault Refusal :=
  portRow port (fun s =>
    if (linkAt s port).state = 5 && !(linkAt s port).phyUp then enterTraining port s else s) s

/-- The owning rule of LINK_ADMIN (R194): 0 DOWN, 1 UP. -/
def ownLinkAdmin (port v : Nat) (s : State) : Own :=
  let s := setOd 0x4004 (port + 1) v s
  .ok (if v = 0 then (if (linkAt s port).state = 0 then s else linkFall port 0 s)
       else if (linkAt s port).state = 0 && running s && !s.power.retention && !s.power.quiesced then enterTraining port s else s)

/-- LINK_ADMIN_DOWN. -/
def execLinkAdminDown (r : OdReq) (port : Nat) (s : State) : Host.Outcome State Fault Refusal :=
  .next (odWrite r 0x4004 (port + 1) [0] (ownLinkAdmin port 0) s)

/-- LINK_ADMIN_UP. -/
def execLinkAdminUp (r : OdReq) (port : Nat) (s : State) : Host.Outcome State Fault Refusal :=
  .next (odWrite r 0x4004 (port + 1) [1] (ownLinkAdmin port 1) s)

/-- The owning rule of LINK_RELEASE (R203). -/
def ownLinkRelease (v : Nat) (s : State) : Own :=
  guarded [(v ≥ linkPortsOf s.cfg, abRange), ((linkAt s v).state ≠ 6, abState)] (enterTraining v s)

/-- LINK_RELEASE. -/
def execLinkRelease (r : OdReq) (v : BitVec 8) (s : State) : Host.Outcome State Fault Refusal :=
  .next (odWrite r 0x4003 1 (le 1 v.toNat) (ownLinkRelease v.toNat) s)

/-! ### Flits that fall due (R185, R186, R191, R192) -/

/-- CTRL_FLIT_SEND_DUE (R185): due while a change of the acknowledgement has not been carried. -/
def execCtrlFlitSendDue (port : Nat) (s : State) : Host.Outcome State Fault Refusal :=
  portRow port (fun s => if linked s port && (linkAt s port).ackDue then sendCtrl port s else s) s

/-- CREDIT_GROUP_SEND_DUE (R186); before LINKED the credits go in a CLEAR flit without a segment (log entry 21). -/
def execCreditGroupSendDue (port : Nat) (s : State) : Host.Outcome State Fault Refusal :=
  portRow port (fun s =>
    let x := linkAt s port
    if x.state = 4 then pumpLink port (sendCreditGroups port 1 s)
    else if (x.state = 2 || x.state = 3) && nth x.owe 0 0 ≠ 0 && nth x.credits 0 0 ≠ 0 then
      sendClear port { creditGroup s with keymode := 2 } s
    else s) s

/-- ACK_TIMEOUT_RESEND (R185, R202): due ACK_TIMEOUT ticks after the last progress while groups are outstanding. -/
def execAckTimeoutResend (port : Nat) (s : State) : Host.Outcome State Fault Refusal :=
  portRow port (fun s =>
    let x := linkAt s port
    if x.state ≠ 4 || x.replay.isEmpty || s.tick < x.progressTick + setting s 0x4000 4 then s
    else if x.resends ≥ setting s 0x4000 5 then linkFall port 5 s
    else resendFrom port 0 (setLink port (fun x => { x with resends := x.resends + 1, progressTick := s.tick }) s)) s

/-- CMARK_NOP_TIMEOUT (R191): due 10 ticks after the mark when no group to the source has carried the echo. -/
def execCmarkNopTimeout (dst : Nat) (s : State) : Host.Outcome State Fault Refusal :=
  .next (match tget s.links.echoDue dst, pickPort s dst 0 false with
    | some t, some p =>
      if s.tick < t + 10 then s
      else
        let h := fhdrWord { msg := 0x0F, mlen := 32, retry := 0, ord := 0, aop := 0, tag := 0, seq := 0, addr := 0, cnt := 0,
                            resvA := 0, status := 0, poison := 0, resvB := 0, job := 0, epoch := pathEpoch s dst, key := 0,
                            inc := 0 }
        fabSend p { srcEp := ownEndpoint s, dstEp := dst, vl := 5, hdr := h, body := [], lines := [] } s
    | _, _ => s)

/-- CMARK_RECOVERY_TICK (R192). -/
def execCmarkRecoveryTick (dst : Nat) (s : State) : Host.Outcome State Fault Refusal :=
  .next (match tget s.links.cong dst with
    | some c =>
      if s.tick < Nat.max c.halved c.raised + setting s 0x4000 0xC then s
      else { s with links.cong := tput s.links.cong dst { c with rate := Nat.min 64 (c.rate + 1), raised := s.tick } }
    | none => s)

/-! ### The stitch handshake (R197 to R200) -/

/-- Fields of HELLO (R197). -/
def helloCert (m : Bytes) : Bytes := slice m 36 48
def helloHash (m : Bytes) : Bytes := slice m 84 48

/-- Change the handshake of a port. -/
def modStitch (p : Nat) (f : Stitch → Stitch) (s : State) : State :=
  setLink p (fun x => { x with stitch := x.stitch.map f }) s

/-- HELLO of the initiator, then of the responder. -/
def helloPair (y : Stitch) : Bytes := if y.initiator then y.myHello ++ y.hello else y.hello ++ y.myHello

/-- Parts of a key share whose key or ciphertext has 1,568 bytes (R197): certificate, ECDH point, the 1,568 bytes, the body
up to SIG_EC, the two signatures. None when its form is wrong. -/
def shareParts (m : Bytes) : Option (Bytes × Bytes × Bytes × Bytes × Bytes × Bytes) :=
  let n := num m 0 2
  if n ≤ 12288 && m.length = 2 + n + 97 + 1568 + 96 + 4627 then
    some (slice m 2 n, slice m (2 + n) 97, slice m (99 + n) 1568, slice m 0 (1667 + n), slice m (1667 + n) 96,
      slice m (1763 + n) 4627)
  else none

/-- Step 3 of R200: the initiator's ephemerals and KEY_SHARE_I; it waits while the key DRBG refuses. -/
def sendShareI (p : Nat) (s : State) : State :=
  match (linkAt s p).stitch, memberSeed s, samplerCert s with
  | some y, some seed, some cert =>
    (match keyDraw 112 false s with
     | none => s
     | some (e, s) =>
       let front := le 2 cert.length ++ cert ++ slice (Config.publicKey 2 (slice e 0 48)) 0 97 ++
         slice (Config.publicKey 3 (slice e 48 64)) 0 1568
       let t1 := hash48 (helloPair y ++ front)
       let body := front ++ ecSign seed t1 ++ mlSign seed t1
       queueMgmt p 2 body (modStitch p (fun y => { y with step := 3, seed := e, keyShare := body, since := s.tick }) s))
  | _, _, _ => s

/-- Step 2 of R200: roles are fixed, and the initiator goes on to step 3. -/
def fixRoles (p : Nat) (m : Bytes) (s : State) : State :=
  match (linkAt s p).stitch with
  | none => s
  | some y =>
    let ini := decide (ofBe (helloCert y.myHello) < ofBe (helloCert m))
    let s := setLink p (fun x => { x with initiator := ini, stitch := some { y with hello := m, initiator := ini, step := 2,
                                                                                     since := s.tick, mismatch := false } }) s
    if ini then sendShareI p s else s

/-- A HELLO in STITCHING (R199, R200, R202): one that comes after roles were fixed, or once the charters agree after a
mismatch, starts the handshake again and is then taken (log entry 22). -/
def takeHello (p : Nat) (m : Bytes) (s : State) : State :=
  match (linkAt s p).stitch with
  | none => s
  | some y =>
    if m.length ≠ 132 || num m 0 1 ≠ 2 then stitchFail p s
    else if y.step = 0 then modStitch p (fun y => { y with hello := m }) s
    else if helloCert m = helloCert y.myHello then quarantine p 2 (linkCount p lcStitchFails 1 s)
    else if helloHash m ≠ helloCharter s then
      modStitch p (fun y => { y with mismatch := true }) (linkCount p lcCharterMismatch 1 s)
    else
      let s := if y.step ≥ 2 || y.mismatch then beginStitch p s else s
      match (linkAt s p).stitch with
      | some y => if y.step = 1 then fixRoles p m s else modStitch p (fun y => { y with hello := m }) s
      | none => s

/-- STITCH_HELLO (R200 step 2, R379). -/
def execStitchHello (port : Nat) (m : Bytes) (s : State) : Host.Outcome State Fault Refusal :=
  portRow port (fun s =>
    match (linkAt s port).state with
    | 2 => pumpLink port (sendHello port s)
    | 3 => pumpLink port (takeHello port m s)
    | _ => s) s

/-- Epoch 1 is derived from the stitch secret and FINISH is sent (R198, R200); the handshake fails when the held store or
the pin table is full. -/
def deriveFirst (p : Nat) (secret t3 : Bytes) (s : State) : State :=
  match freeSlot s with
  | none => stitchFail p s
  | some slot =>
    let s := addHop p 1 (setLink p (fun x => { x with secretSlot := some slot })
      { s with keys.held := tput s.keys.held slot secret })
    if (linkAt s p).epochs.isEmpty then stitchFail p s
    else
      let role := bit (!(linkAt s p).initiator)
      let s := queueFinish (le 1 role ++ t3) (modStitch p (fun y => { y with step := 5, t3 := t3, since := s.tick }) s)
      earlyFinish p s
where
  queueFinish (m : Bytes) (s : State) : State :=
    let g := (segments 4 936 m).map fun b =>
      { vl := 0, keymode := 0, dst := 0xFFFF, src := ownEndpoint s, body := b, lines := [], cmark := false : TxGroup }
    pumpLink p (emit (.linkMsg p 4 m) (setLink p (fun x => { x with queue := x.queue ++ g }) s))

/-- The stitch secret (R198). -/
def stitchSecret (t3 zec zkem : Bytes) : Bytes := slice (Config.hmac384 t3 (slice zec 0 48 ++ slice zkem 0 32)) 0 48

/-- The checks of R199 on a key share: the certificate matches HELLO, and the records that a lookup reads are there (R377);
then a certificate outside the charter or its policy
(R202). -/
def shareCert (s : State) (y : Stitch) (cert : Bytes) : Nat :=
  if hash48 cert ≠ helloCert y.hello || !thas s.flash.banks 1 then 1 else if !isMemberCert s cert then 2 else 0

/-- Step 4 of R200 at the responder; the message waits while the key DRBG refuses. -/
def takeShareI (p : Nat) (m : Bytes) (s : State) : State :=
  match (linkAt s p).stitch, shareParts m, memberSeed s, samplerCert s with
  | some y, some (cert, pub, ek, front, sigEc, sigMl), some seed, some own =>
    let t1 := hash48 (helloPair y ++ front)
    if shareCert s y cert = 1 then stitchFail p s
    else if shareCert s y cert = 2 then quarantine p 1 (linkCount p lcStitchFails 1 s)
    else if !bothVerify cert t1 sigEc sigMl then stitchFail p s
    else match keyDraw 80 false s with
      | none => modStitch p (fun y => { y with step := 4, keyShare := m }) s
      | some (e, s) =>
        match Config.ecdh (slice e 0 48) pub, Config.kemEncap ek (slice e 48 32) with
        | some zec, some (ct, zkem) =>
          let mine := le 2 own.length ++ own ++ slice (Config.publicKey 2 (slice e 0 48)) 0 97 ++ slice ct 0 1568
          let t2 := hash48 (t1 ++ sigEc ++ sigMl ++ mine)
          let se := ecSign seed t2
          let sm := mlSign seed t2
          let t3 := hash48 (t2 ++ se ++ sm)
          let s := queueMgmt p 3 (mine ++ se ++ sm) (modStitch p (fun y => { y with step := 4 }) s)
          deriveFirst p (stitchSecret t3 zec zkem) t3 s
        | _, _ => stitchFail p s
  | some _, none, _, _ => stitchFail p s
  | _, _, _, _ => s

/-- KEY_SHARE_I (R200 step 4). -/
def execKeyShareI (port : Nat) (m : Bytes) (s : State) : Host.Outcome State Fault Refusal :=
  portRow port (fun s =>
    match (linkAt s port).state, (linkAt s port).stitch with
    | 3, some y => if y.step = 2 && !y.initiator && !y.mismatch then pumpLink port (takeShareI port m s) else s
    | _, _ => s) s

/-- Step 5 of R200 at the initiator. -/
def takeShareR (p : Nat) (m : Bytes) (s : State) : State :=
  match (linkAt s p).stitch, shareParts m with
  | some y, some (cert, pub, ct, front, sigEc, sigMl) =>
    let own := y.keyShare
    let t1 := hash48 (helloPair y ++ slice own 0 (own.length - 4723))
    let t2 := hash48 (t1 ++ slice own (own.length - 4723) 4723 ++ front)
    if shareCert s y cert = 1 then stitchFail p s
    else if shareCert s y cert = 2 then quarantine p 1 (linkCount p lcStitchFails 1 s)
    else if !bothVerify cert t2 sigEc sigMl then stitchFail p s
    else match Config.ecdh (slice y.seed 0 48) pub with
      | some zec =>
        let t3 := hash48 (t2 ++ sigEc ++ sigMl)
        deriveFirst p (stitchSecret t3 zec (Config.kemDecap (slice y.seed 48 64) ct)) t3 s
      | none => stitchFail p s
  | some _, none => stitchFail p s
  | none, _ => s

/-- KEY_SHARE_R (R200 step 5). -/
def execKeyShareR (port : Nat) (m : Bytes) (s : State) : Host.Outcome State Fault Refusal :=
  portRow port (fun s =>
    match (linkAt s port).state, (linkAt s port).stitch with
    | 3, some y => if y.step = 3 && !y.mismatch then pumpLink port (takeShareR port m s) else s
    | _, _ => s) s

/-- Entry to LINKED (R186, R194, R196): the partner is recorded, the CLEAR credits are void and the whole allotment is
returned. -/
def enterLinked (p : Nat) (s : State) : State :=
  match (linkAt s p).stitch with
  | none => s
  | some y =>
    let q : Partner := { ep := num y.hello 2 2, port := num y.hello 1 1, role := bit (!y.initiator),
                         certHash := helloCert y.hello }
    let changed := match (linkAt s p).partner with | some o => o.certHash != q.certHash | none => false
    let s := if changed then linkCount p lcPartnerChanges 1 s else s
    let f := fun (x : Link) =>
      { x with state := 4, stitch := none, asm := none, partner := some q, stitchFails := 0, progressTick := s.tick,
               credits := List.replicate 8 0, partnerCredits := List.replicate 8 0, owe := x.allot,
               queue := x.queue.filter fun g => g.keymode != 2 }
    afterLink (sendUnsent (pumpLink p (sendCreditGroups p 16 (setLink p f s))))

/-- STITCH_FINISH (R199, R200 step 6): the content of a FINISH that has verified under epoch 1. -/
def execStitchFinish (port : Nat) (m : Bytes) (s : State) : Host.Outcome State Fault Refusal :=
  portRow port (fun s =>
    let x := linkAt s port
    match x.state, x.stitch, x.epochs with
    | 3, some y, q :: _ =>
      if y.step ≠ 5 || q.rxGroup = 0 then s
      else if m = le 1 (bit y.initiator) ++ y.t3 then enterLinked port s
      else stitchFail port s
    | _, _, _ => s) s

/-- STITCH_TIMEOUT (R200, R202): due STITCH_TIMEOUT ticks after the wait began. -/
def execStitchTimeout (port : Nat) (s : State) : Host.Outcome State Fault Refusal :=
  portRow port (fun s =>
    match (linkAt s port).state, (linkAt s port).stitch with
    | 3, some y =>
      if s.tick < y.since + setting s 0x4000 2 then s
      else if y.mismatch then pumpLink port (beginStitch port s)
      else stitchFail port s
    | _, _ => s) s

/-- Handshakes that waited for the key DRBG go on (R138, R200). -/
def resumeStitches (s : State) : State :=
  each (allPorts s) (fun p s =>
    match (linkAt s p).state, (linkAt s p).stitch with
    | 3, some y =>
      if y.step = 0 then
        let s := sendHello p s
        (match (linkAt s p).stitch with
         | some z => pumpLink p (if z.step = 1 && z.hello ≠ [] then takeHello p z.hello s else s)
         | none => s)
      else if y.step = 2 && y.initiator then pumpLink p (sendShareI p s)
      else if y.step = 4 then pumpLink p (takeShareI p y.keyShare s)
      else s
    | _, _ => s) s

/-! ### Re-keying (R201) -/

/-- The owning rule of REKEY_NOW (R203). -/
def ownRekeyNow (v : Nat) (s : State) : Own :=
  guarded [(v ≥ linkPortsOf s.cfg, abRange), (!linked s v || (linkAt s v).rekey.isSome, abState)]
    (pumpLink v (startRekey v s))

/-- REKEY_NOW. -/
def execRekeyNow (r : OdReq) (v : BitVec 8) (s : State) : Host.Outcome State Fault Refusal :=
  .next (odWrite r 0x4006 1 (le 1 v.toNat) (ownRekeyNow v.toNat) s)

/-- A REKEY received on a LINKED port: the pin of the next epoch is made and REKEY_ACK answers; one that crosses the
block's own acts as its REKEY_ACK. -/
def takeRekey (p e : Nat) (s : State) : State :=
  let x := linkAt s p
  match x.rekey, txSeq x with
  | some r, _ =>
    if e ≠ r.epoch then protoFailure p lcProtoErrors s
    else if r.got then sendMgmt p 6 (le 4 e) s
    else pumpLink p (setLink p (fun x => { x with rekey := some { r with got := true } }) s)
  | none, some q =>
    if e ≠ q.epoch + 1 then protoFailure p lcProtoErrors s
    else
      let s := addHop p e s
      if (epochOf (linkAt s p) e).isNone then s
      else
        let r : Rekey := { epoch := e, sentTick := s.tick, resends := 0, sent := true, got := true, txSwitched := false,
                           rxSwitched := false }
        sendMgmt p 6 (le 4 e) (setLink p (fun x => { x with rekey := some r }) s)
  | none, none => s

/-- REKEY (R201). -/
def execRekey (port : Nat) (m : Bytes) (s : State) : Host.Outcome State Fault Refusal :=
  portRow port (fun s =>
    if !linked s port then s
    else if m.length ≠ 4 then protoFailure port lcProtoErrors s
    else takeRekey port (ofLe m) s) s

/-- REKEY_ACK (R201): an unsolicited one is a protocol error. -/
def execRekeyAck (port : Nat) (m : Bytes) (s : State) : Host.Outcome State Fault Refusal :=
  portRow port (fun s =>
    if !linked s port then s
    else match (linkAt s port).rekey with
      | some r =>
        if r.got || m ≠ le 4 r.epoch then protoFailure port lcProtoErrors s
        else afterLink (pumpLink port (setLink port (fun x => { x with rekey := some { r with got := true } }) s))
      | none => protoFailure port lcProtoErrors s) s

/-- REKEY_RESEND_TIMEOUT (R201): due 1,000 ticks after REKEY was last sent without an answer. -/
def execRekeyResendTimeout (port : Nat) (s : State) : Host.Outcome State Fault Refusal :=
  portRow port (fun s =>
    match (linkAt s port).state, (linkAt s port).rekey with
    | 4, some r =>
      if r.got || s.tick < r.sentTick + 1000 then s
      else if r.resends ≥ 3 then linkFall port 5 (linkCount port lcRekeysFailed 1 s)
      else
        let r := { r with resends := r.resends + 1, sentTick := s.tick }
        sendMgmt port 5 (le 4 r.epoch) (setLink port (fun x => { x with rekey := some r }) s)
    | _, _ => s) s

end Sys2Proof.Machine
end

