-- ==== Sys2Proof/Machine/PatternBase.lean ====
section
/-! DEFINITION. What patterns are made of: frames and extents, the structure of an image, bindings, launch records, local
fences, and the end of a launch (R316 to R332). -/

namespace Sys2Proof.Machine

/-! ### Frames, images, bindings (R316 to R319) -/

def patternAt (s : State) (p : Nat) : Option Pattern := tget s.patterns.dir p

def modPattern (p : Nat) (f : Pattern → Pattern) (s : State) : State :=
  { s with patterns.dir := tmod s.patterns.dir p f }

/-- Extents in use: first frame and frames of every image loaded or being loaded. -/
def extents (s : State) : List (Nat × Nat) :=
  (s.patterns.dir.filterMap fun e => if e.2.image.isEmpty then none else some (e.2.frameBase, e.2.nodes)) ++
  (s.patterns.loads.filterMap fun e => match e.2.base with
    | some b => some (b, (e.2.want - 64) / 64)
    | none => none)

/-- First fit from the allotment's first frame (R316): the candidates are its start and the end of every extent. -/
def findExtent (s : State) (base count n : Nat) : Option Nat :=
  let used := extents s
  let starts := base :: (used.map fun e => e.1 + e.2)
  let fits := starts.filter fun b => decide (base ≤ b) && decide (b + n ≤ base + count) &&
    used.all fun e => decide (b + n ≤ e.1) || decide (e.1 + e.2 ≤ b)
  match fits with
  | [] => none
  | b :: bs => some (bs.foldl Nat.min b)

/-- Node frame `k` of an image. -/
def frameOf (image : Bytes) (k : Nat) : Bytes := slice image (64 * k) 64

/-- Binding `b` of a frame. -/
def bindingOf (f : Bytes) (b : Nat) : Nat := num f (48 + 2 * b) 2
def bindV (w : Nat) : Bool := tbit w 15
def bindWide (w : Nat) : Bool := tbit w 12
def bindOff (w : Nat) : Nat := fld w 6 6

/-- A binding is valid (R319). -/
def bindingOk (w : Nat) : Bool :=
  if !bindV w then w == 0
  else !tbit w 14 && bindOff w % 4 == 0 && decide (8 ≤ bindOff w) && decide (bindOff w ≤ if bindWide w then 40 else 44)

/-- Some binding of a frame covers part of the four bytes at an offset. -/
def covered (f : Bytes) (off : Nat) : Bool :=
  (List.range 4).any fun b =>
    let w := bindingOf f b
    bindV w && decide (bindOff w < off + 4) && decide (off < bindOff w + if bindWide w then 8 else 4)

/-- Apply one binding (R319). -/
def applyBinding (params : List Nat) (t : Bytes) (w : Nat) : Bytes :=
  if !bindV w then t
  else
    let n := if bindWide w then 8 else 4
    let v := nth params (fld w 0 6) 0
    patchBytes t (bindOff w) (le n (if tbit w 13 then num t (bindOff w) n + v else v))

/-- A node's template with its bindings applied, in its frame. -/
def boundFrame (params : List Nat) (f : Bytes) : Bytes :=
  (List.range 4).foldl (fun t b => applyBinding params t (bindingOf f b)) f

/-! ### Structure of an image (R320, R324) -/

def nodeOps : List Nat := [0x01, 0x02, 0x03, 0x04, 0x06, 0x08, 0x09, 0x0D, 0x0E, 0x10, 0x11]

/-- NEXT of a frame. -/
def nextOf (f : Bytes) : Option Nat := let w := num f 6 2; if tbit w 15 then some (fld w 0 12) else none

/-- A frame keeps R318 to R320. -/
def frameOk (f : Bytes) : Bool :=
  let op := num f 4 1
  let fl := num f 5 1
  let fence := tbit (num f 56 1) 0
  num f 0 4 == 0 && nodeOps.contains op && !tbit fl 0 && !tbit fl 6 && !tbit fl 7 && fld (num f 6 2) 12 3 == 0 &&
  (List.range 4).all (fun b => bindingOk (bindingOf f b)) && decide (num f 56 1 < 2) && decide (num f 57 1 < 4) &&
  zeros f 58 6 && (!fence || ((op == 0x08 || op == 0x09) && !tbit fl 5)) &&
  (!fence || covered f 8 || decide (num f 8 4 < 32))

/-- The nodes reached from one by NEXT links, at most `fuel`; none when a link leaves the image. -/
def chainFrom (image : Bytes) (n : Nat) : Nat → Nat → Option (List Nat)
  | 0, _ => none
  | fuel + 1, k =>
    if k ≥ n then none
    else match nextOf (frameOf image k) with
      | none => some [k]
      | some j => (chainFrom image n fuel j).map (k :: ·)

/-- The chains of an image, each as its nodes in order; none when the structure is broken: a link leaves the image or
closes a cycle, a node is reached twice or never, or has another CHAIN_NO. -/
def chainsOf (image : Bytes) (n chains : Nat) (entry : List Nat) : Option (List (List Nat)) :=
  let cs := (List.range chains).map fun c => chainFrom image n n (nth entry c 0)
  if cs.any (·.isNone) then none
  else
    let cs := cs.filterMap id
    let all := cs.flatten
    if all.length = n && all.eraseDups.length = n &&
        (List.range chains).all (fun c => (nth cs c []).all fun k => num (frameOf image k) 57 1 == c) then some cs
    else none

/-- The chains that hold a SIGNAL of a local fence (R324, R330). -/
def signallers (p : Pattern) (f : Nat) : List Nat :=
  (List.range (p.chainsM1 + 1)).filter fun c => (List.range p.nodes).any fun k =>
    let fr := frameOf p.image k
    num fr 4 1 == 0x08 && tbit (num fr 56 1) 0 && num fr 8 4 == f && num fr 57 1 == c

/-- The fixed handles of a frame (R325): memory objects, events waited for, events signalled. -/
def fixedOf (f : Bytes) : List Nat × List Nat × List Nat :=
  let op := num f 4 1
  let at_ := fun off => if covered f off then [] else [num f off 4]
  if op = 0x08 then (if tbit (num f 56 1) 0 then ([], [], []) else ([], [], at_ 8))
  else if op = 0x09 then (if tbit (num f 56 1) 0 then ([], [], []) else ([], at_ 8, []))
  else if op = 0x06 then (at_ 8, [], [])
  else if op = 0x0E then ([], [], [])
  else (at_ 8 ++ at_ 12, [], [])

/-! ### Launch records (R330 to R332) -/

/-- The pattern of a launch record's key. -/
def launchPattern (k : Nat) : Nat := k / 16

def modLaunch (k : Nat) (f : Launch → Launch) (s : State) : State :=
  { s with patterns.launches := tmod s.patterns.launches k f }

/-- Started nodes of a launch that have not completed. -/
def executing (s : State) (k : Nat) : List (Nat × Desc) :=
  s.host.descs.filter fun e => match e.2.node with | some (r, _, _) => r == k | none => false

/-- Those of one chain. -/
def executingIn (s : State) (k c : Nat) : List (Nat × Desc) :=
  (executing s k).filter fun e => match e.2.node with | some (_, _, d) => d == c | none => false

/-- Chain `c` has no node left to start or to complete: in an ENDING launch none starts again (R332). -/
def chainEnded (s : State) (k : Nat) (l : Launch) (c : Nat) : Bool :=
  (l.state == 2 || (nth l.chains c none).isNone) && (executingIn s k c).isEmpty

/-- LIVE_LAUNCHES of a pattern. -/
def liveLaunches (s : State) (p : Nat) : Nat := tcount s.patterns.launches fun k _ => launchPattern k == p

/-- A started WAIT node on local fence `f` of a launch. -/
def waitsFence (k f : Nat) (d : Desc) : Bool :=
  d.started && d.outcome.isNone && opc d == 0x09 && isFence d && num d.bytes 8 4 == f &&
    match d.node with | some (r, _, _) => r == k | none => false

/-- A fence record of the tacking log (R472): the launch record in [47:32], the fence in [4:0], bit 63. -/
def fenceObject (k f : Nat) : Nat := f + 2 ^ 32 * k + 2 ^ 63

/-- Set a local fence and release what waits for it. -/
def setFence (k f : Nat) (s : State) : State :=
  match tget s.patterns.launches k with
  | none => s
  | some l =>
    let ctx := l.qid / 4
    let part := match ctxAt s ctx with | some c => c.partition | none => 0
    let n := nextLseq s hostIsland
    let on := tackOn 1 s
    let s := tack { rtype := 1, island := hostIsland, partition := part, context := ctx, object := fenceObject k f,
                    sigIsland := 0x3E, sigEp := 0, sigLseq := 0, detail := 0 } s
    let s := modLaunch k (fun l => { l with fences := l.fences ||| 2 ^ f }) s
    let ended : Tack :=
      { rtype := 2, island := hostIsland, partition := part, context := ctx, object := fenceObject k f,
        sigIsland := if on then hostIsland else 0x3E, sigEp := 0, sigLseq := if on then n else 0, detail := 0 }
    each (s.host.descs.filter fun e => waitsFence k f e.2) (fun e s => setOutcome e.1 stDone 0 0 0 (tack ended s)) s

/-- A fence that is not set and whose signalling chains have all ended is abandoned (R330). -/
def fenceDead (s : State) (k : Nat) (l : Launch) (f : Nat) : Bool :=
  match patternAt s (launchPattern k) with
  | some p => !tbit l.fences f && (signallers p f).all fun c => chainEnded s k l c
  | none => true

/-- Release the waits on abandoned fences. -/
def settleFences (k : Nat) (s : State) : State :=
  match tget s.patterns.launches k with
  | none => s
  | some l => each (List.range 32) (fun f s =>
      let ws := s.host.descs.filter fun e => waitsFence k f e.2
      if ws.isEmpty || !fenceDead s k l f then s
      else each ws (fun e s => setOutcome e.1 stAbandoned 0 0 0 s) (count 0xB071 8 s)) s

/-- Drop the references of an image (R325, R326). -/
def dropPatternRefs (p : Pattern) (s : State) : State :=
  let s := each p.objs unrefObj s
  let s := each p.evs (unrefEvent · false) s
  each p.sigs (unrefEvent · true) s

/-- Overrides of a LAUNCH (R329): slot and value. -/
def overrides (d : Desc) : List (Nat × Nat) :=
  ([(10, 16), (11, 24), (12, 32)].filter fun e => tbit (num d.bytes e.1 1) 6).map fun e =>
    (fld (num d.bytes e.1 1) 0 6, num d.bytes e.2 8)

/-- The operands of a LAUNCH keep R329. -/
def launchOk (d : Desc) : Bool :=
  let o := overrides d
  num d.bytes 9 1 == 0 && [10, 11, 12].all (fun k => !tbit (num d.bytes k 1) 7) && zeros d.bytes 13 3 &&
    zeros d.bytes 40 8 && (o.map (·.1)).eraseDups.length == o.length

/-- Start a launch in a free record (R329). -/
def startLaunch (k : Nat) (d : Desc) (p rec_ : Nat) (x : Pattern) (s : State) : State :=
  let l : Launch :=
    { state := 1, qid := d.queue, desc := k, launchNo := (x.launches + 1) % 2 ^ 32, fences := 0, paramSeq := x.paramSeq,
      params := (overrides d).foldl (fun ps o => setNth ps o.1 o.2) x.params, first := none, satSeen := false,
      chains := (List.range (x.chainsM1 + 1)).map fun c => some (nth x.entry c 0), faultHandle := 0, faultOffset := 0 }
  let s := modPattern p (fun x => { x with launches := (x.launches + 1) % 2 ^ 32 }) s
  count 0xB071 5
    { s with patterns.launches := tput s.patterns.launches (p * 16 + rec_) l,
             host.descs := tmod s.host.descs k fun d => { d with launch := some (p * 16 + rec_) } }

/-- The free record of a pattern with the lowest number. -/
def freeLaunch (s : State) (p : Nat) : Option Nat :=
  (List.range 16).find? fun r => !thas s.patterns.launches (p * 16 + r)

/-- A LAUNCH starts, waits or is refused (R329). -/
def tryLaunch (k : Nat) (s : State) : State :=
  match tget s.host.descs k with
  | none => { s with patterns.waiting := s.patterns.waiting.erase k }
  | some d =>
    let p := num d.bytes 8 1
    let gone := { s with patterns.waiting := s.patterns.waiting.erase k }
    if !launchOk d then setOutcome k stMalformed 0 0 0 gone
    else match patternAt s p with
      | none => setOutcome k stDenied 0 0 0 gone
      | some x =>
        let stay := if s.patterns.waiting.contains k then s
          else { s with patterns.waiting := s.patterns.waiting ++ [k] }
        if x.state = 1 then stay
        else if x.state = 0 || x.ctx ≠ descCtx d then setOutcome k stDenied 0 0 0 gone
        else match freeLaunch s p with
          | some r => startLaunch k d p r x gone
          | none =>
            if fBusyWait d then stay
            else setOutcome k stPatternBusy 0 0 0 (count 0xB071 6 gone)

/-- Waiting LAUNCHes try again in the order in which they started. -/
def retryLaunches (s : State) : State := each s.patterns.waiting tryLaunch s

/-- A launch that has nothing left to run ends (R332). -/
def settleLaunch (k : Nat) (s : State) : State :=
  let s := settleFences k s
  match tget s.patterns.launches k, patternAt s (launchPattern k) with
  | some l, some p =>
    let idle := (executing s k).isEmpty
    if !(if l.state = 2 then idle else idle && l.chains.all (·.isNone)) then s
    else
      let st := match l.first with
        | some (st, _) => st
        | none => if l.satSeen then stSaturated else stDone
      let result := l.paramSeq + (match l.first with | some (_, n) => 2 ^ 48 * n + 2 ^ 60 | none => 0)
      let s := if p.event = 0 then s else signalEvent (hIdx p.event) stDone s
      let s := setOutcome l.desc st result l.faultHandle l.faultOffset s
      retryLaunches { s with patterns.launches := tdel s.patterns.launches k }
  | _, _ => s

/-! ### Squash and deletion (R326, R334) -/

/-- The launches of a context are removed without an end (R334): their nodes go, their records are freed. -/
def squashLaunches (c : Nat) (s : State) : State :=
  let keys := (s.patterns.launches.filter fun e => e.2.qid / 4 == c).map (·.1)
  let nodes := s.host.descs.filter fun e => match e.2.node with | some (r, _, _) => keys.contains r | none => false
  let s := each nodes (fun e s => dropRefs e.2 { s with host.descs := tdel s.host.descs e.1 }) s
  let s := { s with patterns.launches := s.patterns.launches.filter fun e => !keys.contains e.1 }
  let mine := s.patterns.waiting.filter fun k => match tget s.host.descs k with
    | some d => descCtx d == c
    | none => true
  retryLaunches { s with patterns.waiting := s.patterns.waiting.filter fun k => !mine.contains k }

/-- Delete the patterns of a context (R326); loads under way for it have found their context gone. -/
def deletePatterns (c : Nat) (s : State) : State :=
  let mine := s.patterns.dir.filter fun e => e.2.ctx == c && !e.2.image.isEmpty
  let s := each mine (fun e s =>
    let s := dropPatternRefs e.2 s
    if e.2.state = 3 then
      modPattern e.1 (fun p => { p with state := 1, image := [], nodes := 0, objs := [], evs := [], sigs := [], event := 0,
                                        params := List.replicate 64 0, paramSeq := 0 }) s
    else { s with patterns.dir := tdel s.patterns.dir e.1 }) s
  retryLaunches s

end Sys2Proof.Machine
end

