-- ==== Sys2Proof/Machine/Contexts.lean ====
section
/-! DEFINITION. Contexts, memory objects, events and queues as the manager and tenant software make, use and end them
(R278 to R300, R311 to R315, R346). -/

namespace Sys2Proof.Machine

/-! ### What the rows name -/

/-- The session of a request; the objects held per session are those of the mailbox outside one (R425). -/
def sessNo (r : OdReq) : Nat := (sessOf r).getD 0

/-- The queue that objects 0x7104 and 0x7105 act on (R294). -/
def selectedQueue (s : State) (r : OdReq) : Nat := perSession s (sessNo r) 0x7103 1

/-- The page of a partition window answers: start-up is complete, the profile has contexts, and the ports are enabled
(R52, R93, R96, R435). -/
def windowUp (s : State) : Bool := running s && profile s == 0 && !s.power.retention && !s.power.quiesced

/-- A register write in a partition window (R10): one in a window that does not exist is discarded and counted. -/
def windowWrite (part : Nat) (f : State → State) (s : State) : State :=
  if !windowUp s then s
  else if part ≥ partitionsOf s.cfg then count 0xB031 0xA s
  else f s

/-! ### Removing a context's work (R48, R288, R459, R461) -/

/-- The queue descriptors of a context, in the order in which they were fetched. -/
def ctxDescs (s : State) (c : Nat) : List (Nat × Desc) :=
  s.host.descs.filter fun e => descCtx e.2 == c && e.2.node.isNone

/-- A descriptor of a context. -/
def isOfCtx (s : State) (c d : Nat) : Bool :=
  match tget s.host.descs d with | some x => descCtx x == c | none => false

/-- An offer of the context (R461): abandoned before HO_OFFER is sent, else it runs on and completes with
CONTEXT_RESET. -/
def cutOffer (c : Nat) (o : Offer) (s : State) : State :=
  if !isOfCtx s c o.desc then s
  else if o.step < 6 then countHandover 1 (offerBack o stContextReset s)
  else modOffer o.slot (fun o => { o with forced := some stContextReset }) s

/-- An acceptance of the context (R461): withdrawn while it waits in the offer table, else it runs on. The entry stays,
so that the offer it waited for is refused. -/
def cutAccept (c : Nat) (e : OfferEntry) (s : State) : State :=
  match e.accept with
  | none => s
  | some (d, _) =>
    if !isOfCtx s c d then s
    else if e.slot.isSome then modEntry e.offerer (fun x => { x with forced := some stContextReset }) s
    else
      let s := setOutcome d stContextReset 0 0 0 s
      match e.offer with
      | some o => countHandover 1 (dropEntry e.offerer (answerOffer e.offerer o stContextReset s))
      | none => modEntry e.offerer (fun x => { x with accept := none, forced := some stContextReset }) s

/-- Descriptors whose hand-over runs on. -/
def handsOver (s : State) (d : Nat) : Bool :=
  (s.fabric.offers.any fun o => o.desc == d) ||
  (s.fabric.offerTable.any fun e => match e.accept with | some (x, _) => x == d | none => false)

/-- Outbound requests of a context on which nothing waits any more: fetches, and when the context goes, its slots and
interrupt records too. -/
def loosen (c : Nat) (all : Bool) (q : OutReq) : OutReq :=
  match q.purpose with
  | .fetch k _ _ => if k / 4 = c then { q with purpose := .msi } else q
  | .completion x _ _ => if all && x == c then { q with purpose := .msi } else q
  | .record x => if all && x == c then { q with purpose := .msi } else q
  | _ => q

/-- The work of a context that is under way is removed, its descriptors and service jobs apart: units, transfers, nodes,
plait steps, hand-overs, fetches, scratch (R24, R48, R274, R334, R459 step 4, R461). -/
def squashWork (c : Nat) (s : State) : State :=
  let s := squashUnits (fun u => u.desc.context == some c) stContextReset s
  let s := refuseHeld (fun u => u.context == some c) stContextReset s
  let s := cutJobs c stContextReset s
  let s := endLeafSteps (isOfCtx s c) stContextReset s
  let s := squashLaunches c s
  let s := each s.fabric.offers (cutOffer c) s
  let s := each s.fabric.offerTable (cutAccept c) s
  { s with
    ports.outReqs := tmapAll s.ports.outReqs fun _ q => loosen c false q,
    host.queues := tmapAll s.host.queues fun k q => if k / 4 = c then { q with fetching := false } else q,
    tension.scratch := s.tension.scratch.filter fun e => e.2.context != some c }

/-- Everything of a context that is under way is removed, its descriptors apart, its shuttle lock and purl job among it
(R404, R459 step 4). -/
def squashCtx (c : Nat) (s : State) : State := squashWork c (endServices c s)

/-- The QUEUE and BOUNCE pins of a context are invalidated in SQUASH mode (R288 step 2, R459 step 5). -/
def dropCtxPins (c : Nat) (s : State) : State :=
  let pins := ((List.range 4).map fun q => (queueAt s (4 * c + q)).keyPin) ++
    (match ctxAt s c with | some x => x.bouncePins | none => [])
  each (pins.filter (· != 0)) (fun h s => invalidate h true s) s

/-! ### Destroying a context (R288, R293) -/

/-- A memory object of the context is freed or becomes DETACHED. -/
def detachObj (i : Nat) (s : State) : State := modObj i (fun o => { o with state := 3 }) s

/-- An event of the context is abandoned, or an ORPHAN while something can still signal it; then freed or DETACHED (log
entry 8). -/
def detachEvent (i : Nat) (s : State) : State :=
  let e := eventAt s i
  if e.state = 1 && e.signallers ≠ 0 then modEvent i (fun x => { x with orphan := true }) s
  else
    let s := if e.state = 1 then count 0xB070 8 (signalEvent i stAbandoned s) else s
    modEvent i (fun x => { x with state := 3 }) s

/-- A context's FAULT_EVENT binding is dropped (R311). -/
def unbindFault (c : Nat) (s : State) : State :=
  match ctxAt s c with
  | none => s
  | some x =>
    if x.faultEvent = 0 then s
    else unrefEvent (hIdx x.faultEvent) false (setCtx c (fun y => { y with faultEvent := 0 }) s)

/-- R288 from step 1 to step 5, in one piece (log entry 18). -/
def destroyContext (c : Nat) (s : State) : State :=
  let s := squashCtx c (setCtx c (fun x => { x with state := 4 }) s)
  let s := each (ctxDescs s c) (fun e s => dropRefs e.2 { s with host.descs := tdel s.host.descs e.1 }) s
  let s := dropCtxPins c (deletePatterns c (unbindFault c s))
  let s := each ((s.host.objs.filter fun e => e.2.ctx == c && e.2.state != 0).map (·.1)) detachObj s
  let s := each ((s.host.events.filter fun e => e.2.ctx == c && e.2.state != 0 && e.2.state != 3).map (·.1)) detachEvent s
  let mine := fun k => decide (k / 4 = c)
  retryUnits (endKeyUsers { s with
    host.ctxs := tdel s.host.ctxs c,
    host.queues := s.host.queues.filter fun e => !mine e.1,
    recovery.hang := s.recovery.hang.filter fun e => !mine e.1,
    ports.outReqs := tmapAll s.ports.outReqs fun _ q => loosen c true q })

/-! ### Contexts (R281, R288, R313) -/

/-- CONTEXT_CREATE (R281, R352, R468). -/
def ownContextCreate (r : OdReq) (v : Nat) (s : State) : Own :=
  let part := fld v 0 6
  let conds := [(fld v 6 2 != 0 || fld v 28 4 != 0 || fld v 64 64 != 0 || decide (part ≥ partitionsOf s.cfg), abRange),
    (s.recovery.quarantined || (partPin s part).isNone, abState)]
  let free := match tget s.parts part with
    | some p => lowestSuch (fun c => ctxState s c == 0) p.ctxCount p.ctxBase
    | none => none
  match firstAbort conds, free with
  | some a, _ => .abort a
  | none, none => .abort abBusy
  | none, some c =>
    .ok (setMine r 0x7101 3 c
      { s with host.ctxs := tput s.host.ctxs c (newCtx part (fld v 8 20) (fld v 32 32)) })

def execContextCreate (r : OdReq) (v : BitVec 128) (s : State) : Host.Outcome State Fault Refusal :=
  .next (odWrite r 0x7101 1 (le 16 v.toNat) (ownContextCreate r v.toNat) s)

/-- CONTEXT_DESTROY (R288, R462). -/
def ownContextDestroy (c : Nat) (s : State) : Own :=
  guarded [(decide (c ≥ contextsOf s.cfg), abRange), (!(ctxState s c == 1 || ctxState s c == 2), abState)]
    (destroyContext c s)

def execContextDestroy (r : OdReq) (v : BitVec 16) (s : State) : Host.Outcome State Fault Refusal :=
  .next (odWrite r 0x7101 2 (le 2 v.toNat) (ownContextDestroy v.toNat) s)

/-- PROCESS_RELEASE reaches a context: a RESETTING one is destroyed after its step 6 (R462). -/
def releaseContext (c : Nat) (s : State) : State :=
  if ctxState s c = 3 then { s with recovery.runs := tmod s.recovery.runs c fun x => { x with destroys := true } }
  else destroyContext c s

/-- PROCESS_RELEASE (R288): every context that carries the number. -/
def ownProcessRelease (v : Nat) (s : State) : Own :=
  .ok (each ((s.host.ctxs.filter fun e => e.2.ownerProc == v).map (·.1)) releaseContext s)

def execProcessRelease (r : OdReq) (v : BitVec 32) (s : State) : Host.Outcome State Fault Refusal :=
  .next (odWrite r 0x7101 5 (le 4 v.toNat) (ownProcessRelease v.toNat) s)

/-- Descriptors and nodes of a context that execute. -/
def executingCtx (s : State) (c : Nat) : Bool := s.host.descs.any fun e => descCtx e.2 == c && e.2.started

/-- CONTEXT_RESUME (R313). -/
def ownContextResume (c : Nat) (s : State) : Own :=
  match ctxAt s c with
  | none => .abort (if c ≥ contextsOf s.cfg then abRange else abState)
  | some x =>
    guarded [(x.state != 2 || !x.overflow.isEmpty || executingCtx s c, abState)]
      (each ((List.range 4).map (4 * c + ·)) pumpFetch
        (setCtx c (fun x => { x with state := 1, faultReason := 0, spill := false }) s))

def execContextResume (r : OdReq) (v : BitVec 16) (s : State) : Host.Outcome State Fault Refusal :=
  .next (odWrite r 0x7101 4 (le 2 v.toNat) (ownContextResume v.toNat) s)

/-- OVERFLOW_POP (R312): the oldest slot, or STATE. -/
def readOverflow (r : OdReq) (s : State) : State :=
  let g := readGate s r 0x7105 8 false
  if g ≠ 0 then answer r 1 0x7105 8 g 0 0 [] s
  else match ctxAt s (selectedQueue s r / 4) with
    | none => answer r 1 0x7105 8 abState 0 0 [] s
    | some x => match x.overflow with
      | [] => answer r 1 0x7105 8 abState 0 0 [] s
      | slot :: rest =>
        answer r 1 0x7105 8 0 0 0 slot (setCtx (selectedQueue s r / 4) (fun x => { x with overflow := rest }) s)

def execOverflowPop (r : OdReq) (s : State) : Host.Outcome State Fault Refusal :=
  .next (if pathUp s r then readOverflow r s else s)

/-! ### Memory objects (R284, R286, R287) -/

/-- The state that a creation in a context needs: ACTIVE, its partition in no teardown (R284, R352). -/
def ctxReady (s : State) (c : Nat) : Bool :=
  match ctxAt s c with | some x => x.state == 1 && partLive s x.partition | none => false

/-- The key index that a new object carries, and whether its range fits, by kind (R284): none where the index or the root
slot does not serve. -/
def objKidx (s : State) (kind part k : Nat) : Option Nat :=
  if kind = 0 then some 0
  else if kind = 1 then
    match kidxAt s k with
    | some e => if e.kind = 1 && e.state = 1 && !e.infra && e.partition = part then some k else none
    | none => none
  else match regionAt s k with
    | some r => if r.state = 2 && r.partition = part then some r.kidx else none
    | none => none

/-- Bytes of the space an object lies in (R284); a root slot that holds no region bounds nothing. -/
def objSpace (s : State) (kind k : Nat) : Nat :=
  if kind = 0 then 2 ^ 64
  else if kind = 1 then 2 ^ 46
  else match regionAt s k with
    | some r => 2 ^ r.sizeLog2
    | none => 2 ^ 64

/-- MEMOBJ_CREATE (R284). -/
def ownMemobjCreate (r : OdReq) (v : Nat) (s : State) : Own :=
  let c := fld v 0 10
  let kind := fld v 16 2
  let k := fld v 32 12
  let base := fld v 64 64
  let len := fld v 128 64
  let part := match ctxAt s c with | some x => x.partition | none => 0
  let resv := fld v 10 6 + fld v 20 12 + fld v 44 20 + fld v 192 64
  let range := resv != 0 || kind == 3 || (kind == 0 && k != 0) || len == 0 || decide (len ≥ 2 ^ 47) ||
    decide (base + len > objSpace s kind k) || decide (c ≥ contextsOf s.cfg)
  match firstAbort [(range, abRange), (!ctxReady s c, abState)], objKidx s kind part k,
      lowestSuch (fun i => (objAt s i).state == 0) 262143 1 with
  | some a, _, _ => .abort a
  | none, none, _ => .abort abState
  | none, some _, none => .abort abBusy
  | none, some kidx, some i =>
    let o : MemObj :=
      { state := 1, kind := kind, read := tbit v 18, write := tbit v 19, ctx := c, partition := part,
        gen := (objAt s i).gen, base := base, length := len, kidx := kidx, dev := 0, host := 1 }
    .ok (setMine r 0x7106 2 (mkHandle i o.gen) { s with host.objs := tput s.host.objs i o })

def execMemobjCreate (r : OdReq) (v : BitVec 256) (s : State) : Host.Outcome State Fault Refusal :=
  .next (odWrite r 0x7106 1 (le 32 v.toNat) (ownMemobjCreate r v.toNat) s)

/-- A handle names an entry in use of its GEN. -/
def objNamed (s : State) (h : Nat) : Bool := (objAt s (hIdx h)).state != 0 && (objAt s (hIdx h)).gen == hGen h

/-- MEMOBJ_FREE (R286, R287). -/
def ownMemobjFree (h : Nat) (s : State) : Own :=
  guarded [(!objNamed s h || (objAt s (hIdx h)).host == 0, abState)]
    (modObj (hIdx h) (fun o => { o with host := o.host - 1 }) s)

def execMemobjFree (r : OdReq) (v : BitVec 32) (s : State) : Host.Outcome State Fault Refusal :=
  .next (odWrite r 0x7106 3 (le 4 v.toNat) (ownMemobjFree v.toNat) s)

/-- MEMOBJ_HOST_REF (R286). -/
def ownMemobjHostRef (h : Nat) (s : State) : Own :=
  guarded [(!objFresh s h, abState), (decide ((objAt s (hIdx h)).host ≥ 0xFFFF), abRange)]
    (modObj (hIdx h) (fun o => { o with host := o.host + 1 }) s)

def execMemobjHostRef (r : OdReq) (v : BitVec 32) (s : State) : Host.Outcome State Fault Refusal :=
  .next (odWrite r 0x7106 4 (le 4 v.toNat) (ownMemobjHostRef v.toNat) s)

/-! ### Events (R286, R287, R289 to R291, R311) -/

/-- EVENT_CREATE (R289, R468). -/
def ownEventCreate (r : OdReq) (v : Nat) (s : State) : Own :=
  let c := fld v 0 10
  let part := match ctxAt s c with | some x => x.partition | none => 0
  let range := fld v 10 6 + fld v 20 44 != 0 || decide (c ≥ contextsOf s.cfg)
  match firstAbort [(range, abRange), (s.recovery.quarantined || !ctxReady s c, abState)],
      lowestSuch (fun i => (eventAt s i).state == 0) 65535 1 with
  | some a, _ => .abort a
  | none, none => .abort abBusy
  | none, some i =>
    let e : Event :=
      { noEvent with state := if tbit v 19 then 2 else 1, hostSignal := tbit v 16, shared := tbit v 17, intr := tbit v 18,
                     ctx := c, partition := part, gen := (eventAt s i).gen, host := 1, cookie := fld v 64 64 }
    .ok (setMine r 0x7107 2 (mkHandle i e.gen) { s with host.events := tput s.host.events i e })

def execEventCreate (r : OdReq) (v : BitVec 128) (s : State) : Host.Outcome State Fault Refusal :=
  .next (odWrite r 0x7107 1 (le 16 v.toNat) (ownEventCreate r v.toNat) s)

/-- EVENT_FREE (R286, R287). -/
def ownEventFree (h : Nat) (s : State) : Own :=
  let e := eventAt s (hIdx h)
  guarded [(e.state == 0 || e.gen != hGen h || e.host == 0, abState)]
    (modEvent (hIdx h) (fun e => { e with host := e.host - 1 }) s)

def execEventFree (r : OdReq) (v : BitVec 32) (s : State) : Host.Outcome State Fault Refusal :=
  .next (odWrite r 0x7107 3 (le 4 v.toNat) (ownEventFree v.toNat) s)

/-- EVENT_HOST_REF (R286). -/
def ownEventHostRef (h : Nat) (s : State) : Own :=
  guarded [(!eventFresh s h, abState), (decide ((eventAt s (hIdx h)).host ≥ 0xFFFF), abRange)]
    (modEvent (hIdx h) (fun e => { e with host := e.host + 1 }) s)

def execEventHostRef (r : OdReq) (v : BitVec 32) (s : State) : Host.Outcome State Fault Refusal :=
  .next (odWrite r 0x7107 4 (le 4 v.toNat) (ownEventHostRef v.toNat) s)

/-- A command of the event signal page (R291): SIGNAL 1, RESET 2; any other, and one that names no event it may act on, is
discarded and counted. -/
def windowCmd (part v : Nat) (s : State) : State :=
  let h := fld v 0 32
  let op := fld v 32 2
  let e := eventAt s (hIdx h)
  if !(op == 1 || op == 2) || !eventFresh s h || e.partition ≠ part || !e.hostSignal || !partLive s part then
    count 0xB070 4 s
  else if op = 1 then signalEvent (hIdx h) stDone s
  else if e.state = 2 && e.sigStatus ≠ stAbandoned then
    modEvent (hIdx h) (fun x => { x with state := 1, sigStatus := 0 }) s
  else s

/-- A window SIGNAL (R291). -/
def execWindowSignal (part : Nat) (v : BitVec 64) (s : State) : Host.Outcome State Fault Refusal :=
  .next (windowWrite part (windowCmd part v.toNat) s)

/-- A window RESET (R290, R291). -/
def execWindowReset (part : Nat) (v : BitVec 64) (s : State) : Host.Outcome State Fault Refusal :=
  .next (windowWrite part (fun s => windowCmd part v.toNat s) s)

/-- FAULT_EVENT (R311): an event the context owns or a SHARED one of its partition, or 0. -/
def ownFaultEvent (r : OdReq) (h : Nat) (s : State) : Own :=
  let c := selectedQueue s r / 4
  match ctxAt s c with
  | none => if h = 0 then .ok s else .abort abState
  | some x =>
    let e := eventAt s (hIdx h)
    guarded [(h != 0 && !(eventFresh s h && (e.ctx == c || (e.shared && e.partition == x.partition))), abState)]
      (let s := if h = 0 then s else modEvent (hIdx h) (fun e => { e with dev := e.dev + 1 }) s
       setCtx c (fun x => { x with faultEvent := h }) (unbindFault c s))

def execFaultEventWrite (r : OdReq) (v : BitVec 32) (s : State) : Host.Outcome State Fault Refusal :=
  .next (odWrite r 0x7105 5 (le 4 v.toNat) (ownFaultEvent r v.toNat) s)

/-! ### Queues (R294, R297, R299) -/

/-- QUEUE_RESTART (R299): EXHAUSTED when its last alive value has been consumed (R300). -/
def ownQueueRestart (r : OdReq) (s : State) : Own :=
  let q := selectedQueue s r
  guarded [((queueAt s q).state != 2, abState)]
    (pumpFetch q (setQueue q (fun x => { x with state := if x.aliveNext ≥ 0xFFFFFFFF then 3 else 1 }) s))

def execQueueRestart (r : OdReq) (v : BitVec 8) (s : State) : Host.Outcome State Fault Refusal :=
  .next (odWrite r 0x7104 0xA (le 1 v.toNat) (ownQueueRestart r) s)

/-- A doorbell slot of the context's partition serves another queue (R294). -/
def doorbellTaken (s : State) (q slot : Nat) : Bool :=
  match ctxAt s (q / 4) with
  | none => false
  | some c => slot != 0xFFFF && s.host.queues.any fun e => e.1 != q && e.2.doorbell == slot &&
      match ctxAt s (e.1 / 4) with | some x => x.partition == c.partition | none => false

/-- RING_BASE, RING_LOG2, COMPL_BASE and DOORBELL_SLOT (R294): only while the queue is IDLE. The queues of a FREE context
keep nothing (R281, log entry 19). -/
def ownQueueConfig (r : OdReq) (sub v : Nat) (s : State) : Own :=
  let q := selectedQueue s r
  if sub = 0xA then ownQueueRestart r s
  else
    guarded [((queueAt s q).state != 0 || (sub == 6 && doorbellTaken s q v), abState)]
      (if (ctxAt s (q / 4)).isNone then s
       else setQueue q (fun x =>
         if sub = 3 then { x with ringBase := v }
         else if sub = 4 then { x with ringLog2 := v }
         else if sub = 5 then { x with complBase := v }
         else { x with doorbell := v }) s)

/-- Bytes of the writable objects of 0x7104. -/
def queueObjLen (sub : Nat) : Nat := if sub = 3 || sub = 5 then 8 else if sub = 6 then 2 else 1

def execQueueConfigWrite (r : OdReq) (sub : BitVec 8) (v : BitVec 64) (s : State) : Host.Outcome State Fault Refusal :=
  .next (odWrite r 0x7104 sub.toNat (le (queueObjLen sub.toNat) v.toNat) (ownQueueConfig r sub.toNat v.toNat) s)

/-! ### Tenant sessions and key import (R295, R346, R347) -/

/-- The secured messages of a session reach the block: it is open and its path serves (R346, R372). -/
def securedUp (s : State) (k : Nat) : Bool :=
  match tget s.domain.sessions k with
  | some x => x.opened && pathUp s { path := x.path, sess := some k, txn := 0 }
  | none => false

/-- The partition that a session is bound to: BOUND names the session (R347). -/
def boundPart (s : State) (k : Nat) : Option Nat :=
  (s.parts.find? fun e => e.2.bound == some k && e.2.state == 1).map (·.1)

/-- The answer to a secured request (R346): handed over, and delivered on the session's path as a record. -/
def securedAnswer (k st : Nat) (body : Bytes) (s : State) : State :=
  match tget s.domain.sessions k with
  | none => s
  | some x => respond x.path (Config.securedRecord x.secret s.free (le 1 st ++ body))
      (emit (.secured k st body) { s with free := s.free + 1 })

/-- A secured request with its rights, form and own conditions in order (R346). -/
def securedRow (k : Nat) (right form : Bool) (act : State → Except Nat (Bytes × State)) (s : State) : State :=
  if !securedUp s k then s
  else if !right then securedAnswer k stDenied [] s
  else if !form then securedAnswer k stMalformed [] s
  else match act s with
    | .error st => securedAnswer k st [] s
    | .ok (b, t) => securedAnswer k stDone b t

/-- The form of a KEY_IMPORT body (R295). -/
def importForm (s : State) (b : Bytes) : Bool :=
  let p := num b 0 1
  b.length == 44 && zeros b 8 4 && decide (num b 2 2 < contextsOf s.cfg) &&
  if p = puQueue then decide (num b 1 1 < 4) && decide (1 ≤ num b 4 4) && decide (num b 4 4 ≤ 0xFFFFFFFE)
  else p == puBounce && decide (num b 1 1 < 2) && num b 4 4 == 0

/-- The queue takes its new key (R295). -/
def armQueue (q h alive : Nat) (key : Bytes) (s : State) : State :=
  let old := (queueAt s q).keyPin
  let s := if old = 0 then s else invalidate old false s
  pumpFetch q (setQueue q (fun x =>
    { x with state := 1, keyPin := h, key := key, aliveNext := alive, rejects := 0, refused := false }) s)

/-- A direction takes its new bounce key (R295, R309); the pattern sequence floor returns to 0 with the host-to-device one
(R322). -/
def setBounce (c dir h : Nat) (s : State) : State :=
  let old := match ctxAt s c with | some x => nth x.bouncePins dir 0 | none => 0
  let s := if old = 0 then s else invalidate old false s
  setCtx c (fun x => { x with bouncePins := setNth x.bouncePins dir h, floors := setNth x.floors dir 0,
                              patFloor := if dir = 0 then 0 else x.patFloor }) s

/-- KEY_IMPORT after its form: the conditions of R295 in order. -/
def importKey (k : Nat) (b : Bytes) (s : State) : Except Nat (Bytes × State) :=
  let c := num b 2 2
  let sel := num b 1 1
  let isQueue := num b 0 1 == puQueue
  let q := 4 * c + sel
  match boundPart s k with
  | none => .error stDenied
  | some part =>
    let ours := match ctxAt s c with | some x => x.state == 1 && x.partition == part | none => false
    if !ours then .error stDenied
    else if isQueue && !(queueDescs s q).isEmpty then .error stDenied
    else match partPin s part with
      | none => .error stKeyGone
      | some pp =>
        if !heldRoom s part then .error stTableFull
        else match createPin { purpose := num b 0 1, level := 5, kind := 2, objA := if isQueue then q else c,
                               objB := if isQueue then 0 else sel, parent := pp, value := slice b 12 32, source := 3 } s with
          | .error st => .error st
          | .ok (h, s) =>
            .ok (le 4 h, endKeyUsers (if isQueue then armQueue q h (num b 4 4) (slice b 12 32) s else setBounce c sel h s))

/-- KEY_IMPORT (R295, R346, R468). -/
def keyImport (k : Nat) (b : Bytes) (s : State) : State :=
  securedRow k ((boundPart s k).isSome && !s.recovery.quarantined) (importForm s b) (importKey k b) s

/-- KEY_IMPORT of a QUEUE key. -/
def execKeyImportQueue (sess : Nat) (body : Bytes) (s : State) : Host.Outcome State Fault Refusal :=
  .next (keyImport sess body s)

/-- KEY_IMPORT of a BOUNCE key. -/
def execKeyImportBounce (sess : Nat) (body : Bytes) (s : State) : Host.Outcome State Fault Refusal :=
  .next (keyImport sess body s)

/-- DOORBELL (R296, R297): accepted for a slot that serves a queue which is not IDLE, with reserved bits zero and no more
pending than the ring holds. -/
def ringDoorbell (part slot v : Nat) (s : State) : State :=
  let serves := fun (e : Nat × Queue) => e.2.doorbell == slot && e.2.state != 0 &&
    match ctxAt s (e.1 / 4) with | some x => x.partition == part | none => false
  match s.host.queues.find? serves with
  | none => count 0xB070 3 s
  | some (q, x) =>
    if v ≥ 2 ^ 32 || slot ≥ 4096 || (v + 2 ^ 32 - x.consumer) % 2 ^ 32 > 2 ^ x.ringLog2 then count 0xB070 3 s
    else pumpFetch q (setQueue q (fun x => { x with producer := v }) s)

def execDoorbell (part : Nat) (slot : Nat) (v : BitVec 64) (s : State) : Host.Outcome State Fault Refusal :=
  .next (windowWrite part (ringDoorbell part slot v.toNat) s)

end Sys2Proof.Machine
end

