-- ==== Sys2Proof/Machine/Descriptors.lean ====
section
/-! DEFINITION. Descriptors: their field and handle checks, the start scheduler, what each opcode does, sealed blobs and
dumps, and completion (R285, R290, R299 to R310, R333, R464, R477 to R479). -/

namespace Sys2Proof.Machine

/-! ### Fields (R301, R302, R303) -/

/-- Bytes of `d` in the given runs are zero. -/
def clearRuns (d : Desc) (l : List (Nat × Nat)) : Bool := l.all fun e => zeros d.bytes e.1 e.2

/-- Chunks of a sealed transfer (R308). -/
def chunksOf (len : Nat) : Nat := ceilDiv len 4096

/-- Parts of a dump (R478). -/
def dumpParts (len : Nat) : Nat := ceilDiv len 65536

def isSealing (op : Nat) : Bool := op == 0x03 || op == 0x04 || op == 0x10 || op == 0x11
/-- Sealed to plain: UNSEAL and BOUNCE_IN. -/
def isInbound (op : Nat) : Bool := op == 0x04 || op == 0x10

/-- KINDS of a descriptor: the expected kind of handle `i`, and the whole byte. -/
def kindsByte (d : Desc) : Nat :=
  let o := opc d
  if o = 0x01 then num d.bytes 44 1
  else if o = 0x02 then num d.bytes 46 1
  else if isSealing o then num d.bytes 40 1
  else if o = 0x06 then num d.bytes 21 1
  else if o = 0x0D then num d.bytes 42 1
  else 0
def kindAt (d : Desc) (i : Nat) : Nat := fld (kindsByte d) (2 * i) 2

/-- KINDS names no reserved kind and has no bit beyond its handles. -/
def kindsOk (d : Desc) : Bool :=
  let n := (objHandles d).length
  decide (kindsByte d < 2 ^ (2 * n)) && (List.range n).all fun i => kindAt d i != 3

/-- The operand bytes of an opcode keep R302 and R303: unused bytes zero, lengths, the overlap of a COPY, the rules of an
ATOMIC and of a chunk sequence. -/
def operandsOk (d : Desc) : Bool :=
  let o := opc d
  let b := d.bytes
  let u := num b
  if o = 0x01 then
    decide (1 ≤ u 32 8) && decide (u 32 8 ≤ 2 ^ 30) && clearRuns d [(45, 3)] &&
    !(u 8 4 == u 12 4 && decide (u 16 8 < u 24 8 + u 32 8) && decide (u 24 8 < u 16 8 + u 32 8))
  else if o = 0x02 then clearRuns d [(47, 1)]
  else if isSealing o then
    decide (1 ≤ u 28 4) && decide (u 28 4 ≤ 2 ^ 26) && decide (u 32 8 + chunksOf (u 28 4) ≤ 2 ^ 64 - 1) && clearRuns d [(41, 7)]
  else if o = 0x06 then
    decide (u 20 1 ≤ 0xB) && u 12 8 % 8 == 0 && clearRuns d [(22, 2), (44, 4)] && (u 20 1 == 5 || u 32 8 == 0) &&
    (u 20 1 != 0xA || u 24 8 == 0)
  else if o = 0x08 then clearRuns d [(12, 36)]
  else if o = 0x09 then clearRuns d [(16, 32)]
  else if o = 0x0A then launchOk d
  else if o = 0x0B then clearRuns d [(12, 36)]
  else if o = 0x0C then clearRuns d [(10, 38)]
  else if o = 0x0D then
    decide (1 ≤ u 24 4) && decide (u 24 4 ≤ 2 ^ 30) && decide (1 ≤ u 40 2) && decide (u 40 2 ≤ 15) && clearRuns d [(43, 5)]
  else o == 0x0E && clearRuns d [(8, 40)]

/-- The descriptor's own fields (R285, R298, R301): a node's CHAIN names its next node, and its fence is below 32
(R318, R330). -/
def fieldsOk (d : Desc) : Bool :=
  !d.badAlive && !flagOf d 7 && (d.node.isSome || zeros d.bytes 6 2) && kindsOk d && operandsOk d &&
  (!isFence d || decide (num d.bytes 8 4 < 32))

/-! ### Handles (R285, R308, R478) -/

/-- One use of an object: handle, expected kind, kinds the opcode allows, read, write, whether a HOST object carries
plaintext, offset and length. -/
structure Use where
  handle : Nat
  kind : Nat
  allowed : List Nat
  read : Bool
  write : Bool
  clear : Bool
  off : Nat
  len : Nat
deriving DecidableEq, Repr

/-- What a descriptor does with the objects it names, in the order in which it names them. -/
def usesOf (s : State) (d : Desc) : List Use :=
  let o := opc d
  let u := num d.bytes
  let any := [0, 1, 2]
  let h := fun i => nth (objHandles d) i 0
  if o = 0x01 then
    [⟨h 0, kindAt d 0, any, true, false, true, u 16 8, u 32 8⟩, ⟨h 1, kindAt d 1, any, false, true, true, u 24 8, u 32 8⟩]
  else if o = 0x02 then
    let z := match plaitAt s (u 44 2) with | some p => plaitSizes (plRec p.bytes) | none => (0, 0)
    [⟨h 0, kindAt d 0, any, true, false, true, u 16 8, z.1⟩, ⟨h 1, kindAt d 1, any, false, true, true, u 24 8, z.2⟩]
  else if isSealing o then
    let n := u 28 4
    let sealed := if o = 0x03 || o = 0x04 then any else [0]
    [⟨h 0, kindAt d 0, sealed, isInbound o, !isInbound o, false, 4096 * u 16 4, 4112 * chunksOf n⟩,
     ⟨h 1, kindAt d 1, [1, 2], !isInbound o, isInbound o, false, u 20 8, n⟩]
  else if o = 0x06 then [⟨h 0, kindAt d 0, [2], true, u 20 1 != 0xA, false, u 12 8, 8⟩]
  else if o = 0x0D then
    [⟨h 0, kindAt d 0, [1, 2], true, false, false, u 16 8, u 24 4⟩,
     ⟨h 1, kindAt d 1, any, false, true, false, 0, u 24 4 + 80 * dumpParts (u 24 4)⟩]
  else []

/-- A handle that the node's pattern holds as a fixed one (R325). -/
def fixedHandle (s : State) (d : Desc) (h : Nat) : Bool :=
  match d.node with
  | none => false
  | some (k, n, _) => match patternAt s (launchPattern k) with
    | none => false
    | some p =>
      let f := fixedOf (frameOf p.image n)
      f.1.contains h || f.2.1.contains h || f.2.2.contains h

/-- A reference on the object, or event, of a handle is held for the descriptor already (R287). -/
def heldObj (s : State) (d : Desc) (h : Nat) : Bool :=
  (d.objs.contains (hIdx h) || fixedHandle s d h) && (objAt s (hIdx h)).gen == hGen h &&
  ((objAt s (hIdx h)).state == 1 || (objAt s (hIdx h)).state == 2)
def heldEvent (s : State) (d : Desc) (h : Nat) : Bool :=
  (d.evs.contains (hIdx h) || fixedHandle s d h) && (eventAt s (hIdx h)).gen == hGen h && (eventAt s (hIdx h)).state != 0

/-- The checks of one object in the order of R285; 0 when all pass. -/
def checkUse (s : State) (d : Desc) (u : Use) : Nat :=
  let o := objAt s (hIdx u.handle)
  if u.handle = 0 then stMalformed
  else if !(objFresh s u.handle || heldObj s d u.handle) then stStale
  else if o.ctx ≠ descCtx d then stDenied
  else if o.kind ≠ u.kind || !u.allowed.contains o.kind then stDenied
  else if (u.read && !o.read) || (u.write && !o.write) then stDenied
  else if u.clear && o.kind = 0 && !fClearOk d then stDenied
  else if u.off + u.len > o.length then stDenied
  else if o.kind = 0 then stDone
  else kidxCheck s o.kidx (some (descPart s d)) (o.kind == 2)

/-- The checks of one event (R285, R289). -/
def checkEvent (s : State) (d : Desc) (h : Nat) : Nat :=
  let e := eventAt s (hIdx h)
  if h = 0 then stMalformed
  else if !(eventFresh s h || heldEvent s d h) then stStale
  else if e.ctx = descCtx d || (e.shared && e.partition = descPart s d) then stDone
  else stDenied

/-- The first status other than DONE, with its handle. -/
def firstBad : List (Nat × Nat) → Option (Nat × Nat)
  | [] => none
  | (st, h) :: rest => if st = stDone then firstBad rest else some (st, h)

/-! ### The bounce pins (R308, R309) -/

/-- Direction of a sealed transfer: 0 host to device, 1 device to host. -/
def directionOf (d : Desc) : Nat := if isInbound (opc d) then 0 else 1

/-- Handle of the context's BOUNCE pin of a direction, 0 none; and its sequence floor. -/
def bouncePin (s : State) (d : Desc) : Nat :=
  match ctxAt s (descCtx d) with | some c => nth c.bouncePins (directionOf d) 0 | none => 0
def floorOf (s : State) (d : Desc) : Nat :=
  match ctxAt s (descCtx d) with | some c => nth c.floors (directionOf d) 0 | none => 0

/-- Checks 3 and 4 of R309. -/
def bounceBar (s : State) (d : Desc) : Nat :=
  if bouncePin s d = 0 then stDenied
  else if !live s (bouncePin s d) then stKeyGone
  else if num d.bytes 32 8 < floorOf s d then stReplayed
  else stDone

/-- What a descriptor that starts is stopped with: status and handle; none when it runs (R285, R309). -/
def startBar (s : State) (d : Desc) : Option (Nat × Nat) :=
  if !fieldsOk d then some (stMalformed, 0)
  else match firstBad (((usesOf s d).map fun u => (checkUse s d u, u.handle)) ++
      ((eventHandles d).map fun h => (checkEvent s d h, h))) with
    | some e => some e
    | none => if isSealing (opc d) && bounceBar s d ≠ stDone then some (bounceBar s d, 0) else none

/-! ### Starting (R285, R286, R299, R309, R331) -/

/-- References on what the descriptor names and does not hold yet. -/
def takeMore (k : Nat) (s : State) : State :=
  match tget s.host.descs k with
  | none => s
  | some d =>
    let objs := ((objHandles d).filter fun h => objFresh s h && !d.objs.contains (hIdx h) && !fixedHandle s d h).map hIdx
    let evs := ((eventHandles d).filter fun h => eventFresh s h && !d.evs.contains (hIdx h) && !fixedHandle s d h).map hIdx
    let s := each objs refObj s
    let s := each evs (fun i s => modEvent i (fun e =>
      { e with dev := e.dev + 1, signallers := e.signallers + bit (opc d == 0x08) }) s) s
    { s with host.descs := tmod s.host.descs k fun d => { d with objs := d.objs ++ objs, evs := d.evs ++ evs } }

/-- Descriptor `k` starts: the checks that fail give its outcome, else a sealed transfer takes its floor and its pin. -/
def startDesc (k : Nat) (s : State) : State :=
  let s := { s with
    host.starts := s.host.starts + 1,
    host.descs := tmod s.host.descs k fun d =>
                    { d with started := true, startTick := s.tick, order := s.host.starts + 1 } }
  match tget s.host.descs k with
  | none => s
  | some d =>
    match startBar s d with
    | some (st, h) => setOutcome k st 0 h 0 (countKeyGone st s)
    | none =>
      let s := takeMore k s
      if isSealing (opc d) then
        let pin := bouncePin s d
        let next := num d.bytes 32 8 + chunksOf (num d.bytes 28 4)
        setCtx (descCtx d) (fun c => { c with floors := setNth c.floors (directionOf d) next })
          { s with host.descs := tmod s.host.descs k fun d => { d with pin := pin } }
      else s

/-- May a descriptor or node start behind the earlier ones that have started and not completed (R299)? -/
def mayStart (op : Nat) (overlap : Bool) (earlier : List Desc) : Bool :=
  earlier.isEmpty || (overlap && op != 0x08 && earlier.all fun e => opc e != 0x09)

/-- The context, its partition and the block let work start (R350, R459, R468). -/
def startsOpen (s : State) (c : Nat) : Bool :=
  !s.recovery.quarantined && match ctxAt s c with | some x => x.state == 1 && partLive s x.partition | none => false

/-- The next descriptor of a queue, when it may start: that of an EXHAUSTED queue too, which has been fetched already. -/
def queueNext (s : State) (q : Nat) : Option Nat :=
  let st := (queueAt s q).state
  if !(st == 1 || st == 3) || !startsOpen s (q / 4) then none
  else
    let l := queueDescs s q
    match l.find? fun e => !e.2.started with
    | none => none
    | some (k, d) =>
      if mayStart (opc d) (fOverlap d) ((l.filter fun e => e.2.started).map (·.2)) then some k else none

/-! ### The start scheduler (R333) -/

/-- A start candidate: priority, partition, context, and a queue descriptor, or chain `c` of launch record `k`. -/
structure Cand where
  prio : Nat
  part : Nat
  ctx : Nat
  desc : Option Nat
  chain : Nat × Nat
deriving DecidableEq, Repr

def partOf (s : State) (c : Nat) : Nat := match ctxAt s c with | some x => x.partition | none => 0

/-- Candidates among the queues. -/
def queueCands (s : State) : List Cand :=
  s.host.queues.filterMap fun e => (queueNext s e.1).map fun k =>
    { prio := e.1 % 4, part := partOf s (e.1 / 4), ctx := e.1 / 4, desc := some k, chain := (0, 0) }

/-- Effective priority of a chain (R333). -/
def chainPrioOf (p : Pattern) (l : Launch) (c : Nat) : Nat := Nat.max (fld p.chainPrio (2 * c) 2) (l.qid % 4)

/-- Chain `c` of launch `k` may start its next node (R331). -/
def chainReady (s : State) (k : Nat) (l : Launch) (p : Pattern) (c : Nat) : Bool :=
  match nth l.chains c none with
  | none => false
  | some n =>
    let f := frameOf p.image n
    let run := (executingIn s k c).map (·.2)
    l.state == 1 && decide (run.length < 16) && mayStart (num f 4 1) (tbit (num f 5 1) 1) run && startsOpen s (l.qid / 4)

/-- Candidates among the chains of the live launches. -/
def chainCands (s : State) : List Cand :=
  s.patterns.launches.flatMap fun e => match patternAt s (launchPattern e.1) with
    | none => []
    | some p => ((List.range (p.chainsM1 + 1)).filter (chainReady s e.1 e.2 p)).map fun c =>
        { prio := chainPrioOf p e.2 c, part := partOf s (e.2.qid / 4), ctx := e.2.qid / 4, desc := none,
          chain := (e.1, c) }

/-- The round of weights 4, 2 and 1 (R333 step 2). -/
def weightRound : List Nat := [1, 1, 1, 1, 2, 2, 3]

/-- The member of a list that follows `last` in a rotation over rising values. -/
def nextRound (last : Option Nat) (xs : List Nat) : Option Nat :=
  let least := fun (l : List Nat) => match l with | [] => none | y :: ys => some (ys.foldl Nat.min y)
  match last with
  | none => least xs
  | some n => match least (xs.filter (n < ·)) with
    | some x => some x
    | none => least xs

/-- Step 1 and 2: the priority served, and the place after it. -/
def pickPrio (place : Nat) (cs : List Cand) : Option (Nat × Nat) :=
  if cs.any (·.prio == 0) then some (0, place)
  else
    let at_ := (List.range 7).map fun i => (place + i) % 7
    match at_.find? fun i => cs.any (·.prio == nth weightRound i 0) with
    | some i => some (nth weightRound i 0, (i + 1) % 7)
    | none => none

/-- Step 3: the partition served, and the deficit it has left (BOBBIN_SHARE, R333). -/
def pickPart (s : State) (prio : Nat) (cs : List Cand) : Option (Nat × Nat) :=
  let last := tget s.host.sched.lastPart prio
  let parts := cs.map (·.part)
  let stay := match last with
    | some p => if parts.contains p && tgetD s.host.sched.deficit (prio * 64 + p) 0 ≥ 1 then some p else none
    | none => none
  match stay with
  | some p => some (p, tgetD s.host.sched.deficit (prio * 64 + p) 0 - 1)
  | none => (nextRound last parts).map fun p => (p, setting s 0x7401 (p + 1) - 1)

/-- The key of a chain candidate in the rotation of step 5. -/
def chainKey (c : Cand) : Nat := c.chain.1 * 8 + c.chain.2

/-- The candidate chosen, and the scheduler after it (R333). -/
def choose (s : State) (cs : List Cand) : Option (Cand × Sched) :=
  let sc := s.host.sched
  match pickPrio sc.place cs with
  | none => none
  | some (prio, place) =>
    let cs := cs.filter (·.prio == prio)
    match pickPart s prio cs with
    | none => none
    | some (part, left) =>
      let cs := cs.filter (·.part == part)
      match nextRound (tget sc.lastCtx (prio * 64 + part)) (cs.map (·.ctx)) with
      | none => none
      | some ctx =>
        let cs := cs.filter (·.ctx == ctx)
        let sc := { sc with place := place, deficit := tput sc.deficit (prio * 64 + part) left,
                            lastPart := tput sc.lastPart prio part, lastCtx := tput sc.lastCtx (prio * 64 + part) ctx }
        match cs.find? (·.desc.isSome) with
        | some c => some (c, sc)
        | none =>
          let chains := cs.filter (·.desc.isNone)
          match nextRound (tget sc.lastChain (prio * 1024 + ctx)) (chains.map chainKey) with
          | none => none
          | some key => (chains.find? fun c => chainKey c == key).map fun c =>
              (c, { sc with lastChain := tput sc.lastChain (prio * 1024 + ctx) key })

/-- The next node of a chain starts (R331): its bindings applied, its next node named. -/
def startNode (prio k c : Nat) (s : State) : State :=
  match tget s.patterns.launches k, patternAt s (launchPattern k) with
  | some l, some p =>
    (match nth l.chains c none with
     | none => s
     | some n =>
       let f := frameOf p.image n
       let seq := match tget s.host.descs l.desc with | some d => d.seq | none => 0
       let d := { newDesc (l.qid / 4 * 4 + prio) seq 0 (boundFrame l.params f) [] false with node := some (k, n, c) }
       let id_ := s.host.nextDesc
       let s := { s with host.descs := tput s.host.descs id_ d, host.nextDesc := id_ + 1 }
       startDesc id_ (count 0xB071 7 (modLaunch k (fun l => { l with chains := setNth l.chains c (nextOf f) }) s)))
  | _, _ => s

/-- DESCRIPTOR_START: one decision of the start scheduler (R333). -/
def execDescriptorStart (s : State) : Host.Outcome State Fault Refusal :=
  .next (match choose s (queueCands s ++ chainCands s) with
    | none => s
    | some (c, sc) =>
      let s := { s with host.sched := sc }
      match c.desc with
      | some k => startDesc k s
      | none => startNode c.prio c.chain.1 c.chain.2 s)

/-! ### Transfers (R303, R308 to R310) -/

/-- A fabric load that ends with TARGET_DEAD or PEER_GONE puts the context into its fault state (R217, R311). -/
def loadFault (d : Desc) (h off : Nat) (st : Nat) (s : State) : State :=
  let o := objAt s (hIdx h)
  if o.kind = 2 && (st = stTargetDead || st = stPeerGone) then
    ctxFault (descCtx d) 3 (d.queue % 4) st d.seq (o.base + off) s
  else s

/-- The descriptor ends at a failed read: its handle and offset are those of the read unless given. -/
def readFailed (k : Nat) (d : Desc) (result : Nat) (e : Nat × Nat × Nat) (s : State) : State :=
  setOutcome k e.1 result e.2.1 e.2.2 (loadFault d e.2.1 e.2.2 e.1 s)

/-- A transfer row: the transfer begins with the first command and takes a turn with each (log entry 42). -/
def xferRow (op d : Nat) (act : Desc → XferRun → State → State) (s : State) : State :=
  match descFor s d op with
  | none => s
  | some x =>
    xferTurn d (act x) (if thas s.host.xfers d then s else openDesc d x (if op = 0x01 then num x.bytes 40 4 else 0) s)

/-- What a COPY does when nothing is under way (R303): what has been read is written, then the next piece read. -/
def copyOn (d : Nat) (x : Desc) (r : XferRun) (s : State) : State :=
  let u := num x.bytes
  match r.wfail, r.rfail with
  | some (st, h, off), _ => setOutcome d st (off - u 24 8) h off s
  | none, rfail =>
    if !r.buf.isEmpty then takeBuf d (r.pos + r.buf.length) (askWrite d (u 12 4) (u 24 8 + r.pos) r.buf s)
    else match rfail with
      | some e => readFailed d x r.pos e s
      | none =>
        if r.pos ≥ u 32 8 then setOutcome d stDone (u 32 8) 0 0 s
        else askRead d (u 8 4) (u 16 8 + r.pos) (Nat.min 4096 (u 32 8 - r.pos)) s

/-- COPY (R303). -/
def execCopy (d : Nat) (s : State) : Host.Outcome State Fault Refusal := .next (xferRow 0x01 d (copyOn d) s)

/-- The IV of a chunk (R308). -/
def bounceIv (dir ctx seq : Nat) : Bytes := le 1 4 ++ le 1 dir ++ be 2 ctx ++ be 8 seq

/-- What a sealed transfer is: descriptor, its key, its chunks' sequence, and its two sides. -/
structure Chunked where
  desc : Nat
  x : Desc
  key : Bytes
  dir : Nat
  n : Nat
  sealed : Nat
  base : Nat
  plain : Nat
  off : Nat
deriving DecidableEq, Repr

def chunkedOf (d : Nat) (x : Desc) (s : State) : Chunked :=
  let u := num x.bytes
  { desc := d, x := x, key := keyOf s x.pin, dir := directionOf x, n := u 28 4, sealed := u 8 4, base := 4096 * u 16 4,
    plain := u 12 4, off := u 20 8 }

/-- Bytes of chunk `k`, where its data area and its tag lie, and its IV (R308). -/
def Chunked.len (c : Chunked) (k : Nat) : Nat := Nat.min 4096 (c.n - 4096 * k)
def Chunked.dataAt (c : Chunked) (k : Nat) : Nat := c.base + 4096 * k
def Chunked.tagAt (c : Chunked) (k : Nat) : Nat := c.base + 4096 * chunksOf c.n + 16 * k
def Chunked.iv (c : Chunked) (k : Nat) : Bytes := bounceIv c.dir (descCtx c.x) (num c.x.bytes 32 8 + k)

/-- Chunk `k` has been read: inbound it is opened and its plaintext handed over, outbound its data and then its tag
(R310). -/
def chunkRead (c : Chunked) (k : Nat) (buf : Bytes) (s : State) : State :=
  if c.dir = 0 then
    match Config.gcmOpen c.key (c.iv k) [] (slice buf 0 (c.len k)) (slice buf (c.len k) 16) with
    | none => setOutcome c.desc stIntegrity (4096 * k) c.sealed (c.dataAt k) (count 0xB070 5 s)
    | some pt => takeBuf c.desc (k + 1) (askWrite c.desc c.plain (c.off + 4096 * k) pt s)
  else
    let ct := Config.gcmSeal c.key (c.iv k) [] (slice buf 0 (c.len k))
    takeBuf c.desc (k + 1) (askWrite c.desc c.sealed (c.tagAt k) (slice ct (c.len k) 16)
      (askWrite c.desc c.sealed (c.dataAt k) (slice ct 0 (c.len k)) s))

/-- Ask for chunk `k` (R310): inbound its data and its tag. -/
def chunkAsk (c : Chunked) (k : Nat) (s : State) : State :=
  if c.dir = 0 then askRead c.desc c.sealed (c.tagAt k) 16 (askRead c.desc c.sealed (c.dataAt k) (c.len k) s)
  else askRead c.desc c.plain (c.off + 4096 * k) (c.len k) s

/-- What a sealed transfer does when nothing is under way (R309, R310): its chunks in order, the first that fails ends it;
KEY_GONE when its pin has gone since it started (R295). -/
def chunksOn (d : Nat) (x : Desc) (r : XferRun) (s : State) : State :=
  let c := chunkedOf d x s
  let k := r.pos
  match r.wfail, r.rfail with
  | some (st, h, off), _ =>
    setOutcome d st (4096 * (k - 1)) h (if c.dir = 0 then off else c.dataAt (k - 1)) s
  | none, some (st, h, off) =>
    if c.dir = 0 then setOutcome d st (4096 * k) h (c.dataAt k) (loadFault x h (c.dataAt k) st s)
    else readFailed d x (4096 * k) (st, h, off) s
  | none, none =>
    if k ≥ chunksOf c.n then setOutcome d stDone c.n 0 0 s
    else if !live s x.pin then setOutcome d stKeyGone (4096 * k) 0 0 (countKeyGone stKeyGone s)
    else if !r.buf.isEmpty then chunkRead c k r.buf s
    else chunkAsk c k s

/-- SEAL (R308 to R310). -/
def execSeal (d : Nat) (s : State) : Host.Outcome State Fault Refusal := .next (xferRow 0x03 d (chunksOn d) s)

/-- UNSEAL (R308 to R310). -/
def execUnseal (d : Nat) (s : State) : Host.Outcome State Fault Refusal := .next (xferRow 0x04 d (chunksOn d) s)

/-- BOUNCE_IN (R308 to R310). -/
def execBounceIn (d : Nat) (s : State) : Host.Outcome State Fault Refusal := .next (xferRow 0x10 d (chunksOn d) s)

/-- BOUNCE_OUT (R308 to R310). -/
def execBounceOut (d : Nat) (s : State) : Host.Outcome State Fault Refusal := .next (xferRow 0x11 d (chunksOn d) s)

/-! ### ATOMIC (R224, R225, R231, R303) -/

/-- The request of an ATOMIC: OFF is the offset of the cell in the region, the operands and their byte enables as R231
has them. -/
def atomicReq (d : Nat) (x : Desc) (r : XferRun) (kidx : Nat) : MeshReq :=
  let u := num x.bytes
  let n := if u 20 1 = 5 then 16 else if u 20 1 = 0xA then 0 else 8
  { port := r.src, vch := d, hdr := accessHeader r 3 2 kidx (u 12 8) 1 (u 20 1),
    data := le 8 (u 24 8) ++ le 8 (u 32 8), be := List.replicate n true ++ List.replicate (128 - n) false }

/-- ATOMIC (R231, R233, R303): the command is given again until the cell has answered (log entry 42). -/
def execAtomic (d : Nat) (s : State) : Host.Outcome State Fault Refusal :=
  .next (match descFor s d 0x06 with
    | none => s
    | some x =>
      let u := num x.bytes
      match tget s.host.xfers d with
      | none =>
        let a : Access := { handle := u 8 4, off := u 12 8, len := 8, write := true, lead := 0, got := none }
        let s := modXfer d (fun r => { r with acc := some a }) (openDesc d x (u 40 4) s)
        (match tget s.host.xfers d with
         | some r => present (atomicReq d x r (objAt s (hIdx (u 8 4))).kidx) s
         | none => s)
      | some r => match r.acc.bind (·.got) with
        | none => s
        | some g =>
          if g.st = stDone then setOutcome d stDone (num g.data 0 8) 0 0 s
          else setOutcome d g.st 0 (u 8 4) (u 12 8) s)

/-! ### Events (R290, R330) -/

/-- SIGNAL (R290): DONE, or ABANDONED for an abandoned event; a node may set a local fence (R330). -/
def execSignal (d : Nat) (s : State) : Host.Outcome State Fault Refusal :=
  .next (match descFor s d 0x08 with
    | none => s
    | some x =>
      match isFence x, x.node with
      | true, some (k, _, _) => setOutcome d stDone 0 0 0 (setFence k (num x.bytes 8 4) s)
      | _, _ =>
        let i := hIdx (num x.bytes 8 4)
        let st := if (eventAt s i).state ≠ 1 && (eventAt s i).sigStatus = stAbandoned then stAbandoned else stDone
        setOutcome d st 0 0 0 (signalEvent i stDone s))

/-- WAIT (R290): completes when the event is SIGNALLED, and with CONSUME returns it to UNSIGNALLED; a WAIT on a local
fence completes when the fence is set or can no longer be (R330). -/
def execWait (d : Nat) (s : State) : Host.Outcome State Fault Refusal :=
  .next (match descFor s d 0x09 with
    | none => s
    | some x =>
      match isFence x, x.node with
      | true, some (k, _, _) =>
        (match tget s.patterns.launches k with
         | none => s
         | some l =>
           if tbit l.fences (num x.bytes 8 4) then setOutcome d stDone 0 0 0 s
           else if fenceDead s k l (num x.bytes 8 4) then setOutcome d stAbandoned 0 0 0 s
           else s)
      | _, _ =>
        let i := hIdx (num x.bytes 8 4)
        let e := eventAt s i
        if e.state = 2 || e.state = 3 then
          let s := releaseWait i (d, x) s
          if fConsume x && e.state = 2 && e.sigStatus ≠ stAbandoned then
            modEvent i (fun y => { y with state := 1, sigStatus := 0 }) s
          else s
        else s)

/-- WAIT_TIMEOUT (R290): due TIMEOUT ticks after the start of a WAIT that has one. -/
def execWaitTimeout (d : Nat) (s : State) : Host.Outcome State Fault Refusal :=
  .next (match descFor s d 0x09 with
    | none => s
    | some x =>
      let t := num x.bytes 12 4
      if t = 0 || s.tick < x.startTick + t then s
      else setOutcome d stTimeout (if isFence x then 0 else (eventAt s (hIdx (num x.bytes 8 4))).cookie) 0 0 s)

/-- NOP (R303). -/
def execNop (d : Nat) (s : State) : Host.Outcome State Fault Refusal :=
  .next (match descFor s d 0x0E with
    | none => s
    | some _ => setOutcome d stDone 0 0 0 s)

/-! ### Sealed blobs and dumps (R464, R477 to R479) -/

/-- The live SEAL pin of a number. -/
def sealPin (s : State) (n : Nat) : Option Nat := findPin s puSeal fun p => p.objA == n

/-- What a blob's header says: kind, seal number, pattern, context, NAME_HASH, STEP, SEQ. -/
structure BlobHead where
  kind : Nat
  sealNo : Nat
  pattern : Nat
  ctx : Nat
  hash : Nat
  step : Nat
  seq : Nat
deriving DecidableEq, Repr

/-- The 64 B header of a blob (R464). -/
def blobHeader (s : State) (b : BlobHead) (unsealed : Bool) (len pin : Nat) (iv : Bytes) : Bytes :=
  [3] ++ le 1 b.kind ++ le 1 b.sealNo ++ le 1 b.pattern ++ le 2 b.ctx ++ le 1 (bit unsealed) ++ [0] ++ le 4 len ++
  le 4 pin ++ le 8 s.fuses.serial ++ le 8 b.hash ++ le 4 b.step ++ le 4 b.seq ++ slice iv 0 12 ++ zeroBytes 12

/-- A sealed blob (R464): KEY_GONE without a live SEAL pin, DENIED while the key DRBG refuses (R138). -/
def sealBlob (b : BlobHead) (body : Bytes) (s : State) : Except Nat (Bytes × State) :=
  match sealPin s b.sealNo with
  | none => .error stKeyGone
  | some pin => match keyDraw 12 false s with
    | none => .error stDenied
    | some (iv, s) =>
      let h := blobHeader s b false body.length pin iv
      .ok (h ++ Config.gcmSeal (keyOf s pin) iv h body, s)

/-- The armed entry that a dump matches (R478). -/
def dumpMatch (s : State) (part : Nat) (d : Desc) : Option (Nat × DumpEnt) :=
  tfind s.dumps fun _ e => e.partition == part && e.nameHash == num d.bytes 28 8 && e.sealNo == num d.bytes 40 2 &&
    (e.step == num d.bytes 36 4 || e.step == 0xFFFFFFFF)

/-- Bytes that `p` complete parts of a dump of `n` bytes take (R478). -/
def dumpBytes (n p : Nat) : Nat := Nat.min n (65536 * p) + 80 * p

/-- The blob of part `p` (R478). -/
def dumpHead (x : Desc) (p : Nat) : BlobHead :=
  { kind := 3, sealNo := num x.bytes 40 2, pattern := match x.node with | some (k, _, _) => launchPattern k | none => 0xFF,
    ctx := descCtx x, hash := num x.bytes 28 8, step := num x.bytes 36 4, seq := p }

/-- What a matching DUMP does when nothing is under way: its parts in order, the first that fails ends it (R478, R479). -/
def dumpOn (d : Nat) (x : Desc) (r : XferRun) (s : State) : State :=
  let u := num x.bytes
  let n := u 24 4
  let p := r.pos
  match r.wfail, r.rfail with
  | some (st, h, _), _ => setOutcome d st (dumpBytes n (p - 1)) h (dumpBytes n (p - 1)) s
  | none, some e => readFailed d x (dumpBytes n p) e s
  | none, none =>
    if p ≥ dumpParts n then setOutcome d stDone (dumpBytes n p) 0 0 (count 0xB000 0xC s)
    else if r.buf.isEmpty then askRead d (u 8 4) (u 16 8 + 65536 * p) (Nat.min 65536 (n - 65536 * p)) s
    else match sealBlob (dumpHead x p) r.buf s with
      | .error st => setOutcome d st (dumpBytes n p) 0 0 s
      | .ok (blob, s) => takeBuf d (p + 1) (askWrite d (u 12 4) (dumpBytes n p) blob s)

/-- DUMP (R478): the match, which takes a ONE_SHOT entry away, is made once. -/
def execDump (d : Nat) (s : State) : Host.Outcome State Fault Refusal :=
  .next (match descFor s d 0x0D with
    | none => s
    | some x =>
      if thas s.host.xfers d then xferRow 0x0D d (dumpOn d) s
      else match dumpMatch s (descPart s x) x with
        | none => setOutcome d stDone 0 0 0 s
        | some (i, e) => xferRow 0x0D d (dumpOn d) (if e.oneShot then { s with dumps := tdel s.dumps i } else s))

/-! ### Completion (R306, R332) -/

/-- DESCRIPTOR_COMPLETE: a queue's descriptor whose work has ended and whose writes are acknowledged completes (R299,
R303, R306). -/
def execDescriptorComplete (d : Nat) (s : State) : Host.Outcome State Fault Refusal :=
  .next (match tget s.host.descs d with
    | none => s
    | some x => match x.outcome, x.node with
      | some (st, result, fh, fo), none => if writeDue s d then s else completeDesc d x st result fh fo s
      | _, _ => s)

/-- LAUNCH (R329). -/
def execLaunch (d : Nat) (s : State) : Host.Outcome State Fault Refusal :=
  .next (match descFor s d 0x0A with
    | none => s
    | some x => if x.launch.isSome then s else tryLaunch d s)

/-- A failing node is recorded (R332): without CONT its launch goes to ENDING. -/
def nodeFailed (d : Desc) (n st fh fo : Nat) (l : Launch) : Launch :=
  let l := if l.first.isSome then l else { l with first := some (st, n), faultHandle := fh, faultOffset := fo }
  if fCont d then l else { l with state := 2 }

/-- NODE_COMPLETE (R331, R332): references dropped, the launch's record brought up to date, the launching queue's hang
timer cleared, the launch ended when nothing is left. -/
def execNodeComplete (d : Nat) (s : State) : Host.Outcome State Fault Refusal :=
  .next (match tget s.host.descs d with
    | none => s
    | some x => match x.outcome, x.node with
      | some (st, _, fh, fo), some (k, n, _) =>
        if writeDue s d then s else
        let qid := match tget s.patterns.launches k with | some l => l.qid | none => x.queue
        let s := dropRefs x (dropJob d { s with host.descs := tdel s.host.descs d })
        let s := retire qid (countCompletion (descPart s x) st s)
        let s := modLaunch k (fun l =>
          if st = stDone then l
          else if st = stSaturated then { l with satSeen := true }
          else nodeFailed x n st fh fo l) s
        settleLaunch k s
      | _, _ => s)

end Sys2Proof.Machine
end

