-- ==== Sys2Proof/Machine/Patterns.lean ====
section
/-! DEFINITION. Loading, deleting and patching patterns (R316, R321 to R328). -/

namespace Sys2Proof.Machine

/-! ### Images (R321, R323, R324) -/

/-- The IV of an image (0x05) or a patch (0x06) (R321, R327). -/
def patternIv (use ctx seq : Nat) : Bytes := le 1 use ++ [0] ++ be 2 ctx ++ zeroBytes 2 ++ be 6 seq

/-- The context's host-to-device BOUNCE pin, 0 when none. -/
def patternPin (s : State) (c : Nat) : Nat := match ctxAt s c with | some x => nth x.bouncePins 0 0 | none => 0
def patternFloor (s : State) (c : Nat) : Nat := match ctxAt s c with | some x => x.patFloor | none => 0

/-- Entry nodes of an image's header. -/
def entriesOf (h : Bytes) : List Nat := (List.range 4).map fun c => fld (num h (16 + 2 * c) 2) 0 12

/-- The header's own form (R321, R324). -/
def headerOk (h : Bytes) (p : Nat) : Bool :=
  num h 0 1 == 1 && decide (num h 1 1 < 4) && num h 4 1 == p && decide (1 ≤ num h 6 2) && decide (num h 6 2 ≤ 4096) &&
  zeros h 14 2 && zeros h 28 20 && (List.range 4).all fun c =>
    decide (num h (16 + 2 * c) 2 < 4096) && (decide (c ≤ num h 1 1) || num h (16 + 2 * c) 2 == 0)

/-- The partition in whose allotment a pattern number lies (R316). -/
def patternOwner (s : State) (p : Nat) : Option (Nat × Partition) :=
  tfind s.parts fun _ x => x.state != 0 && decide (x.patBase ≤ p) && decide (p < x.patBase + x.patCount)

/-- What the header gives (R323 step 1): 0 when the load goes on. -/
def headerBar (s : State) (h : Bytes) (p : Nat) : Nat :=
  let c := num h 2 2
  if !headerOk h p then stMalformed
  else match ctxAt s c, patternOwner s p with
    | some x, some (q, _) =>
      if x.state ≠ 1 || x.partition ≠ q || patternPin s c = 0 then stDenied
      else if !live s (patternPin s c) then stKeyGone
      else if num h 8 6 < patternFloor s c then stReplayed
      else stDone
    | _, _ => stDenied

/-- A load ends without success (R323): FREE again, or READY with the old image. -/
def loadFails (k : Nat) (l : Load) (st : Nat) (s : State) : State :=
  let s := { s with patterns.loads := tdel s.patterns.loads k }
  let s := match patternAt s l.pattern with
    | some p =>
      if p.image.isEmpty then { s with patterns.dir := tdel s.patterns.dir l.pattern }
      else modPattern l.pattern (fun p => { p with state := 2 }) s
    | none => s
  retryLaunches (setPerSession l.sess 0x7201 4 st (count 0xB071 2 s))

/-- The next piece of an image: never across 4 KiB (R57). -/
def fetchImage (k : Nat) (l : Load) (s : State) : State :=
  let a := l.addr + l.got.length
  let left := (if l.want = 0 then 64 else l.want) - l.got.length
  meshIssue (.image k) a (Nat.min left (4096 - a % 4096)) false none [] s

/-- The nodes of a loaded image are well formed and chained (R318 to R320, R324). -/
def structureOk (s : State) (h image : Bytes) : Bool :=
  let n := num h 6 2
  let ev := num h 24 4
  (List.range n).all (fun k => frameOk (frameOf image k)) &&
  (chainsOf image n (num h 1 1 + 1) (entriesOf h)).isSome &&
  (ev == 0 || (eventFresh s ev && (eventAt s (hIdx ev)).ctx == num h 2 2))

/-- The status that a fixed handle gives (R285, R325). -/
def fixedObjBar (s : State) (c h : Nat) : Nat :=
  if h = 0 then stMalformed
  else if !objFresh s h then stStale
  else if (objAt s (hIdx h)).ctx = c then stDone else stDenied
def fixedEventBar (s : State) (c part h : Nat) : Nat :=
  let e := eventAt s (hIdx h)
  if h = 0 then stMalformed
  else if !eventFresh s h then stStale
  else if e.ctx = c || (e.shared && e.partition = part) then stDone else stDenied

/-- The pattern of an accepted image: a replacement keeps the pending block, PARAM_SEQ and LAUNCHES (R323). -/
def loadedPattern (old : Option Pattern) (h image : Bytes) (part base : Nat) (objs evs sigs : List Nat) : Pattern :=
  let keep := match old with | some p => !p.image.isEmpty | none => false
  let o := fun (f : Pattern → Nat) => if keep then (match old with | some p => f p | none => 0) else 0
  { state := 2, ctx := num h 2 2, partition := part, chainsM1 := num h 1 1, chainPrio := num h 5 1, nodes := num h 6 2,
    frameBase := base, paramSeq := o (·.paramSeq), event := num h 24 4, launches := o (·.launches), entry := entriesOf h,
    image := image, params := if keep then (match old with | some p => p.params | none => []) else List.replicate 64 0,
    objs := objs, evs := evs, sigs := sigs }

/-- The image has verified: structure, fixed handles, then the exchange of images (R323 steps 4 and 5). -/
def installImage (k : Nat) (l : Load) (image : Bytes) (s : State) : State :=
  let h := slice l.got 0 48
  let c := num h 2 2
  let part := partOf s c
  let fixed := (List.range (num h 6 2)).map fun n => fixedOf (frameOf image n)
  let objs := fixed.flatMap (·.1)
  let evs := fixed.flatMap (·.2.1)
  let sigs := fixed.flatMap (·.2.2)
  let bars := (objs.map fun x => (fixedObjBar s c x, x)) ++ ((evs ++ sigs).map fun x => (fixedEventBar s c part x, x))
  let old := patternAt s l.pattern
  if !structureOk s h image then loadFails k l stMalformed s
  else match firstBad bars, l.base with
    | some (st, _), _ => loadFails k l st s
    | none, none => loadFails k l stTableFull s
    | none, some base =>
      if liveLaunches s l.pattern ≠ 0 then loadFails k l stDenied s
      else
        let objs := objs.map hIdx
        let evs := evs.map hIdx
        let sigs := (sigs ++ if num h 24 4 = 0 then [] else [num h 24 4]).map hIdx
        let s := each objs refObj s
        let s := each evs (fun i s => modEvent i (fun e => { e with dev := e.dev + 1 }) s) s
        let s := each sigs (fun i s => modEvent i (fun e => { e with dev := e.dev + 1, signallers := e.signallers + 1 }) s) s
        let s := { s with
          patterns.loads := tdel s.patterns.loads k,
          patterns.dir := tput s.patterns.dir l.pattern (loadedPattern old h image part base objs evs sigs) }
        let s := match old with | some p => dropPatternRefs p s | none => s
        retryLaunches (setPerSession l.sess 0x7201 4 stDone s)

/-- The whole image has arrived (R322, R323 step 3). -/
def imageWhole (k : Nat) (l : Load) (s : State) : State :=
  let h := slice l.got 0 48
  let c := num h 2 2
  let n := 64 * num h 6 2
  if (ctxAt s c).isNone then loadFails k l stDenied s
  else if !live s l.pin || patternPin s c ≠ l.pin then loadFails k l stKeyGone (countKeyGone stKeyGone s)
  else if num h 8 6 < patternFloor s c then loadFails k l stReplayed s
  else match Config.gcmOpen (keyOf s l.pin) (patternIv 5 c (num h 8 6)) h (slice l.got 48 n) (slice l.got (48 + n) 16) with
    | none => loadFails k l stIntegrity s
    | some image => installImage k l image (setCtx c (fun x => { x with patFloor := num h 8 6 + 1 }) s)

/-- A piece of an image has arrived (R323): the first line holds the header. -/
def imageDone (k st : Nat) (poison : Bool) (data : Bytes) (s : State) : State :=
  match tget s.patterns.loads k with
  | none => s
  | some l =>
    let l := { l with got := l.got ++ data }
    if st ≠ stDone then loadFails k l st s
    else if poison then loadFails k l stPoisoned s
    else if l.want = 0 then
      let h := slice l.got 0 48
      let bar := headerBar s h l.pattern
      if bar ≠ stDone then loadFails k l bar s
      else
        let extent := match patternOwner s l.pattern with
          | some (_, p) => findExtent s p.frameBase p.frameCount (num h 6 2)
          | none => none
        match extent with
        | none => loadFails k l stTableFull s
        | some b =>
          let l := { l with want := 64 * num h 6 2 + 64, base := some b, pin := patternPin s (num h 2 2) }
          fetchImage k l { s with patterns.loads := tput s.patterns.loads k l }
    else
      let s := { s with patterns.loads := tput s.patterns.loads k l }
      if l.got.length < l.want then fetchImage k l s else imageWhole k l s

/-! ### The rows -/

/-- An entry on its first load. -/
def loadingPattern : Pattern :=
  { state := 1, ctx := 0, partition := 0, chainsM1 := 0, chainPrio := 0, nodes := 0, frameBase := 0, paramSeq := 0,
    event := 0, launches := 0, entry := [0, 0, 0, 0], image := [], params := List.replicate 64 0, objs := [], evs := [],
    sigs := [] }

/-- A pattern number lies in an allotment whose partition is being torn down (R352). -/
def patternTorn (s : State) (p : Nat) : Bool := match patternOwner s p with | some (_, x) => decide (x.state ≥ 2) | none => false

/-- PATTERN_LOAD (R323, R352, R468). -/
def ownPatternLoad (r : OdReq) (v : Nat) (s : State) : Own :=
  let p := fld v 0 8
  let a := fld v 64 64
  let st := match patternAt s p with | some x => x.state | none => 0
  guarded [(fld v 8 56 != 0 || a % 64 != 0, abRange),
    (s.recovery.quarantined || patternTorn s p || st == 1 || st == 3 || liveLaunches s p != 0, abState),
    (decide (s.patterns.loads.length ≥ 4), abBusy)]
    (let k := s.patterns.nextLoad
     let l : Load := { pattern := p, addr := a, sess := sessNo r, got := [], want := 0, base := none, pin := 0 }
     let s := if st = 0 then { s with patterns.dir := tput s.patterns.dir p loadingPattern }
       else modPattern p (fun x => { x with state := 3 }) s
     fetchImage k l (count 0xB071 1 { s with patterns.loads := tput s.patterns.loads k l, patterns.nextLoad := k + 1 }))

def execPatternLoad (r : OdReq) (v : BitVec 128) (s : State) : Host.Outcome State Fault Refusal :=
  .next (odWrite r 0x7201 1 (le 16 v.toNat) (ownPatternLoad r v.toNat) s)

/-- PATTERN_DELETE (R326). -/
def ownPatternDelete (p : Nat) (s : State) : Own :=
  match patternAt s p with
  | none => .abort abState
  | some x =>
    guarded [(x.state != 2 || liveLaunches s p != 0, abState)]
      (retryLaunches (dropPatternRefs x { s with patterns.dir := tdel s.patterns.dir p }))

def execPatternDelete (r : OdReq) (v : BitVec 8) (s : State) : Host.Outcome State Fault Refusal :=
  .next (odWrite r 0x7201 2 (le 1 v.toNat) (ownPatternDelete v.toNat) s)

/-- Slots that a mask names, ascending. -/
def maskSlots (m : Nat) : List Nat := (List.range 64).filter (tbit m)

/-- A patch (R322, R327): its status, and the state with the slots written and the floor advanced. -/
def applyPatch (v : Bytes) (s : State) : Nat × State :=
  let p := num v 1 1
  let c := num v 2 2
  let seq := num v 4 6
  if num v 0 1 ≠ 2 || !zeros v 10 6 then (stMalformed, s)
  else match patternAt s p with
    | none => (stDenied, s)
    | some x =>
      if !(x.state == 2 || x.state == 3) || x.ctx ≠ c || patternPin s c = 0 then (stDenied, s)
      else if !live s (patternPin s c) then (stKeyGone, countKeyGone stKeyGone s)
      else if seq < patternFloor s c then (stReplayed, s)
      else match Config.gcmOpen (keyOf s (patternPin s c)) (patternIv 6 c seq) (slice v 0 16) (slice v 16 136)
          (slice v 152 16) with
        | none => (stIntegrity, s)
        | some b =>
          let s := setCtx c (fun y => { y with patFloor := seq + 1 }) s
          let slots := maskSlots (num b 0 8)
          let n := slots.length
          if n = 0 || n > 16 || !zeros b (8 + 8 * n) (128 - 8 * n) then (stMalformed, s)
          else
            let ps := (List.range n).foldl (fun ps i => setNth ps (nth slots i 0) (num b (8 + 8 * i) 8)) x.params
            (stDone, modPattern p (fun y => { y with params := ps, paramSeq := seq }) s)

/-- PATTERN_PATCH (R327): the write completes whatever the outcome, which LAST_PATTERN_STATUS shows. -/
def ownPatternPatch (r : OdReq) (v : Bytes) (s : State) : Own :=
  let (st, s) := applyPatch v s
  .ok (setMine r 0x7201 4 st (count 0xB071 3 (if st = stDone then s else count 0xB071 4 s)))

def execPatternPatch (r : OdReq) (v : Bytes) (s : State) : Host.Outcome State Fault Refusal :=
  .next (odWrite r 0x7201 3 v (ownPatternPatch r v) s)

end Sys2Proof.Machine
end

