-- ==== Sys2Proof/Machine/Partitions.lean ====
section
/-! DEFINITION. Partitions: creation, teardown, tenant sessions, the source map, the status page (R336 to R358). -/

namespace Sys2Proof.Machine

/-! ### Creation (R338 to R340) -/

/-- Two ranges overlap. -/
def meets (a n b m : Nat) : Bool := decide (0 < n) && decide (0 < m) && decide (a < b + m) && decide (b < a + n)

/-- The partition that the 96 bytes of PARTITION_CREATE describe (R338). -/
def partOfBytes (v : Bytes) : Partition :=
  { state := 1, bound := none, ctxBase := num v 2 2, ctxCount := num v 4 2, kidxBase := num v 6 2, kidxCount := num v 8 2,
    rootQuota := num v 10 2, heldQuota := num v 12 2, patBase := num v 14 1, patCount := num v 16 2,
    frameBase := num v 18 2, frameCount := num v 20 2, hash := slice v 32 48, pin := 0, pinGen := 0, serial := 0,
    resets := 0, step := 0, drainUntil := 0, live := List.replicate 7 0, snap := List.replicate 7 0, thrOwn := 0,
    intervals := 0, power10w := 0 }

/-- The RANGE row of R339. -/
def createRange (s : State) (v : Bytes) : Bool :=
  let p := partOfBytes v
  num v 0 1 ≥ partitionsOf s.cfg || !zeros v 1 1 || p.ctxBase ≥ 1024 || p.ctxCount = 0 ||
  p.ctxBase + p.ctxCount > contextsOf s.cfg || p.kidxBase ≥ 4096 || p.kidxCount ≥ 4096 ||
  (p.kidxCount != 0 && p.kidxBase == 0) || p.kidxBase + p.kidxCount > 4096 || p.rootQuota > 2048 ||
  p.heldQuota > 11264 || !zeros v 15 1 || p.patCount > 256 || p.patBase + p.patCount > 256 || p.frameBase ≥ 16384 ||
  p.frameCount > 16384 || p.frameBase + p.frameCount > 16384 || !zeros v 22 10 || !zeros v 80 16 || zeros p.hash 0 48

/-- The BUSY row of R339. -/
def createBusy (s : State) (p : Partition) : Bool :=
  (s.parts.any fun e => e.2.state != 0 &&
    (meets e.2.ctxBase e.2.ctxCount p.ctxBase p.ctxCount || meets e.2.kidxBase e.2.kidxCount p.kidxBase p.kidxCount ||
     meets e.2.patBase e.2.patCount p.patBase p.patCount || meets e.2.frameBase e.2.frameCount p.frameBase p.frameCount)) ||
  (s.keys.kidx.any fun e => e.2.infra && decide (p.kidxBase ≤ e.1) && decide (e.1 < p.kidxBase + p.kidxCount)) ||
  decide ((s.parts.map fun e => e.2.rootQuota).sum + p.rootQuota > 2048) ||
  decide ((s.parts.map fun e => e.2.heldQuota).sum + p.heldQuota > 11264)

/-- Derive a PARTITION pin under the live seed (R336, R340, R350 step 6). -/
def derivePart (part : Nat) (s : State) : Except Nat (Nat × State) :=
  match seedPin s with
  | none => .error stKeyGone
  | some seed => createPin { purpose := puPartition, level := 4, kind := 1, objA := part, objB := 0, parent := seed,
                             value := [], source := 0 } s

/-- A partition with its pin. -/
def withPin (s : State) (h : Nat) (p : Partition) : Partition :=
  { p with pin := pinIdx h, pinGen := pinGen h, serial := (pinAt s (pinIdx h)).objB }

/-- The owning rule of PARTITION_CREATE (R339, R340, R352, R468). -/
def ownPartitionCreate (v : Bytes) (s : State) : Own :=
  let part := num v 0 1
  let p := partOfBytes v
  match firstAbort [(createRange s v, abRange), (thas s.parts part || (seedPin s).isNone || s.recovery.quarantined, abState),
      (createBusy s p, abBusy)] with
  | some a => .abort a
  | none => match derivePart part s with
    | .error st => .abort (if st = stTableFull then abBusy else abState)
    | .ok (h, s) => .ok { s with parts := tput s.parts part (withPin s h p) }

/-- PARTITION_CREATE. -/
def execPartitionCreate (r : OdReq) (v : Bytes) (s : State) : Host.Outcome State Fault Refusal :=
  .next (odWrite r 0x7301 1 v (ownPartitionCreate v) s)

/-! ### Teardown (R349 to R352) -/

/-- Step 1 of R350: the state is set, BOUND cleared, the shuttle lock lost (R396). -/
def startTeardown (part state : Nat) (squash : Bool) (s : State) : State :=
  let f := fun (p : Partition) => { p with state := state, bound := none, step := 1,
                                           drainUntil := if squash then s.tick else s.tick + 2 }
  let s := { s with parts := tmod s.parts part f }
  match s.shuttle.owner with
  | some (p, _) => if p = part then freeShuttle s else s
  | none => s

/-- The owning rule of PARTITION_RESET (2) and PARTITION_REMOVE (3) (R349). -/
def ownTeardown (v state : Nat) (s : State) : Own :=
  guarded [(v ≥ partitionsOf s.cfg, abRange), (!partLive s v, abState)]
    (startTeardown v state (setting s 0x7301 4 == 1) s)

/-- PARTITION_RESET. -/
def execPartitionReset (r : OdReq) (v : BitVec 8) (s : State) : Host.Outcome State Fault Refusal :=
  .next (odWrite r 0x7301 2 (le 1 v.toNat) (ownTeardown v.toNat 2) s)

/-- PARTITION_REMOVE. -/
def execPartitionRemove (r : OdReq) (v : BitVec 8) (s : State) : Host.Outcome State Fault Refusal :=
  .next (odWrite r 0x7301 3 (le 1 v.toNat) (ownTeardown v.toNat 3) s)

/-- A seed is replaced (R351): every LIVE partition is reset in SQUASH mode. -/
def resetPartitions (s : State) : State :=
  each (s.parts.filter fun e => e.2.state == 1) (fun e s => startTeardown e.1 2 true s) s

/-- Admitted units of a partition. -/
def partUnits (s : State) (part : Nat) : Bool := s.tension.units.any fun e => e.2.desc.partition == some part

/-- Contexts of a partition. -/
def partCtxs (s : State) (part : Nat) : List Nat := (s.host.ctxs.filter fun e => e.2.partition == part).map (·.1)

/-- The descriptors that a context reset or a teardown removes complete with their status (R313, R350 step 3): those of
hand-overs with KEY_GONE as R240 says when `handed`. -/
def completeAll (c st : Nat) (handed : List Nat) (s : State) : State :=
  each (ctxDescs s c) (fun e s =>
    completeDesc e.1 e.2 (if handed.contains e.1 then stKeyGone else st) 0 0 0 s) s

/-- Step 3 of R350 for one context. -/
def squashForTeardown (handed : List Nat) (c : Nat) (s : State) : State :=
  completeAll c stContextReset handed (squashCtx c (setCtx c (fun x => { x with state := 3 }) s))

/-- Step 3 of R350: everything of the partition is removed. -/
def teardownSquash (part : Nat) (s : State) : State :=
  let s := squashUnits (fun u => u.desc.partition == some part) stContextReset s
  let s := refuseHeld (fun u => u.partition == some part) stContextReset s
  let cs := partCtxs s part
  let handed := (s.host.descs.filter fun e => cs.contains (descCtx e.2) && handsOver s e.1).map (·.1)
  let offers := s.fabric.offers.filter fun o => match regionAt s o.slot with | some r => r.partition == part | none => false
  let s := each offers keyGoneOffer s
  let s := each (s.fabric.offerTable.filter fun e => match e.accept with | some (_, p) => p == part | none => false)
    keyGoneAccept s
  endPartReqs part stContextReset (each cs (squashForTeardown handed) s)

/-- Step 4 of R350: the pin is invalidated in SQUASH mode and swept, each LIVE region is released. -/
def teardownKeys (part : Nat) (p : Partition) (s : State) : State :=
  let s := invalidate (pinHandle p.pin p.pinGen) true s
  let live_ := (s.tally.regions.filter fun e => e.2.partition == part && e.2.state == 2).map (·.1)
  let s := endKeyUsers (each live_ releaseRegion s)
  if thas s.keys.inval p.pin then sweep p.pin s else s

/-- Step 5 of R350: contexts, patterns, plait records, scratch, confirmations and
armed dumps (R477) go. -/
def teardownHost (part : Nat) (s : State) : State :=
  let s := each (partCtxs s part) destroyContext s
  let s := each (s.plaits.filter fun e => (plRec e.2.bytes).leaf && (plRec e.2.bytes).part == part)
    (fun e s => dropPlait e.1 s) s
  { s with tension.scratch := s.tension.scratch.filter fun e => e.2.partition != some part,
           sources := tmapAll s.sources fun _ e => if e.partition = part then { e with confirmed := false } else e,
           purl.parts := tdel s.purl.parts part,
           dumps := s.dumps.filter fun e => e.2.partition != part }

/-- Step 6 of R350 for a removal. -/
def removePart (part : Nat) (s : State) : State :=
  let s := setOd 0x7400 (part + 1) 0 (setOd 0x7401 (part + 1) 16 (setOd 0x5002 (part + 1) 0 s))
  count 0xB072 2 { s with
    parts := tdel s.parts part,
    sources := tmapAll s.sources fun _ e => if e.partition = part then { e with valid := false } else e }

/-- TEARDOWN_SQUASH (R350 steps 3 to 5, and step 6 of a removal): due once the drain has ended, and once no context of
the partition is RESETTING (R462, log entry 18). -/
def execTeardownSquash (part : Nat) (s : State) : Host.Outcome State Fault Refusal :=
  .next (match tget s.parts part with
    | none => s
    | some p =>
      if p.step ≠ 1 || (partUnits s part && s.tick < p.drainUntil) ||
          ((partCtxs s part).any fun c => ctxState s c == 3) then s
      else
        let s := teardownHost part (teardownKeys part p (teardownSquash part s))
        let s := if p.state = 3 then removePart part s
          else { s with parts := tmod s.parts part fun q => { q with step := 6 } }
        afterFabric (retryUnits s))

/-- TEARDOWN_RESEED (R350 step 6): a reset partition gets its new pin once a seed is live. -/
def execTeardownReseed (part : Nat) (s : State) : Host.Outcome State Fault Refusal :=
  .next (match tget s.parts part with
    | none => s
    | some p =>
      if p.state ≠ 2 || p.step ≠ 6 then s
      else match derivePart part s with
        | .error _ => s
        | .ok (h, s) =>
          let q := { withPin s h p with state := 1, step := 0, resets := p.resets + 1, live := List.replicate 7 0,
                                        snap := List.replicate 7 0, thrOwn := 0, intervals := 0, power10w := 0 }
          count 0xB072 1 (count 0x8000 7 { s with parts := tput s.parts part q }))

/-! ### The source map (R345, R348) -/

/-- The owning rule of SOURCE_WRITE (R345, R352). -/
def ownSourceWrite (v : Nat) (s : State) : Own :=
  let k := fld v 0 10
  let src := fld v 16 16
  let part := fld v 32 6
  let valid := tbit v 38
  let torn := match tget s.parts part with | some p => decide (p.state ≥ 2) | none => false
  let taken := s.sources.any fun e => e.1 != k && e.2.valid && e.2.srcId == src
  guarded [(fld v 10 6 != 0 || fld v 39 25 != 0 || decide (part ≥ partitionsOf s.cfg), abRange),
    (torn || (valid && (!partLive s part || taken)), abState)]
    { s with sources := tput s.sources k { srcId := src, partition := part, valid := valid, confirmed := false } }

/-- SOURCE_WRITE. -/
def execSourceWrite (r : OdReq) (v : BitVec 64) (s : State) : Host.Outcome State Fault Refusal :=
  .next (odWrite r 0x7303 1 (le 8 v.toNat) (ownSourceWrite v.toNat) s)

/-- Set or clear CONFIRMED of an entry that is VALID, names the session's partition and holds the SRC_ID (R348). -/
def confirmSource (k : Nat) (b : Bytes) (on : Bool) (s : State) : State :=
  let i := num b 0 2
  let ours := match tget s.sources i, boundPart s k with
    | some e, some p => e.valid && e.partition == p && e.srcId == num b 2 2
    | _, _ => false
  let act := fun (s : State) => if ours then
      .ok ([], { s with sources := tmod s.sources i fun e => { e with confirmed := on } })
    else .error stDenied
  let right := (boundPart s k).isSome
  let s' := if securedUp s k && right && b.length = 4 && !ours then count 0xB072 5 s else s
  retryHeld (securedRow k right (b.length == 4) act s')

/-- SOURCE_CONFIRM. -/
def execSourceConfirm (sess : Nat) (body : Bytes) (s : State) : Host.Outcome State Fault Refusal :=
  .next (confirmSource sess body true s)

/-- SOURCE_WITHDRAW. -/
def execSourceWithdraw (sess : Nat) (body : Bytes) (s : State) : Host.Outcome State Fault Refusal :=
  .next (confirmSource sess body false s)

/-! ### Binding (R347) -/

/-- A bind may succeed: the partition is LIVE, the digest is its TENANT_KEY_HASH, and the session is bound to no other. -/
def bindOk (s : State) (k part : Nat) : Bool :=
  (match tget s.parts part, tget s.domain.sessions k with
   | some p, some x => p.state == 1 && x.digest == p.hash
   | _, _ => false) &&
  (match boundPart s k with | some q => q == part | none => true)

/-- PARTITION_BIND (R347); DENIED while the block is QUARANTINED (R468). -/
def execPartitionBind (sess : Nat) (body : Bytes) (s : State) : Host.Outcome State Fault Refusal :=
  let part := num body 0 1
  let form := body.length == 4 && zeros body 1 3
  let ok := bindOk s sess part
  let act := fun (s : State) => match tget s.parts part with
    | some p => if ok then
        .ok (le 4 p.serial ++ le 4 p.resets, { s with parts := tmod s.parts part fun q => { q with bound := some sess } })
      else .error stDenied
    | none => .error stDenied
  let right := !s.recovery.quarantined
  let s' := if securedUp s sess && right && form && !ok then count 0xB072 3 s else s
  .next (securedRow sess right form act s')

/-! ### The status page (R354, R355) -/

/-- What a snapshot does to one partition's page. -/
def snapPart (s : State) (k : Nat) (p : Partition) : Partition :=
  let all := tgetD s.tension.admitted k 0
  { p with snap := p.live, intervals := p.intervals + 1, power10w := Config.powerMw s.tick / 10000,
           thrOwn := if all = 0 then 0 else 8 * tgetD s.tension.delayed k 0 / all }

/-- STATUS_SNAPSHOT (R355): due 100,000 ticks after the last one; the power over the interval is a free value (log
entry 24). -/
def execStatusSnapshot (s : State) : Host.Outcome State Fault Refusal :=
  .next (if profile s ≠ 0 || !running s || s.tick < s.interval + 100000 then s
    else setOd 0xB072 6 (Config.powerMw s.tick) { s with
      parts := tmapAll s.parts (snapPart s), interval := s.tick, tension.admitted := [], tension.delayed := [] })

end Sys2Proof.Machine
end

