-- ==== Sys2Proof/Machine/DomainBase.lean ====
section
/-! DEFINITION. What the domain, the panel and the resets share: gang frames, seeds of a panel, sessions, leaving and
joining a domain, and the certificates that the block makes (R73 to R77, R119, R130, R359 to R385). -/

namespace Sys2Proof.Machine

/-! ### Gang frames (R76, R77) -/

/-- The panel reads FORMED or DEGRADED: every member is reachable. -/
def panelUp (s : State) : Bool := s.gang.panel == 1 || s.gang.panel == 2

/-- A gang link carries frames: enabled, up and not given up (R73, R76). -/
def gangUsable (s : State) : GangLink → Bool
  | .a => portUp s .gangA && s.gang.aUp && !s.gang.aBroken
  | .b => portUp s .gangB && s.gang.bUp && !s.gang.bBroken

/-- The member that a gang link leads to (R74). -/
def gangPeer (s : State) : GangLink → Nat
  | .a => (memberId s + 1) % panelSize s
  | .b => (memberId s + panelSize s - 1) % panelSize s

def otherLink : GangLink → GangLink
  | .a => .b
  | .b => .a

/-- Send a frame on a link under its next number there; it is kept until it is acknowledged. -/
def gangHop (l : GangLink) (src seq : Nat) (b : GangBody) (s : State) : State :=
  if gangUsable s l then
    let f : GangFrame := { src := src, seq := seq, no := s.gang.nextFrame, body := b }
    emit (.gang l f) { s with gang.unacked := tput s.gang.unacked f.no (l, f), gang.nextFrame := f.no + 1 }
  else s

/-- Tell the panel: a frame made here leaves both ways round the ring. -/
def gangTell (b : GangBody) (s : State) : State :=
  if panelSize s = 1 then s
  else
    let n := s.gang.nextSeq
    gangHop .b (memberId s) n b (gangHop .a (memberId s) n b { s with gang.nextSeq := n + 1 })

/-- The live PANEL pin. -/
def panelPin (s : State) : Option Nat := findPin s puPanel fun _ => true

/-- Wrap a value under PANEL and tell the panel of it; nothing is sent while the key DRBG gives no IV. -/
def gangWrap (purpose level objA objB : Nat) (v : Bytes) (mk : Bytes → GangBody) (s : State) : State :=
  if panelUp s && leads s then
    match panelPin s, keyDraw 12 false s with
    | some h, some (iv, t) => gangTell (mk (wrap (keyOf s h) iv purpose level objA objB v)) t
    | _, _ => s
  else s

/-- Member 0 sends the seed of a purpose to the others (R119, R380). -/
def sendSeed (purpose : Nat) (s : State) : State :=
  match findPin s purpose fun _ => true with
  | some h =>
    let p := pinAt s (pinIdx h)
    gangWrap purpose 3 p.objA p.objB (keyOf s h) .seed s
  | none => s

/-- Member 0 sends the member key seed (R384, log entry 27). -/
def sendMember (s : State) : State :=
  match memberSeed s with
  | some v => gangWrap 0 0 0 0 v .memberKey s
  | none => s

/-! ### Sessions (R372) -/

/-- A session ends: its objects are discarded (R425) and its binding clears (R347). -/
def endSession (k : Nat) (s : State) : State :=
  let s := dropSession (k + 1) s
  { s with domain.sessions := tdel s.domain.sessions k,
           parts := tmapAll s.parts fun _ p => if p.bound = some k then { p with bound := none } else p }

/-- Every session ends. -/
def endSessions (s : State) : State := each s.domain.sessions (fun e s => endSession e.1 s) s

/-! ### Seeds (R119, R130, R247, R477) -/

/-- Invalidate the live seed of a purpose in SQUASH mode; with a DOMAIN_SEED every plait record and every armed dump
goes. -/
def dropSeed (purpose : Nat) (s : State) : State :=
  match findPin s purpose fun _ => true with
  | none => s
  | some h =>
    let s := invalidate h true s
    let s := if purpose = puDomain then { (each s.plaits (fun e s => dropPlait e.1 s) s) with dumps := [] } else s
    endKeyUsers s

/-- The same, told to the panel (R130). -/
def dropSeedAll (purpose : Nat) (s : State) : State :=
  let there := (findPin s purpose fun _ => true).isSome
  let s := dropSeed purpose s
  if there && panelUp s then gangTell (.invalidate purpose) s else s

/-- What waited is offered again. -/
def afterSeeds (s : State) : State := afterFabric (retryUnits s)

/-! ### Joining and leaving (R380, R383) -/

/-- The installed charter goes, and slot 1 with it. -/
def forgetCharter (s : State) : State :=
  { s with domain.charter := none, domain.memberCert := [], domain.memberIndex := 0xFFFF, domain.carries := [],
           flash.banks := tdel s.flash.banks 1, gang.heldSeed := [] }

/-- Steps 1 to 4 of R383, told to the panel when `tell`: without a DOMAIN_SEED, steps 1 and 4 are omitted. -/
def leaveDomain (tell : Bool) (s : State) : State :=
  let had := hasDomain s
  let s := if had then resetPartitions (if tell then dropSeedAll puDomain s else dropSeed puDomain s) else s
  let s := forgetCharter (endSessions (each (allPorts s) toClear s))
  let s := if had then sendSeed puSolo (drawSolo s) else s
  afterSeeds { s with domain.state := 0 }

/-- Steps 3 to 6 of R380. -/
def joinInstall (value : Bytes) (source : Nat) (s : State) : State :=
  match s.domain.charter with
  | none => s
  | some c =>
    let s := resetPartitions (dropSeedAll puSolo s)
    let s := installSeed true (chSession c) value source s
    let s := { s with domain.state := 2, domain.pending := if s.domain.pending = 2 then 0 else s.domain.pending,
                      keys.seedPending := 0 }
    afterSeeds (stitchAll (sendSeed puDomain s))

/-- The origin draws the DOMAIN_SEED (R379); the commit stays pending while the key DRBG refuses. -/
def drawDomain (s : State) : State :=
  match keyDraw 32 true s with
  | some (v, s) => joinInstall v 0 s
  | none => { s with keys.seedPending := 2, domain.pending := 2 }

/-! ### The certificates (R359 to R367) -/

/-- A DeviceID certificate that chains to the root certifies the present DeviceID key (R362). -/
def provisioned (s : State) : Bool :=
  match s.flash.identity with
  | [root, ca, dev] => hash48 root == rootDigest s && Config.chainOk (rootDigest s) ca && Config.chainOk (rootDigest s) dev &&
      certEc dev == ecPub (deviceSeed s) && certMl dev == mlPub (deviceSeed s)
  | _ => false

/-- The DeviceID certificate: the identity record, else self-signed (R362). -/
def deviceCert (s : State) : Bytes :=
  if provisioned s then s.flash.identity.getD 2 []
  else Config.makeCert 0 (deviceSeed s) [ecPub (deviceSeed s), mlPub (deviceSeed s), be 8 s.fuses.serial]

/-- The block's own alias certificate (R359, R364). -/
def aliasCert (s : State) : Bytes :=
  Config.makeCert 1 (deviceSeed s) [ecPub (aliasSeed s), mlPub (aliasSeed s), be 8 s.fuses.serial, le 1 s.fw.epoch,
    s.keys.fwMeasurement, s.fw.version, le 1 (lcState s)]

/-- The alias certificate above the member key: member 0's in a panel (R384). -/
def issuerCert (s : State) : Bytes :=
  if leads s then aliasCert s
  else match tget s.gang.members 0 with
    | some m => m.chain
    | none => aliasCert s

/-- The certificates above a leaf: root, manufacturing CA, DeviceID and alias, or the self-signed DeviceID and alias
(R362, R369). -/
def chainAbove (s : State) : Bytes :=
  (if provisioned s then (s.flash.identity.take 2).flatten else []) ++ deviceCert s ++ issuerCert s

/-- The SPDM certificate chain that ends in a leaf (R369). -/
def certChain (s : State) (leaf : Bytes) : Bytes :=
  let b := rootDigest s ++ chainAbove s ++ leaf
  le 2 (4 + b.length) ++ [0, 0] ++ b

/-- The leaf of a slot, when it is provisioned (R369). -/
def slotLeaf (s : State) (slot : Nat) : Option Bytes :=
  if slot = 0 then s.domain.store.head?.map (·.2)
  else if slot = 1 && (s.domain.state == 1 || s.domain.state == 2) && s.domain.memberCert ≠ [] then
    some s.domain.memberCert
  else none

/-- A member entry of kzPanel (R365, R384). -/
def panelEntry (id : Nat) (m : Member) : Bytes :=
  le 1 id ++ be 8 m.serial ++ m.measurement ++ le 1 m.lifeCycle ++ le 1 (bit m.verified)

/-- The block as a member of its panel. -/
def selfMember (s : State) : Member :=
  { size := panelSize s, profile := profile s, config := bobbinsOf s.cfg, serial := s.fuses.serial,
    measurement := s.keys.fwMeasurement, lifeCycle := lcState s, verified := true, chain := aliasCert s }

/-- kzPanel: PANEL_SIZE, PANEL_STATE and the entries; a member that has split off stands alone (R365, R385). -/
def panelField (s : State) : Bytes :=
  let own := panelEntry (memberId s) (selfMember s)
  if panelSize s = 1 || s.gang.panel = 3 then le 1 1 ++ le 1 s.gang.panel ++ own
  else le 1 (panelSize s) ++ le 1 s.gang.panel ++
    (List.range (panelSize s)).flatMap fun i =>
      if i = memberId s then own else match tget s.gang.members i with | some m => panelEntry i m | none => []

/-- kzDomain, while DOMAIN_STATE is MEMBER. -/
def domainField (s : State) : Bytes :=
  match s.domain.charter with
  | some c => if s.domain.state = 2 then be 8 (chSession c) ++ be 4 (chSeq c) ++ chHash c else []
  | none => []

/-- What a sampler certificate carries (R364, R365, R367): keys, serial, nonce and number, kzConfig, kzLifeCycle,
kzResetState, kzPanel, kzDomain, and the two layers of the MultiTcbInfo. -/
def samplerFields (s : State) (seed : Bytes) : List Bytes :=
  [ecPub seed, mlPub seed, be 8 s.fuses.serial, s.domain.nonce, be 4 s.domain.sampleNo,
   le 1 (profile s) ++ text (configNameOf s.cfg) 8 ++ be 4 (bobbinsOf s.cfg) ++ le 1 (Config.blockRevision % 16),
   le 1 (lcState s) ++ le 1 ((lcGroups s.fuses.lcWord).getD 0) ++ le 1 s.fuses.wipes ++ le 1 s.fuses.floor,
   be 4 (s.keys.inc.getD 0) ++ be 4 (setting s 0x8000 6) ++ be 4 (setting s 0x8000 7) ++ be 4 (setting s 0x8000 8) ++
     be 4 s.domain.sampleNo,
   panelField s, domainField s, Config.romDigest, s.keys.fwMeasurement ++ s.fw.version ++ le 1 s.fw.epoch]

/-- Put a certificate into the store, which keeps the newest 16 (R363). -/
def storeCert (n : Nat) (c : Bytes) (s : State) : State :=
  count 0xB080 1 { s with domain.store := ((n, c) :: s.domain.store).take 16, domain.sampleState := 2 }

/-- The certificate being issued, once the member key and INC have been drawn (R138, R363). -/
def sampleCert (s : State) : Option Bytes :=
  match memberSeed s, s.keys.inc with
  | some seed, some _ => some (Config.makeCert 2 (aliasSeed s) (samplerFields s seed))
  | _, _ => none

/-- The member key is replaced: CERT_STORE is cleared (R363), and a certificate being issued is dropped. -/
def clearStore (s : State) : State := { s with domain.store := [], domain.sampleState := 0 }

end Sys2Proof.Machine
end

