-- ==== Sys2Proof/Machine/ResetBase.lean ====
section
/-! DEFINITION. What resets clear and keep, failed starts and basting mode, and the start of a firmware activation (R387,
R430 to R439, R445). -/

namespace Sys2Proof.Machine

/-- Supply, clocks and pads as a whole-block reset leaves them: inputs stay as they are driven, outputs are idle (R52,
R81, R436). -/
def padsKept (p : Power) : Power :=
  { Power.reset with pfailLow := p.pfailLow, holdupArmed := p.holdupArmed, pfailHighSince := p.pfailHighSince,
                     refclk := p.refclk, recalibrations := p.recalibrations, period := p.period, throttle := p.throttle,
                     stopped := p.stopped, ctlRdy := p.ctlRdy }

/-- Every island cleared (R433): the fuse array, the flash window, the always-on registers, the test port and what stands
outside the block are kept. -/
def clearIslands (s : State) : State :=
  { State.reset with
    cfg := s.cfg, always := s.always, tap := s.tap, power := padsKept s.power,
    fuses := { Fuses.reset with words := s.fuses.words }, flash := { s.flash with reqs := [] },
    gang := { Gang.reset with aUp := s.gang.aUp, bUp := s.gang.bUp },
    interval := s.tick, tick := s.tick, out := s.out, pending := s.pending, free := s.free }

/-- FAILED_STARTS after a reset: in basting mode the listed sources give one further attempt (R439). -/
def startsAfter (s : State) (cause : Nat) : Nat :=
  if s.always.failedStarts = 3 && basting s && [2, 3, 4, 5, 8].contains cause then 2 else s.always.failedStarts

/-- A whole-block reset (R430 to R433, R441, R469): start-up begins at step 0. -/
def wholeReset (cause : Nat) (s : State) : State :=
  let tamper := cause == 4 || cause == 5
  { clearIslands s with
    always := { lastResetCause := cause, startCount := (s.always.startCount + 1) % 2 ^ 32,
                failedStarts := startsAfter s cause, tamperEvents := s.always.tamperEvents + bit tamper,
                quarantined := s.always.quarantined && !s.recovery.consent },
    seq := { Seq.reset with since := s.tick, held := !s.power.refclk, tamperHold := s.seq.tamperHold || tamper } }

/-- A reset asked for from outside waits for the blow of a life-cycle group (R452). -/
def askReset (cause : Nat) (s : State) : State :=
  if s.lc.progress = 2 then { s with seq.deferred := s.seq.deferred.or (some cause) } else wholeReset cause s

/-- Basting mode (R438, R439): the level-1 pins stay, every other island is in reset. -/
def toBasting (reason : Nat) (s : State) : State :=
  let t := clearIslands s
  { t with
    pins := s.pins, fuses := { s.fuses with blow := none }, power.puEn := s.power.puEn,
    seq := { s.seq with basting := reason, mgmtReset := false, measured := false, phase := Nat.min s.seq.phase 8 },
    keys := { Keys.reset with
      pins := s.keys.pins.filter fun e => decide (e.2.level ≤ 1), keyDrbg := s.keys.keyDrbg, roundDrbg := s.keys.roundDrbg,
      entropy := s.keys.entropy, entropyFails := s.keys.entropyFails, entropyFailTick := s.keys.entropyFailTick },
    dict := { Dict.reset with i3cAddr := s.dict.i3cAddr, i3cEid := s.dict.i3cEid },
    fw := { Fw.reset with passed := s.fw.passed, slotRows := s.fw.slotRows },
    od := s.od.filter fun e => bastingIndex (e.1 / 256) }

/-- A failed start (R437). -/
def failedStart (s : State) : State :=
  let n := s.always.failedStarts + 1
  if n < 3 then wholeReset 7 { s with always.failedStarts := n }
  else toBasting 1 { s with always.failedStarts := 3 }

/-- A mailbox after a management-island reset (R422, R427). -/
def mailboxLost (m : Mailbox) : Mailbox := { m with state := 0, donePend := false, rspLen := 0, rspBuf := [] }

/-- A management-island reset (R372, R387, R422, R425, R427, R433, R434): cause 1 HEARTBEAT, 2 MGMT_RESET, 3
ACTIVATION. -/
def mgmtReset (cause : Nat) (s : State) : State :=
  let s := count 0x8000 8 (endSessions s)
  restitchAll { s with
    seq := { s.seq with mgmtReset := true, lastMgmtCause := cause, since := s.tick, halted := false },
    dict := { Dict.reset with mailbox := mailboxLost s.dict.mailbox, debugBox := mailboxLost s.dict.debugBox,
                              i3cAddr := s.pins.i3cSa.toNat },
    recovery.hbRunning := false, recovery.hbWritten := false, recovery.hbMisses := 0,
    domain.carries := [] }

/-- Steps 1 to 3 of a firmware activation (R131, R386, R445). -/
def startActivation (s : State) : State :=
  let s := endSessions { s with domain.state := 3, domain.activationWaits := false, fw.aliasIssued := false }
  let s := { (each s.plaits (fun e s => dropPlait e.1 s) s) with dumps := [] }
  let s := endKeyUsers (invalidate (pinHandle 3 (pinAt s 3).gen) true s)
  let s := each (allPorts s) toClear (resetPartitions s)
  afterSeeds (mgmtReset 3 { s with fw.step := 3, fw.status := 0xFF, fw.restoring := none })

/-- A pending commit has ended: an activation that waited for it begins (R388). -/
def afterCommit (s : State) : State :=
  if s.domain.activationWaits && s.domain.pending = 0 then startActivation s else s

end Sys2Proof.Machine
end

