-- ==== Sys2Proof/Machine/Charter.lean ====
section
/-! DEFINITION. Sampling, ownership, the charter, dissolution, and the retest of the entropy source (R138, R363, R373 to
R388). -/

namespace Sys2Proof.Machine

/-! ### Sampling (R363, R384, R386) -/

/-- The owning rule of SAMPLE_NONCE. -/
def ownSampleNonce (v : Bytes) (s : State) : Own :=
  guarded [(s.domain.sampleState == 1 || s.domain.state == 3, abBusy),
    (!basting s && decide (s.fuses.rootState ≥ 2), abState)]
    (if leads s || !panelUp s then
      { s with domain.sampleState := 1, domain.nonce := v, domain.sampleNo := (s.domain.sampleNo + 1) % 2 ^ 32 }
    else gangTell (.sample v) { s with domain.sampleState := 1, domain.nonce := v })

/-- SAMPLE_NONCE. -/
def execSampleNonce (r : OdReq) (v : Bytes) (s : State) : Host.Outcome State Fault Refusal :=
  .next (odWrite r 0x8010 1 v (ownSampleNonce v) s)

/-- SAMPLE_READY (R363 step 3): the certificate is signed, stored, and in a panel sent to every member. -/
def execSampleReady (s : State) : Host.Outcome State Fault Refusal :=
  .next (if s.domain.sampleState ≠ 1 || !firmwareUp s || (!leads s && panelUp s) then s
    else match sampleCert s with
      | none => s
      | some c =>
        let s := storeCert s.domain.sampleNo c s
        if panelUp s then gangTell (.certificate s.domain.sampleNo c) s else s)

/-! ### Ownership (R373) -/

/-- The owning rule of OWNER_CLAIM; a record that cannot be sealed is not written (R138). -/
def ownOwnerClaim (v : Bytes) (s : State) : Own :=
  if (readRecord s recOwner).isSome || !powerGood s then .abort abState
  else match writeRecord recOwner v s with
    | some t => .ok t
    | none => .abort abState

/-- OWNER_CLAIM. -/
def execOwnerClaim (r : OdReq) (v : Bytes) (s : State) : Host.Outcome State Fault Refusal :=
  .next (odWrite r 0x8001 1 v (ownOwnerClaim v) s)

/-! ### Staging a charter (R376) -/

/-- CHARTER_BEGIN. -/
def ownCharterBegin (v : Nat) (s : State) : Own :=
  guarded [(decide (v < 7979) || decide (v > 794363), abRange), (s.domain.pending != 0, abBusy)]
    { s with domain.stagedTotal := v, domain.staged := [], flash.banks := tput s.flash.banks 0 [] }

def execCharterBegin (r : OdReq) (v : BitVec 32) (s : State) : Host.Outcome State Fault Refusal :=
  .next (odWrite r 0x8020 1 (le 4 v.toNat) (ownCharterBegin v.toNat) s)

/-- A chunk goes to the staging bank as a sealed record; none when no IV is to be had. -/
def stageRecord (off : Nat) (b : Bytes) (s : State) : Option State :=
  match sealRecord (0x100 + off / 4032) b s with
  | some (r, s) =>
    some (emit (.flash 1 (0x840000 + off) r.length)
      { s with flash.banks := tput s.flash.banks 0 (tgetD s.flash.banks 0 [] ++ r),
               flash.reqs := s.flash.reqs ++ [{ op := 1, addr := 0x840000 + off, record := none }] })
  | none => none

/-- CHARTER_CHUNK: offset, length, zeros, data. -/
def ownCharterChunk (v : Bytes) (s : State) : Own :=
  let off := num v 0 4
  let n := num v 4 2
  let bad := off != s.domain.staged.length || n == 0 || decide (n > 1024) || decide (off + n > s.domain.stagedTotal) ||
    !zeros v 6 2
  match firstAbort [(v.length != 8 + n, abType), (bad, abRange), (!powerGood s, abState), (s.domain.pending != 0, abBusy)],
      stageRecord off (slice v 8 n) s with
  | some a, _ => .abort a
  | none, none => .abort abState
  | none, some t => .ok { t with domain.staged := s.domain.staged ++ slice v 8 n }

def execCharterChunk (r : OdReq) (v : Bytes) (s : State) : Host.Outcome State Fault Refusal :=
  .next (odWrite r 0x8020 2 v (ownCharterChunk v) s)

/-- CHARTER_COMMIT. -/
def ownCharterCommit (s : State) : Own :=
  guarded [(decide (s.domain.staged.length < s.domain.stagedTotal) || s.domain.state == 3, abState),
    (s.domain.pending != 0, abBusy)]
    { s with domain.pending := 1, domain.status := 0xFF }

def execCharterCommit (r : OdReq) (v : BitVec 8) (s : State) : Host.Outcome State Fault Refusal :=
  .next (odWrite r 0x8020 3 (le 1 v.toNat) ownCharterCommit s)

/-! ### The check (R377, R378) -/

/-- Members strictly ascending as big-endian numbers: `n` of them from number `k`, each above `last`. -/
def membersRise (c : Bytes) : Nat → Nat → Nat → Bool
  | 0, _, _ => true
  | n + 1, k, last => let v := ofBe (chMember c k); decide (last < v) && membersRise c n (k + 1) v

/-- Members strictly ascending. -/
def membersOk (c : Bytes) : Bool   := membersRise c (chCount c - 1) 1 (ofBe (chMember c 0))

/-- The MALFORMED row of R377. -/
def charterForm (c : Bytes) : Bool :=
  let n := chCount c
  slice c 0 4 == text "KZCH" 4 && num c 4 1 == 1 && decide (chFlags c < 16) && decide (chFwCount c ≤ 8) &&
  chSession c != 0 && zeros c 120 8 && zeros c (128 + 48 * chFwCount c) (48 * (8 - chFwCount c)) && zeros c 3201 7 &&
  decide (1 ≤ n) && decide (n ≤ 16384) && c.length == 3208 + 48 * n + 4723 && decide (chOrigin c < n) && membersOk c

/-- Both owner signatures verify. -/
def charterSigned (c : Bytes) : Bool :=
  let n := 3208 + 48 * chCount c
  let m := slice c 0 n
  Config.sigOk 0 (slice c 512 97) m (slice c n 96) && Config.sigOk 1 (slice c 609 2592) m (slice c (n + 96) 4627)

/-- The member certificate that a charter gives the block: the newest in CERT_STORE that is listed and passes the
policy. -/
def memberIn (s : State) (c : Bytes) : Option Bytes :=
  (s.domain.store.find? fun e => (memberIndexOf c (hash48 e.2)).isSome && passesPolicy s c e.2).map (·.2)

/-- Every member of the first charter is one of the second. -/
def superset (old new : Bytes) : Bool := (List.range (chCount old)).all fun k => (memberIndexOf new (chMember old k)).isSome

/-- What a sound charter is to the installed one (R378). -/
inductive Relation where
  | join | composition | dissolve
  | bad (status : Nat)
deriving DecidableEq, Repr

def relation (s : State) (c : Bytes) : Relation :=
  match s.domain.charter with
  | none => .join
  | some o =>
    if chSession c < chSession o then .bad stReplayed
    else if chSession c > chSession o then .dissolve
    else if chSeq c ≤ chSeq o then .bad stReplayed
    else if superset o c && chOperator c == chOperator o && chManager c == chManager o then .composition
    else .bad stDenied

/-- The check of R377: the certificate and the relation, or the status of the first check that fails. A staged record that
is absent leaves the charter malformed. -/
def charterCheck (s : State) (c : Bytes) : Except Nat (Bytes × Relation) :=
  if !charterForm c || !thas s.flash.banks 0 then .error stMalformed
  else if readRecord s recOwner != some (hash48 (slice c 512 2689)) then .error stDenied
  else if !charterSigned c then .error stIntegrity
  else match memberIn s c with
    | none => .error stDenied
    | some cert => match relation s c with
      | .bad st => .error st
      | r => .ok (cert, r)

/-- The staged records become the installed charter (R377). -/
def installCharter (c cert : Bytes) (s : State) : State :=
  count 0xB080 2 { s with
    domain.charter := some c, domain.memberCert := cert, domain.memberIndex := (memberIndexOf c (hash48 cert)).getD 0xFFFF,
    domain.pending := 0, domain.status := stDone, domain.staged := [], domain.stagedTotal := 0,
    flash.banks := tdel (tput s.flash.banks 1 (tgetD s.flash.banks 0 [])) 0 }

/-- The block sets out to join (R379, R380): the origin of sequence 0 draws the seed; a member of a panel takes the seed
that member 0 has sent already, or waits for it. -/
def startJoin (s : State) : State :=
  let s := { s with domain.state := 1 }
  match s.domain.charter with
  | none => s
  | some c =>
    if !leads s then
      (if s.gang.heldSeed = [] then s else joinInstall s.gang.heldSeed 2 { s with gang.heldSeed := [] })
    else if chSeq c = 0 && s.domain.memberIndex = chOrigin c then drawDomain s
    else s

/-- A commit takes effect (R378, R381, R383). -/
def commitCharter (c cert : Bytes) : Relation → State → State
  | .join, s => startJoin (installCharter c cert s)
  | .composition, s => stitchAll (restitchAll (installCharter c cert s))
  | .dissolve, s => startJoin (installCharter c cert (leaveDomain true s))
  | .bad _, s => s

/-- CHARTER_CHECK_DONE (R377, R378, R388). -/
def execCharterCheckDone (s : State) : Host.Outcome State Fault Refusal :=
  .next (if s.domain.pending ≠ 1 || !firmwareUp s then s
    else
      let c := s.domain.staged
      match charterCheck s c with
      | .error st => afterCommit (count 0xB080 3 { s with domain.pending := 0, domain.status := st })
      | .ok (cert, r) => afterCommit (commitCharter c cert r s))

/-! ### Dissolution (R383) -/

/-- The owning rule of DISSOLVE. -/
def ownDissolve (r : OdReq) (s : State) : Own :=
  match firstAbort [(s.domain.state == 0 || s.domain.state == 3, abState), (s.domain.pending != 0, abBusy)] with
  | some a => .abort a
  | none => answered r 0x8020 6 (leaveDomain true) s

/-- DISSOLVE: the answer leaves before the sessions end with the dissolution (log entry 29). -/
def execDissolve (r : OdReq) (v : BitVec 8) (s : State) : Host.Outcome State Fault Refusal :=
  .next (odWrite r 0x8020 6 (le 1 v.toNat) (ownDissolve r) s)

/-! ### The key DRBG serves again (R138) -/

/-- ENTROPY_RETEST (R138): what waited for the key DRBG goes on. -/
def execEntropyRetest (raw : BitVec 1024) (s : State) : Host.Outcome State Fault Refusal :=
  .next (
    let t := entropyRetest raw s
    if s.keys.entropy = 1 || t.keys.entropy ≠ 1 then t
    else
      let t := if t.keys.seedPending = 2 then drawDomain t else t
      let t := if s.keys.seedPending = 1 then sendSeed puSolo t else t
      let t := if s.domain.memberSlot.isNone then sendMember t else t
      afterSeeds (resumeStitches (afterCommit t)))

end Sys2Proof.Machine
end

