-- ==== Sys2Proof/Machine/Spdm.lean ====
section
/-! DEFINITION. SPDM and the secured requests of sessions (R368 to R372, R379, R386). Message codes and layouts that the
spec leaves to DSP0274 are those of that document (log entry 28). -/

namespace Sys2Proof.Machine

/-! ### Answers (R368, R369) -/

/-- Error codes of DSP0274. -/
def spInvalid : Nat := 0x01
def spBusy : Nat := 0x03
def spUnspecified : Nat := 0x05
def spDecrypt : Nat := 0x06
def spUnsupported : Nat := 0x07
def spSessions : Nat := 0x0A

/-- Answer an SPDM request: response code, then the bytes from PARAM1 on. -/
def spdmAnswer (path : OdPath) (code : Nat) (body : Bytes) (s : State) : State :=
  respond path ([if code = 0x04 then 0x10 else 0x13] ++ le 1 code ++ body) (emit (.spdm path code body) s)

/-- ERROR, with its error data (R389 SPDM_ERRORS). -/
def spdmError (path : OdPath) (code data : Nat) (s : State) : State :=
  spdmAnswer path 0x7F (le 1 code ++ le 1 data) (count 0xB080 6 s)

/-- An SPDM message reaches the block outside a session: the operator debug region carries secured messages only
(R423). -/
def spdmUp (s : State) (path : OdPath) : Bool := path != .debug && pathUp s { path := path, sess := none, txn := 0 }

/-- Identity is there: neither basting mode nor a root that was not sensed (R369). -/
def identityUp (s : State) : Bool := !basting s && s.fuses.rootState ≤ 1

/-- A request that is answered in full only with an identity, and not during a firmware update (R369, R386). -/
def spdmRow (path : OdPath) (act : State → State) (s : State) : State :=
  if !spdmUp s path then s
  else if !identityUp s then spdmError path spUnspecified 0 s
  else if s.domain.state = 3 then spdmError path spBusy 0 s
  else act s

/-- GET_VERSION: 1.3, always (R369, R386). -/
def execGetVersion (path : OdPath) (s : State) : Host.Outcome State Fault Refusal :=
  .next (if spdmUp s path then spdmAnswer path 0x04 [0, 0, 0, 1, 0, 0x13] s else s)

/-- CERT_CAP, ENCRYPT_CAP, MAC_CAP, MUT_AUTH_CAP and KEY_EX_CAP. -/
def spdmCaps : Nat := 0x3C2

/-- GET_CAPABILITIES (R368). -/
def execGetCapabilities (path : OdPath) (s : State) : Host.Outcome State Fault Refusal :=
  .next (if !spdmUp s path then s
    else if s.domain.state = 3 then spdmError path spBusy 0 s
    else spdmAnswer path 0x61 ([0, 0, 0, 14, 0, 0] ++ le 4 spdmCaps ++ le 4 16384 ++ le 4 16384) s)

/-- ALGORITHMS: what was offered of R368. -/
def algorithmsBody (o : SpdmOffer) : Bytes :=
  let alg := fun (ty : Nat) (on : Bool) (v : Nat) => le 1 ty ++ [0x20] ++ le 2 (if on then v else 0)
  [4, 0] ++ le 2 52 ++ [0, 0] ++ le 4 0 ++ le 4 (if o.baseAsym then 0x80 else 0) ++ le 4 (if o.hash then 2 else 0) ++
    zeroBytes 16 ++ alg 2 o.dhe 0x10 ++ alg 3 o.aead 2 ++ alg 4 o.reqBaseAsym 0x80 ++ alg 5 o.keySchedule 1

/-- NEGOTIATE_ALGORITHMS (R368): InvalidRequest when none is offered. -/
def execNegotiateAlgorithms (path : OdPath) (offer : SpdmOffer) (s : State) : Host.Outcome State Fault Refusal :=
  .next (if !spdmUp s path then s
    else if s.domain.state = 3 then spdmError path spBusy 0 s
    else if offer.baseAsym || offer.hash || offer.dhe || offer.aead || offer.reqBaseAsym || offer.keySchedule then
      spdmAnswer path 0x63 (algorithmsBody offer) s
    else spdmError path spInvalid 0 s)

/-- GET_DIGESTS (R369). -/
def execGetDigests (path : OdPath) (s : State) : Host.Outcome State Fault Refusal :=
  .next (spdmRow path (fun s =>
    let has := fun k => (slotLeaf s k).isSome
    let mask := bit (has 0) + 2 * bit (has 1)
    let digests := [0, 1].flatMap fun k => match slotLeaf s k with
      | some c => hash48 (certChain s c)
      | none => []
    spdmAnswer path 0x01 (le 1 3 ++ le 1 mask ++ digests) s) s)

/-- GET_CERTIFICATE (R369): a portion of a slot's chain. -/
def execGetCertificate (path : OdPath) (slot off len : Nat) (s : State) : Host.Outcome State Fault Refusal :=
  .next (spdmRow path (fun s =>
    match slotLeaf s slot with
    | none => spdmError path spInvalid 0 s
    | some c =>
      let chain := certChain s c
      if off ≥ chain.length then spdmError path spInvalid 0 s
      else
        let n := Nat.min (Nat.min len (chain.length - off)) 16376
        spdmAnswer path 0x02 (le 1 slot ++ [0] ++ le 2 n ++ le 2 (chain.length - off - n) ++ slice chain off n) s) s)

/-! ### Session keys (R370) -/

/-- The parts of the KZH1 element of a request: KEM_EK and the leaf certificate; none when it is malformed. -/
def kzhRequest (e : Bytes) : Option (Bytes × Bytes) :=
  let n := num e 1576 2
  if slice e 0 4 = text "KZH1" 4 && num e 4 1 = 1 && zeros e 5 3 && 1 ≤ n && n ≤ 12288 && e.length = 1578 + n then
    some (slice e 8 1568, slice e 1578 n)
  else none

/-- KEM_CT of the KZH1 element of a response. -/
def kzhResponse (e : Bytes) : Option Bytes :=
  if slice e 0 4 = text "KZH1" 4 && num e 4 1 = 2 && zeros e 5 3 && e.length = 1576 then some (slice e 8 1568) else none

/-- Opaque data that carries one element of registry ID 0 and vendor length 0. -/
def opaqueData (e : Bytes) : Bytes :=
  let b := [1, 0, 0, 0, 0, 0] ++ le 2 e.length ++ e
  b ++ zeroBytes ((4 - b.length % 4) % 4)

/-- Z of R370: the ECDH secret keys an HMAC of the ML-KEM secret. -/
def hybridSecret (zec zkem : Bytes) : Bytes := Config.hmac384 (slice zec 0 48) (slice zkem 0 32)

/-- Verify data of the responder (0) and of the requester (1). -/
def verifyData (secret transcript : Bytes) (who : Nat) : Bytes :=
  slice (Config.hmac384 (Config.spdmKey secret (hash48 transcript) who) (hash48 transcript)) 0 48

/-- The lowest free place for a session. -/
def freeSession (s : State) : Option Nat := lowestFree s.domain.sessions 8 0

/-- KEY_EXCHANGE with a sound element (R370): the session is set up, unverified until FINISH. -/
def openSession (path : OdPath) (slot k : Nat) (dhe elem ek leaf : Bytes) (s : State) : State :=
  match memberSeed s, keyDraw 112 false s with
  | some seed, some (e, t) =>
    (match Config.ecdh (slice e 0 48) ([4] ++ dhe), Config.kemEncap ek (slice e 48 32) with
     | some zec, some (ct, zkem) =>
       let secret := hybridSecret zec zkem
       let opq := opaqueData (text "KZH1" 4 ++ [2, 0, 0, 0] ++ slice ct 0 1568)
       let front := [0, 0] ++ le 2 t.domain.nextSession ++ [1] ++ le 1 slot ++ slice e 80 32 ++
         (slice (Config.publicKey 2 (slice e 0 48)) 0 97).drop 1 ++ le 2 opq.length ++ opq
       let tr := dhe ++ elem ++ front
       let tr2 := tr ++ ecSign seed (hash48 tr)
       let rsp := front ++ ecSign seed (hash48 tr) ++ verifyData secret tr2 0
       let x : Session := { id := t.domain.nextSession, path := path, opened := false, leaf := leaf,
                            digest := hash48 (certSpki leaf), transcript := dhe ++ elem ++ rsp, secret := secret }
       spdmAnswer path 0x64 rsp (dropSession (k + 1)
         { t with domain.sessions := tput t.domain.sessions k x, domain.nextSession := t.domain.nextSession + 1 })
     | _, _ => spdmError path spInvalid 0 s)
  | _, _ => spdmError path spUnspecified 0 s

/-- KEY_EXCHANGE (R369, R370, R372). -/
def execKeyExchange (path : OdPath) (slot : Nat) (dhe elem : Bytes) (s : State) : Host.Outcome State Fault Refusal :=
  .next (spdmRow path (fun s =>
    match kzhRequest elem, freeSession s with
    | none, _ => spdmError path spInvalid 0 s
    | some _, none => spdmError path spSessions 0 s
    | some (ek, leaf), some k => openSession path slot k (slice dhe 0 96) elem ek leaf s) s)

/-- A message of a session that has begun reaches the block. -/
def sessionUp (s : State) (k : Nat) : Option Session :=
  match tget s.domain.sessions k with
  | some x => if pathUp s { path := x.path, sess := none, txn := 0 } then some x else none
  | none => none

/-- FINISH (R369, R370): the requester's signature and HMAC verify and the session opens; otherwise it ends. -/
def execSpdmFinish (sess : Nat) (sig mac : Bytes) (s : State) : Host.Outcome State Fault Refusal :=
  .next (match sessionUp s sess with
    | none => s
    | some x =>
      if x.opened then spdmError x.path spInvalid 0 s
      else if Config.sigOk 0 (certEc x.leaf) (hash48 x.transcript) sig &&
          verifyData x.secret (x.transcript ++ sig) 1 == mac then
        let y := { x with opened := true, transcript := x.transcript ++ sig ++ mac ++ [0x13, 0x65, 0, 0] }
        spdmAnswer x.path 0x65 [0, 0] (count 0xB080 7 { s with domain.sessions := tput s.domain.sessions sess y })
      else endSession sess (spdmError x.path spDecrypt 0 s))

/-- END_SESSION (R369, R372). -/
def execEndSession (sess : Nat) (s : State) : Host.Outcome State Fault Refusal :=
  .next (match sessionUp s sess with
    | none => s
    | some x => if x.opened then endSession sess (spdmAnswer x.path 0x6C [0, 0] s) else spdmError x.path spInvalid 0 s)

/-- Any other SPDM request (R369). -/
def execSpdmUnsupported (path : OdPath) (code : BitVec 8) (s : State) : Host.Outcome State Fault Refusal :=
  .next (spdmRow path (spdmError path spUnsupported code.toNat) s)

/-- A secured message fails to decrypt (R372). -/
def execSecuredDecryptFail (sess : Nat) (s : State) : Host.Outcome State Fault Refusal :=
  .next (match sessionUp s sess with
    | none => s
    | some x => endSession sess (spdmError x.path spDecrypt 0 s))

/-! ### Secured requests (R370, R371, R379) -/

/-- TH2 of a session, after FINISH. -/
def th2 (x : Session) : Bytes := hash48 x.transcript

/-- HYBRID_CONFIRM (R370). -/
def execHybridConfirm (sess : Nat) (body : Bytes) (s : State) : Host.Outcome State Fault Refusal :=
  .next (securedRow sess true body.isEmpty (fun s =>
    match tget s.domain.sessions sess, memberSeed s with
    | some x, some seed => .ok (mlSign seed (hash48 (text "KZ-HYBRID-CONFIRM" 17 ++ th2 x)), s)
    | _, _ => .error stDenied) s)

/-- The live SEAL pin of a number. -/
def sealPinOf (s : State) (n : Nat) : Option Nat := findPin s puSeal fun p => p.objA == n

/-- SEAL_IMPORT after its form (R371). -/
def importSeal (b : Bytes) (s : State) : Except Nat (Bytes × State) :=
  match findPin s puOperator fun _ => true with
  | none => .error stDenied
  | some op =>
    let old := sealPinOf s (num b 0 2)
    match createPin { purpose := puSeal, level := 5, kind := 2, objA := num b 0 2, objB := 0, parent := op,
                      value := slice b 4 32, source := 3 } s with
    | .error st => .error st
    | .ok (_, s) => .ok ([], endKeyUsers (match old with | some h => invalidate h false s | none => s))

/-- SEAL_IMPORT (R371). -/
def execSealImport (sess : Nat) (body : Bytes) (s : State) : Host.Outcome State Fault Refusal :=
  .next (securedRow sess (oprRight s sess) (body.length == 36 && decide (num body 0 2 ≤ 15) && zeros body 2 2)
    (importSeal body) s)

/-- The message that a SEED_GET signs (R379). -/
def seedGetText (x : Session) : Bytes := hash48 (text "KZ-SEED-GET" 11 ++ th2 x)

/-- The key that wraps a carried seed (R379). -/
def carryKey (master : Bytes) (session : Nat) : Bytes :=
  slice (Config.hmac384 master (text "KZ-SEED-CARRY" 13 ++ le 8 session)) 0 32

/-- SEED_GET after its form (R379, R380): a MEMBER with the same charter gives the seed. -/
def giveSeed (sess : Nat) (b : Bytes) (s : State) : Except Nat (Bytes × State) :=
  match tget s.domain.sessions sess, s.domain.charter, findPin s puDomain fun _ => true with
  | some x, some c, some h =>
    if s.domain.state ≠ 2 || !leads s || slice b 0 48 != chHash c || !Config.sigOk 1 (certMl x.leaf) (seedGetText x) (slice b 48 4627)
    then .error stDenied
    else match keyDraw 12 false s with
      | none => .error stDenied
      | some (iv, s) =>
        let master := Config.spdmKey x.secret (th2 x) 2
        let n := chSession c
        .ok (wrap (carryKey master n) iv puDomain 3 (n % 2 ^ 32) (n / 2 ^ 32) (keyOf s h), count 0xB080 4 s)
  | _, _, _ => .error stDenied

/-- SEED_GET (R371, R379). -/
def execSeedGet (sess : Nat) (body : Bytes) (s : State) : Host.Outcome State Fault Refusal :=
  let right := match tget s.domain.sessions sess with | some x => isMemberCert s x.leaf | none => false
  .next (securedRow sess right (body.length == 4675) (giveSeed sess body) s)

/-! ### Seed carry, as requester (R379) -/

/-- Send an SPDM message (0x05) or a secured message (0x06) to the link partner (R420). -/
def sendSpdm (p mtype : Nat) (m : Bytes) (s : State) : State :=
  sendMgmt p 0x10 ([0] ++ le 1 (setting s 0x1001 5) ++ [0x08, 0] ++ le 1 mtype ++ m) s

def carryOn (s : State) (p : Nat) : Option Carry := s.domain.carries.find? fun c => c.port == p

def setCarry (c : Carry) (s : State) : State :=
  { s with domain.carries := (s.domain.carries.filter fun x => x.port != c.port) ++ [c] }

/-- The attempt is given up; the port tries again at the next retry. -/
def dropCarry (p : Nat) (s : State) : State :=
  { s with domain.carries := s.domain.carries.filter fun x => x.port != p }

/-- Ask for the partner's slot-1 chain from an offset. -/
def askChain (p off : Nat) (s : State) : State :=
  sendSpdm p 5 ([0x13, 0x82, 1, 0] ++ le 2 off ++ le 2 16376) s

/-- The block takes its seed by carry (R379, R384). -/
def carries (s : State) : Bool :=
  s.domain.state == 1 && s.keys.seedPending != 2 && leads s && firmwareUp s

/-- SEED_CARRY_ATTEMPT (R379): due SEED_RETRY ticks after the port's last. -/
def execSeedCarryAttempt (port : Nat) (s : State) : Host.Outcome State Fault Refusal :=
  portRow port (fun s =>
    let due := match tget s.domain.lastCarry port with
      | some t => decide (t + setting s 0x8020 7 ≤ s.tick)
      | none => true
    if carries s && due && (linkAt s port).state = 2 then
      askChain port 0 (setCarry { port := port, await := 1, transcript := [], secret := [], leaf := [], startTick := s.tick }
        { s with domain.lastCarry := tput s.domain.lastCarry port s.tick })
    else s) s

/-- The DER certificates that a string holds one after the other. -/
def derList : Nat → Bytes → List Bytes
  | 0, _ => []
  | fuel + 1, b =>
    if b.length < 4 then []
    else
      let n := if num b 1 1 = 0x82 then 4 + ofBe (slice b 2 2)
        else if num b 1 1 = 0x83 then 5 + ofBe (slice b 2 3)
        else 2 + num b 1 1
      b.take n :: derList fuel (b.drop n)

/-- KEY_EXCHANGE to the partner: fresh ephemerals, and the member certificate in the element (R370, R379). -/
def sendKeyExchange (c : Carry) (leaf : Bytes) (s : State) : State :=
  match keyDraw 144 false s with
  | none => dropCarry c.port s
  | some (e, s) =>
    let dhe := (slice (Config.publicKey 2 (slice e 0 48)) 0 97).drop 1
    let own := s.domain.memberCert
    let elem := text "KZH1" 4 ++ [1, 0, 0, 0] ++ slice (Config.publicKey 3 (slice e 48 64)) 0 1568 ++ le 2 own.length ++ own
    let opq := opaqueData elem
    let m := [0x13, 0xE4, 0, 1] ++ [1, 0, 0, 0] ++ slice e 112 32 ++ dhe ++ le 2 opq.length ++ opq
    sendSpdm c.port 5 m (setCarry { c with await := 2, leaf := leaf, secret := slice e 0 112, transcript := dhe ++ elem } s)

/-- A portion of the partner's chain: the next is asked for, or the leaf is checked for membership and policy. -/
def takeChain (c : Carry) (b : Bytes) (s : State) : State :=
  let got := c.leaf ++ slice b 6 (num b 2 2)
  if b.length < 6 || num b 0 1 % 16 ≠ 1 || num b 2 2 = 0 then dropCarry c.port s
  else if num b 4 2 ≠ 0 then askChain c.port got.length (setCarry { c with leaf := got } s)
  else match (derList 16 (got.drop 52)).getLast? with
    | some leaf => if isMemberCert s leaf then sendKeyExchange c leaf s else dropCarry c.port s
    | none => dropCarry c.port s

/-- KEY_EXCHANGE_RSP: the signature and the verify data are checked, and FINISH is sent. -/
def takeKeyExchange (c : Carry) (b : Bytes) (s : State) : State :=
  let n := num b 134 2
  let front := slice b 0 (136 + n)
  let sig := slice b (136 + n) 96
  let elem := slice b 144 (num b 142 2)
  let bad := decide (b.length ≠ 136 + n + 144)
  match Config.ecdh (slice c.secret 0 48) ([4] ++ slice b 38 96), kzhResponse elem, memberSeed s with
  | some zec, some ct, some seed =>
    let secret := hybridSecret zec (Config.kemDecap (slice c.secret 48 64) ct)
    let tr := c.transcript ++ front
    if bad || !Config.sigOk 0 (certEc c.leaf) (hash48 tr) sig ||
        verifyData secret (tr ++ sig) 0 != slice b (232 + n) 48 then dropCarry c.port s
    else
      let tr2 := c.transcript ++ b
      let mine := ecSign seed (hash48 tr2)
      let mac := verifyData secret (tr2 ++ mine) 1
      sendSpdm c.port 5 ([0x13, 0xE5, 1, 0] ++ mine ++ mac)
        (setCarry { c with await := 3, secret := secret, transcript := tr2 ++ mine ++ mac ++ [0x13, 0x65, 0, 0] } s)
  | _, _, _ => dropCarry c.port s

/-- Send a secured request to the partner: code and body. -/
def sendSecured (c : Carry) (m : Bytes) (s : State) : State :=
  sendSpdm c.port 6 (Config.securedRecord c.secret s.free m) { s with free := s.free + 1 }

/-- The HYBRID_CONFIRM response: its signature is verified, and SEED_GET is sent. -/
def takeConfirm (c : Carry) (b : Bytes) (s : State) : State :=
  let t := hash48 c.transcript
  match memberSeed s, s.domain.charter with
  | some seed, some ch =>
    if num b 0 1 ≠ stDone || !Config.sigOk 1 (certMl c.leaf) (hash48 (text "KZ-HYBRID-CONFIRM" 17 ++ t)) (b.drop 1) then
      dropCarry c.port s
    else sendSecured c ([0x20] ++ chHash ch ++ mlSign seed (hash48 (text "KZ-SEED-GET" 11 ++ t))) (setCarry { c with await := 5 } s)
  | _, _ => dropCarry c.port s

/-- SPDM_REQUESTER_RESPONSE (R379): the answer that the carry on a port waits for, from PARAM1 on, or the status and data
of a secured one. -/
def execSpdmRequesterResponse (port : Nat) (body : Bytes) (s : State) : Host.Outcome State Fault Refusal :=
  portRow port (fun s =>
    match carryOn s port with
    | none => s
    | some c =>
      if !carries s then s
      else match c.await with
        | 1 => takeChain c body s
        | 2 => takeKeyExchange c body s
        | 3 => sendSecured c [0x01] (setCarry { c with await := 4 } s)
        | 4 => takeConfirm c body s
        | _ => s) s

/-- The seed that a SEED_GET response holds, when it unwraps and matches its purpose and session. -/
def carriedSeed (s : State) (c : Carry) (b : Bytes) : Option Bytes :=
  match s.domain.charter with
  | none => none
  | some ch =>
    let n := chSession ch
    let master := Config.spdmKey c.secret (hash48 c.transcript) 2
    if num b 0 1 ≠ stDone then none
    else match unwrap (carryKey master n) puDomain 3 (b.drop 1) with
      | some (a, o, v) => if a = n % 2 ^ 32 && o = n / 2 ^ 32 then some v else none
      | none => none

/-- SEED_GET_RESPONSE (R379, R380, R388): the first seed is installed; a later one of the session is discarded, and
counted when it differs; DENIED, or one that does not unwrap, leaves the next retry to try again. -/
def execSeedGetResponse (port : Nat) (body : Bytes) (s : State) : Host.Outcome State Fault Refusal :=
  portRow port (fun s =>
    match carryOn s port with
    | none => s
    | some c =>
      if c.await ≠ 5 then s
      else
        let s' := dropCarry port s
        match carriedSeed s c body with
        | none => if num body 0 1 = stDone then count 0x2000 9 s' else s'
        | some v =>
          if s.domain.state = 2 then
            (match findPin s puDomain fun _ => true with
             | some h => if keyOf s h == v then s' else count 0xB080 5 s'
             | none => s')
          else if s.domain.state = 1 && leads s then joinInstall v 2 (count 0xB080 4 s')
          else s') s

end Sys2Proof.Machine
end

