-- ==== Sys2Proof/Machine/Services.lean ====
section
/-! DEFINITION. The service units of the host-port island: the shuttle cipher and the purl check unit, their registers, the
shuttle lock and the jobs (R390 to R406). -/

namespace Sys2Proof.Machine

/-! ### The register pages (R390, R394, R397, R401) -/

/-- The two service pages answer (R52, R93, R96, R435). -/
def serviceUp (s : State) : Bool := running s && !s.power.retention && !s.power.quiesced

/-- Windows that hold the two pages: one per partition in the accelerator profile, the manager region's alone in the
others (R390). -/
def servicePages (s : State) : Nat := if profile s = 0 then partitionsOf s.cfg else 1

/-- A write in a service page of a partition; one in a window that does not exist is discarded and counted (R10). -/
def servicePage (part : Nat) (f : State → State) (s : State) : State :=
  if !serviceUp s then s
  else if part ≥ servicePages s then count 0xB031 0xA s
  else f s

/-- A write that a service unit discards (R395, R397, R399, R403). -/
def discardService (s : State) : State := count 0xB090 9 s

/-- A write of 4 or 8 bytes placed into the 64-bit register that holds it: the register after it. -/
def placed (old : Nat) (hi wide : Bool) (v : Nat) : Nat :=
  if wide then v % 2 ^ 64
  else if hi then old % 2 ^ 32 + 2 ^ 32 * (v % 2 ^ 32)
  else v % 2 ^ 32 + 2 ^ 32 * (fld old 32 32)

/-- The shuttle lock is held by the partition. -/
def ownsShuttle (s : State) (part : Nat) : Bool :=
  match s.shuttle.owner with | some (p, _) => p == part | none => false

/-- A shuttle register by its offset from 0x8000. -/
def shReg (s : State) (k : Nat) : Nat := (tgetD s.shuttle.regs k 0).toNat

def setShReg (k v : Nat) (s : State) : State :=
  { s with shuttle.regs := tput s.shuttle.regs k (BitVec.ofNat 64 v) }

/-- Bytes held in registers from an offset on, byte 0 in bits [7:0] of the lowest (R394). -/
def shBytes (s : State) (k n : Nat) : Bytes := (List.range n).flatMap fun i => le 8 (shReg s (k + 8 * i))

/-- Store bytes into registers from an offset on, eight to a register. -/
def setShBytes (k : Nat) (bs : Bytes) (n : Nat) (s : State) : State :=
  each (List.range n) (fun i s => setShReg (k + 8 * i) (num bs (8 * i) 8) s) s

/-! ### The lock (R395, R396) -/

/-- A lock request (R395). -/
def requestLock (part w : Nat) (s : State) : State :=
  let c := fld w 16 10
  let lease := fld w 32 16
  if fld w 26 6 ≠ 0 || fld w 48 15 ≠ 0 || lease < 1000 || lease > setting s 0xC000 1 || !lockable s part c then
    discardService s
  else if s.shuttle.owner.isSome then
    { s with shuttle.waiting := tput s.shuttle.waiting part (fld w 0 16, c, lease) }
  else grantShuttle part (fld w 0 16) c lease s

/-- A RELEASE by the owner, naming its own ticket and context; the context is ignored where there are none (R390,
R396). -/
def releaseLock (part w : Nat) (s : State) : State :=
  match s.shuttle.owner with
  | some (p, c) =>
    if p = part && s.shuttle.ticket = fld w 0 16 && (profile s != 0 || c == fld w 16 10) then freeShuttle s
    else discardService s
  | none => discardService s

/-- A write of the register at 0x8000 (R394 to R396). -/
def lockRegister (part w : Nat) (s : State) : State :=
  if tbit w 63 then releaseLock part w s else requestLock part w s

/-- SHUTTLE_LOCK_REQUEST (R395). -/
def execShuttleLockRequest (part : Nat) (v : BitVec 64) (s : State) : Host.Outcome State Fault Refusal :=
  .next (servicePage part (lockRegister part v.toNat) s)

/-- SHUTTLE_RELEASE (R396). -/
def execShuttleRelease (part : Nat) (v : BitVec 64) (s : State) : Host.Outcome State Fault Refusal :=
  .next (servicePage part (fun s => lockRegister part v.toNat s) s)

/-- SHUTTLE_LEASE_EXPIRY (R396): due when the lease of a held lock has run down. -/
def execShuttleLeaseExpiry (s : State) : Host.Outcome State Fault Refusal :=
  .next (if s.shuttle.owner.isSome && s.shuttle.leaseLeft = 0 then freeShuttle (count 0xB090 2 s) else s)

/-- SHUTTLE_REVOKE (R396). -/
def ownShuttleRevoke (s : State) : Own :=
  .ok (if s.shuttle.owner.isSome then freeShuttle (count 0xB090 3 s) else s)

def execShuttleRevoke (r : OdReq) (v : BitVec 8) (s : State) : Host.Outcome State Fault Refusal :=
  .next (odWrite r 0xC000 3 (bvBytes 1 v) ownShuttleRevoke s)

/-! ### What a job names (R390, R392) -/

/-- One range of memory a job reads or writes. -/
structure Reach where
  handle : Nat
  off : Nat
  len : Nat
  write : Bool
deriving DecidableEq, Repr

/-- A handle or an offset field breaks the form the profile gives it (R390, R142): MALFORMED. -/
def reachMalformed (s : State) (x : Reach) : Bool :=
  if profile s = 0 then x.handle == 0
  else if profile s = 1 then decide (x.handle ≥ 4096) || decide (x.off + x.len > 2 ^ 46)
  else x.handle != 0 || decide (x.off + x.len > 2 ^ 46)

/-- The checks of one range in the order of R285, without the CLEAR_OK row; a POOL object is DENIED (R392). -/
def reachCheck (s : State) (part ctx : Nat) (x : Reach) : Nat :=
  if reachMalformed s x then stMalformed
  else if profile s = 0 then
    let o := objAt s (hIdx x.handle)
    if !objFresh s x.handle then stStale
    else if o.ctx ≠ ctx || o.kind = 2 || !(if x.write then o.write else o.read) || x.off + x.len > o.length then stDenied
    else if o.kind = 0 then stDone
    else kidxCheck s o.kidx (some part) false
  else if profile s = 1 then kidxCheck s x.handle (some part) false
  else stDone

/-- The first status other than DONE of a job's ranges. -/
def reachesCheck (s : State) (part ctx : Nat) : List Reach → Nat
  | [] => stDone
  | x :: xs => if reachCheck s part ctx x = stDone then reachesCheck s part ctx xs else reachCheck s part ctx x

/-- The objects a job refers to (R392). -/
def reachObjs (s : State) (xs : List Reach) : List Nat :=
  if profile s = 0 then xs.map fun x => hIdx x.handle else []

/-! ### The shuttle's job (R398, R399) -/

def shOp (s : State) : Nat := fld (shReg s 0x18) 0 4
def shKeyLen (s : State) : Nat := fld (shReg s 0x18) 8 7
/-- Bytes of an XTS data unit. -/
def shUnit (s : State) : Nat := 16 * (fld (shReg s 0x18) 16 8 + 1)
def shTagLen (s : State) : Nat := fld (shReg s 0x18) 24 6
def shLen (s : State) : Nat := fld (shReg s 0x88) 0 31
def shAad (s : State) : Nat := fld (shReg s 0x88) 32 16
def isHmac (op : Nat) : Bool := op == 6 || op == 7
def isXts (op : Nat) : Bool := op == 4 || op == 5
def isGcm (op : Nat) : Bool := op == 1 || op == 2

/-- The source of a shuttle job, and its ranges: the source, and for a cipher the destination (R398). -/
def shSource (s : State) : Reach := ⟨fld (shReg s 0x70) 0 32, shReg s 0x78, shAad s + shLen s, false⟩
def shReaches (s : State) : List Reach :=
  shSource s ::
  (if isHmac (shOp s) then [] else [⟨fld (shReg s 0x70) 32 32, shReg s 0x80, shLen s, true⟩])

/-- The first row of R399: reserved codes and bits, the limits of R398, handles and offsets against R398 and R390. `go` is the
value written to the register that holds GO. -/
def shMalformed (s : State) (go : Nat) : Bool :=
  let r := shReg s 0x18
  let op := shOp s
  op == 0 || decide (op > 7) || fld r 4 4 != 0 || tbit r 15 || fld r 30 34 != 0 || fld go 2 62 != 0 ||
  tbit (shReg s 0x88) 31 || fld (shReg s 0x88) 48 16 != 0 ||
  shLen s == 0 || decide (shLen s > 2 ^ 30) || (op == 2 && decide (shLen s > 65536)) ||
  (isXts op && shLen s % shUnit s != 0) ||
  (isHmac op && (shKeyLen s == 0 || decide (shKeyLen s > 64))) ||
  (op == 7 && (decide (shTagLen s < 16) || decide (shTagLen s > 48))) ||
  (isGcm op && fld (shReg s 0x68) 32 32 != 0) || (isHmac op && (shReg s 0x60 != 0 || shReg s 0x68 != 0)) ||
  (!isGcm op && shAad s != 0) || (isHmac op && fld (shReg s 0x70) 32 32 != 0) ||
  (shReaches s).any (reachMalformed s)

/-- The shuttle's job ends (R392, R399). -/
def endShuttleJob (st done : Nat) (s : State) : State :=
  let s := each s.shuttle.refs unrefObj s
  let s := if st = stDone then s else count 0xB090 5 s
  let s := dropJob s.shuttle.job s
  setShReg 0x100 done { s with shuttle.state := 2, shuttle.status := st, shuttle.refs := [], shuttle.job := 0 }

/-- A job's transfer begins (R392): its number is the next one of the descriptors' row. -/
def openJob (part ctx : Nat) (x : Reach) (s : State) : State :=
  let src := if profile s = 0 then ctxSource ctx else partSource part
  let pasid := if profile s = 0 then pasidOf s ctx else none
  let k := s.host.nextDesc
  let s := { s with host.nextDesc := k + 1 }
  nextAccess k (askRead k x.handle x.off x.len (openXfer k (newXfer src 0 0 false pasid) s))

/-- A job starts and is checked (R399). -/
def startShuttleJob (part go : Nat) (s : State) : State :=
  let ctx := match s.shuttle.owner with | some (_, c) => c | none => 0
  let s := count 0xB090 4 (setShReg 0x100 0 { s with shuttle.state := 1, shuttle.job := s.host.nextDesc })
  if shMalformed s go then endShuttleJob stMalformed 0 s
  else
    let st := reachesCheck s part ctx (shReaches s)
    if st ≠ stDone then endShuttleJob st 0 s
    else
      let objs := reachObjs s (shReaches s)
      openJob part ctx (shSource s) (each objs refObj { s with shuttle.refs := objs })

/-- Text bytes that the running job has dealt with: written, or for an HMAC read. -/
def shDone (s : State) : Nat :=
  match tget s.host.xfers s.shuttle.job with
  | none => 0
  | some x =>
    if isHmac (shOp s) then x.buf.length - shAad s
    else if x.pos = 0 then 0
    else x.pos - (x.writes.map fun w => w.2.2.length).sum

/-- The running job is aborted (R399). -/
def abortShuttleJob (s : State) : State := endShuttleJob stAborted (shDone s) s

/-- A write of the register at 0x80F0 by a partition (R397, R399). -/
def goRegister (part w : Nat) (s : State) : State :=
  if !ownsShuttle s part then discardService s
  else if tbit w 1 then (if s.shuttle.state = 1 then abortShuttleJob s else s)
  else if tbit w 0 then (if s.shuttle.state = 1 then discardService s else startShuttleJob part w s)
  else s

/-- SHUTTLE_GO (R399). -/
def execShuttleGo (part : Nat) (v : BitVec 64) (s : State) : Host.Outcome State Fault Refusal :=
  .next (servicePage part (goRegister part v.toNat) s)

/-- SHUTTLE_ABORT (R399). -/
def execShuttleAbort (part : Nat) (v : BitVec 64) (s : State) : Host.Outcome State Fault Refusal :=
  .next (servicePage part (fun s => goRegister part v.toNat s) s)

/-- The data units of an XTS job, the first under number `t` (R398). -/
def xtsRun (f : Bytes → Nat → Bytes → Bytes) (key : Bytes) (size : Nat) (bs : Bytes) : Nat → Nat → Bytes
  | 0, _ => []
  | n + 1, t => f key (t % 2 ^ 128) (slice bs 0 size) ++ xtsRun f key size (bs.drop size) n (t + 1)

/-- What a shuttle job makes of the bytes it read: the text it writes, the tag it shows, the next IV; none when a tag
comparison fails (R398). -/
def shuttleResult (s : State) (data : Bytes) : Option (Bytes × Option Bytes × Option Bytes) :=
  let op := shOp s
  let key := shBytes s 0x20 8
  let iv := shBytes s 0x60 2
  let aad := slice data 0 (shAad s)
  let txt := slice data (shAad s) (shLen s)
  let units := shLen s / shUnit s
  if op = 1 then
    let x := Config.gcmSeal (slice key 0 32) (slice iv 0 12) aad txt
    some (slice x 0 (shLen s), some (slice x (shLen s) 16), none)
  else if op = 2 then
    (Config.gcmOpen (slice key 0 32) (slice iv 0 12) aad txt (slice (shBytes s 0x90 6) 0 16)).map fun p => (p, none, none)
  else if op = 3 then
    some (Config.aesCtr (slice key 0 32) iv txt, none, some (be 16 (ofBe iv + ceilDiv (shLen s) 16)))
  else if op = 4 then
    some (xtsRun Config.xtsEnc key (shUnit s) txt units (ofLe iv), none, some (le 16 (ofLe iv + units)))
  else if op = 5 then
    some (xtsRun Config.xtsDec key (shUnit s) txt units (ofLe iv), none, some (le 16 (ofLe iv + units)))
  else
    let mac := slice (Config.hmac384 (slice key 0 (shKeyLen s)) txt) 0 48
    if op = 6 then some ([], some mac, none)
    else if slice mac 0 (shTagLen s) = slice (shBytes s 0x90 6) 0 (shTagLen s) then some ([], none, none)
    else none

/-- Text bytes whose output does not need a byte at or beyond `o` of the text: whole data units for XTS; none for GCM_DEC,
which writes nothing before its tag has verified (R398). -/
def shPrefix (s : State) (o : Nat) : Nat :=
  if shOp s = 2 then 0 else if isXts (shOp s) then o / shUnit s * shUnit s else o

/-- Output text is handed to the destination; the place is the number of its bytes. -/
def shuttleOut (r : XferRun) (out : Bytes) (s : State) : State :=
  let s := modXfer s.shuttle.job (fun x => { x with buf := r.buf, pos := out.length }) s
  askWrite s.shuttle.job (fld (shReg s 0x70) 32 32) (shReg s 0x80) out s

/-- What a job whose source has been read, to its end or to a line that failed, writes: none when nothing is left to
write. -/
def shuttleText (s : State) (r : XferRun) : Bytes :=
  if isHmac (shOp s) then []
  else match shuttleResult s r.buf with
    | none => []
    | some (out, _, _) => match r.rfail with
      | none => out
      | some _ => slice out 0 (shPrefix s (r.buf.length - shAad s))

/-- The job ends with its tag and its next IV (R398). -/
def shuttleEnd (r : XferRun) (s : State) : State :=
  match shuttleResult s r.buf with
  | none => endShuttleJob stIntegrity 0 s
  | some (_, tag, next) =>
    let s := match tag with | some t => setShBytes 0xC0 t 6 s | none => s
    let s := match next with | some t => setShBytes 0x108 t 2 s | none => s
    endShuttleJob stDone (shLen s) s

/-- What the running job does when nothing is under way (R398, R399): with its source read it writes its text, and then
ends. A line that failed ends it behind the text bytes below. -/
def shuttleOn (r : XferRun) (s : State) : State :=
  match r.wfail with
  | some (st, _, off) => endShuttleJob st (off - shReg s 0x80) s
  | none =>
    let out := shuttleText s r
    if r.pos = 0 && !out.isEmpty then shuttleOut r out s
    else match r.rfail with
      | some (st, _, _) => endShuttleJob st (if isHmac (shOp s) then r.buf.length - shAad s else r.pos) s
      | none => shuttleEnd r s

/-- SHUTTLE_JOB_END (R399): the running job takes a turn, and ends with the last one (log entry 42). -/
def execShuttleJobEnd (s : State) : Host.Outcome State Fault Refusal :=
  .next (if s.shuttle.state = 1 then xferTurn s.shuttle.job shuttleOn s else s)

/-! ### The purl (R400 to R403) -/

/-- One shift of the reflected CRC-64/NVME register (R400). -/
def crc64Step (c : Nat) : Nat := if c % 2 = 1 then (c / 2) ^^^ 0x9A6C9329AC4BC9B5 else c / 2

/-- One byte. -/
def crc64Byte (c : Nat) (b : Byte) : Nat :=
  crc64Step (crc64Step (crc64Step (crc64Step (crc64Step (crc64Step (crc64Step (crc64Step (c ^^^ b.toNat))))))))

/-- The CRC of R400 over bytes: `wide` CRC-64/NVME, else CRC-32C; `from_` the result it continues, if any. -/
def purlCrc (wide : Bool) (from_ : Option Nat) (bs : Bytes) : Nat :=
  let ones := if wide then 0xFFFFFFFFFFFFFFFF else 0xFFFFFFFF
  let start := match from_ with | some x => x ^^^ ones | none => ones
  (bs.foldl (if wide then crc64Byte else crcByte) start) ^^^ ones

/-- A purl register as a job took it, by its offset from 0x9000. -/
def jobReg (s : State) (k : Nat) : Nat := (tgetD s.purl.job k 0).toNat

def purlLen (s : State) : Nat := fld (jobReg s 0x10) 0 31
def purlWide (s : State) : Bool := tbit (jobReg s 0x10) 32
def purlFrom (s : State) : Option Nat := if tbit (jobReg s 0x10) 33 then some (jobReg s 0x18) else none

/-- The range of a purl job. -/
def purlReach (s : State) : Reach := ⟨fld (jobReg s 0) 0 32, jobReg s 8, purlLen s, false⟩

/-- Reserved bits, LENGTH and INIT of a purl job (R400, R401). -/
def purlMalformed (s : State) : Bool :=
  fld (jobReg s 0) 42 22 != 0 || tbit (jobReg s 0x10) 31 || fld (jobReg s 0x10) 34 30 != 0 ||
  purlLen s == 0 || decide (purlLen s > 2 ^ 30) ||
  (!purlWide s && (purlFrom s).isSome && fld (jobReg s 0x18) 32 32 != 0)

/-- The purl job ends without a result: RESULT is a free value (log entry 17). -/
def failPurl (st done : Nat) (s : State) : State :=
  let (x, s) := freshNat s
  endPurl st (x % 2 ^ 64) done s

/-- An accepted submission (R402). -/
def startPurl (part : Nat) (s : State) : State :=
  let x := purlAt s part
  let y := { x with resultAlive := x.nextAlive, rstate := 1, result := 0, bytesDone := 0,
                    nextAlive := if x.nextAlive = 0xFFFFFFFF then 1 else x.nextAlive + 1 }
  let p : Purl := { parts := tput s.purl.parts part y, running := some part, startTick := s.tick, refs := [], job := x.regs,
                    xfer := s.host.nextDesc }
  let s := count 0xB090 6 { s with purl := p }
  if purlMalformed s then failPurl stMalformed 0 s
  else if reachMalformed s (purlReach s) then failPurl stMalformed 0 s
  else if !lockable s part (purlCtx s) then failPurl stDenied 0 s
  else
    let st := reachCheck s part (purlCtx s) (purlReach s)
    if st ≠ stDone then failPurl st 0 s
    else
      let objs := reachObjs s [purlReach s]
      openJob part (purlCtx s) (purlReach s) (each objs refObj { s with purl.refs := objs })

/-- A submission (R402). -/
def submitPurl (part w : Nat) (s : State) : State :=
  if s.purl.running.isNone && fld w 0 32 = (purlAt s part).nextAlive && fld w 33 31 = 0 then startPurl part s
  else count 0xB090 7 s

/-- An ABORT write (R403). -/
def abortPurl (part w : Nat) (s : State) : State :=
  if s.purl.running = some part && fld w 0 32 = (purlAt s part).resultAlive then cutPurl stAborted s else discardService s

/-- A write of the register at 0x9020 (R401 to R403). -/
def purlGoRegister (part w : Nat) (s : State) : State :=
  if tbit w 32 then abortPurl part w s else submitPurl part w s

/-- PURL_SUBMIT (R402). -/
def execPurlSubmit (part : Nat) (v : BitVec 64) (s : State) : Host.Outcome State Fault Refusal :=
  .next (servicePage part (purlGoRegister part v.toNat) s)

/-- PURL_GO_ABORT (R403). -/
def execPurlGoAbort (part : Nat) (v : BitVec 64) (s : State) : Host.Outcome State Fault Refusal :=
  .next (servicePage part (fun s => purlGoRegister part v.toNat s) s)

/-- PURL_ABORT (R406). -/
def ownPurlAbort (v : Nat) (s : State) : Own :=
  guarded [(decide (v ≥ partitionsOf s.cfg), abRange), (s.purl.running != some v, abState)] (cutPurl stAborted s)

def execPurlAbort (r : OdReq) (v : BitVec 8) (s : State) : Host.Outcome State Fault Refusal :=
  .next (odWrite r 0xC010 3 (bvBytes 1 v) (ownPurlAbort v.toNat) s)

/-- PURL_TIMEOUT (R402): due when the running job was accepted that many ticks ago. -/
def execPurlTimeout (s : State) : Host.Outcome State Fault Refusal :=
  .next (if s.purl.running.isSome && s.purl.startTick + setting s 0xC010 1 ≤ s.tick then
      cutPurl stTimeout (count 0xB090 8 s)
    else s)

/-- What the running job does when nothing is under way: with its bytes scanned it ends (R400, R402). -/
def purlOn (r : XferRun) (s : State) : State :=
  match r.rfail with
  | some (st, _, _) => failPurl st r.buf.length s
  | none => endPurl stDone (purlCrc (purlWide s) (purlFrom s) r.buf) (purlLen s) s

/-- PURL_JOB_END (R400, R402): the running job takes a turn, and ends with the last one (log entry 42). -/
def execPurlJobEnd (s : State) : Host.Outcome State Fault Refusal :=
  .next (if s.purl.running.isSome then xferTurn s.purl.xfer purlOn s else s)

/-! ### The pages as register stores (R16, R18, R394, R397, R401) -/

/-- A write in the shuttle page at an offset from 0x8000; `hi` the upper half of the register. -/
def shuttleWrite (part k : Nat) (hi wide : Bool) (v : Nat) (s : State) : State :=
  if k = 0 then lockRegister part (placed 0 hi wide v) s
  else if k = 8 || k ≥ 0x118 then s
  else if !ownsShuttle s part then discardService s
  else if k = 0xF0 then goRegister part (placed 0 hi wide v) s
  else if 0x18 ≤ k && k ≤ 0xB8 then
    (if s.shuttle.state = 1 then discardService s else setShReg k (placed (shReg s k) hi wide v) s)
  else s

/-- A read of a 64-bit register of the shuttle page. -/
def shuttleRead (s : State) (part k : Nat) : Nat :=
  let mine := ownsShuttle s part
  if k = 8 then
    let c := match s.shuttle.owner with | some (_, c) => c | none => 0
    pack [(16, if mine then s.shuttle.ticket else 0), (10, if mine then c else 0), (6, 0),
      (1, bit s.shuttle.owner.isSome), (1, bit mine), (1, bit (thas s.shuttle.waiting part))]
  else if !mine then 0
  else if k = 0x10 then s.shuttle.leaseLeft
  else if k = 0x18 then
    pack [(4, shOp s), (4, 0), (7, shKeyLen s), (1, 0), (8, fld (shReg s 0x18) 16 8), (6, shTagLen s)]
  else if k = 0x88 then pack [(31, shLen s), (1, 0), (16, shAad s)]
  else if 0x60 ≤ k && k ≤ 0xE8 then shReg s k
  else if k = 0xF8 then s.shuttle.state + 256 * s.shuttle.status
  else if 0x100 ≤ k && k ≤ 0x110 then shReg s k
  else 0

/-- A write in the purl page at an offset from 0x9000. -/
def purlWrite (part k : Nat) (hi wide : Bool) (v : Nat) (s : State) : State :=
  if k = 0x20 then purlGoRegister part (placed 0 hi wide v) s
  else if k ≤ 0x18 then
    let x := purlAt s part
    let w := placed (tgetD x.regs k 0).toNat hi wide v
    { s with purl.parts := tput s.purl.parts part { x with regs := tput x.regs k (BitVec.ofNat 64 w) } }
  else s

/-- A read of a 64-bit register of the purl page. -/
def purlRead (s : State) (part k : Nat) : Nat :=
  let x := purlAt s part
  let reg := fun k => (tgetD x.regs k 0).toNat
  if k = 0 then fld (reg 0) 0 42
  else if k = 0x10 then pack [(31, reg 0x10), (1, 0), (2, fld (reg 0x10) 32 2)]
  else if k = 8 || k = 0x18 then reg k
  else if k = 0x28 then pack [(32, x.nextAlive), (1, bit s.purl.running.isSome), (1, bit (s.purl.running == some part))]
  else if k = 0x30 then pack [(32, x.resultAlive), (2, x.rstate), (6, 0), (8, x.rstatus)]
  else if k = 0x38 then x.result
  else if k = 0x40 then x.bytesDone
  else 0

/-- Some service-unit job runs (R404). -/
def serviceBusy (s : State) : Bool := s.shuttle.state == 1 || s.purl.running.isSome

end Sys2Proof.Machine
end

