-- ==== Sys2Proof/Machine/StartUp.lean ====
section
/-! DEFINITION. Resets as they are asked for, the start-up sequence, the supply, the clocks, retention and the power-failure
quiesce (R30, R52, R80 to R96, R100 to R103, R131, R132, R136, R430 to R445). -/

namespace Sys2Proof.Machine

/-! ### Firmware images and arming records (R442, R443) -/

/-- Bytes of an image's header and signatures. -/
def imageHead : Nat := 7508

/-- The body of an image. -/
def imageBody (img : Bytes) : Bytes := slice img imageHead (num img 8 4)

/-- The bytes that are measured and signed. -/
def imageSigned (img : Bytes) : Bytes := slice img 0 2785 ++ imageBody img

/-- The measurement of an image (R114, R442). -/
def imageMeasure (img : Bytes) : Bytes := hash48 (imageSigned img)

def imageEpoch (img : Bytes) : Nat := num img 5 1
def imageVersion (img : Bytes) : Bytes := slice img 16 32

/-- Its header is well formed and the body is there. -/
def imageForm (img : Bytes) : Bool :=
  slice img 0 4 == text "KZFW" 4 && num img 4 1 == 1 && decide (imageEpoch img ≤ 64) && zeros img 6 2 && zeros img 12 4 &&
  decide (1 ≤ num img 8 4) && decide (num img 8 4 ≤ 4121260) && decide (imageHead + num img 8 4 ≤ img.length)

/-- The checks of R442 but for the arming comparison: a completion status (R444). -/
def imageStatus (s : State) (img : Bytes) : Nat :=
  let ec := slice img 96 97
  let ml := slice img 193 2592
  if !imageForm img then stMalformed
  else if hash48 (ec ++ ml) != s.fuses.signer || !Config.sigOk 0 ec (imageSigned img) (slice img 2785 96) ||
      !Config.sigOk 1 ml (imageSigned img) (slice img 2881 4627) then stIntegrity
  else if imageEpoch img < s.fuses.floor then stReplayed
  else stDone

def slotAt (s : State) (k : Nat) : Slot := tgetD s.flash.slots k { arming := [], image := [] }

/-- ARM_SEQ of a valid arming record (R443). -/
def armSeq (a : Bytes) : Option Nat :=
  if slice a 0 4 = text "KZAR" 4 && slice a 64 48 = hash48 (slice a 0 64) then some (num a 4 8) else none

/-- An arming record (R443). -/
def armingRecord (seq : Nat) (digest : Bytes) : Bytes :=
  let b := text "KZAR" 4 ++ le 8 seq ++ slice digest 0 48 ++ zeroBytes 4
  slice (b ++ hash48 b) 0 256

/-- The slots in the order in which step 6 tries them (R443). -/
def slotOrder (s : State) : List Nat :=
  match armSeq (slotAt s 0).arming, armSeq (slotAt s 1).arming with
  | some a, some b => if a < b then [1, 0] else [0, 1]
  | some _, none => [0]
  | none, some _ => [1]
  | none, none => []

/-- An image passes R442 in its slot. -/
def slotPasses (s : State) (k : Nat) : Bool :=
  imageStatus s (slotAt s k).image == stDone && imageMeasure (slotAt s k).image == slice (slotAt s k).arming 12 48

/-- Write a slot's arming record with ARM_SEQ one above the higher of the two (R445). -/
def armSlot (k : Nat) (s : State) : State :=
  let top := Nat.max ((armSeq (slotAt s 0).arming).getD 0) ((armSeq (slotAt s 1).arming).getD 0)
  let x := { slotAt s k with arming := armingRecord (top + 1) (imageMeasure (slotAt s k).image) }
  let q : FlashReq := { op := 1, addr := 0x400000 * k, record := none }
  emit (.flash 1 (0x400000 * k) 256)
    { s with flash := { s.flash with slots := tput s.flash.slots k x, reqs := s.flash.reqs ++ [q] } }

/-- The image of a slot becomes the one that runs: FIRMWARE_EPOCH is derived (R114, R131). -/
def runImage (k : Nat) (s : State) : State :=
  let img := (slotAt s k).image
  let p : Pin :=
    { parent := 1, parentGen := (pinAt s 1).gen, gen := (pinAt s 3).gen, level := 2, kind := 1, state := 1,
      purpose := puFirmware, objA := imageEpoch img, objB := 0, heldSlot := 0, source := 0, childSerial := 0 }
  { s with fw := { s.fw with active := k, epoch := imageEpoch img, version := imageVersion img },
           keys.fwMeasurement := imageMeasure img, keys.pins := tput s.keys.pins 3 p }

/-! ### Port enables (R52, R54, R58, R65, R87, R435) -/

/-- Raise an enable, unless the port's clock is absent, which is counted (R87). -/
def enablePort (p : PortId) (s : State) : State :=
  if s.power.stopped.contains p then count 0xB031 8 s
  else if s.power.enabled.contains p then s
  else { s with power.enabled := p :: s.power.enabled }

/-- Initial inbound credits by class (R58). -/
def meshGrants : List Nat := [32, 16, 32, 16, 16, 8]

/-- Raise the enable of a mesh port and grant its initial credits. -/
def enableMesh (n : Nat) (s : State) : State :=
  let s := enablePort (.mesh n) s
  if s.power.enabled.contains (.mesh n) then
    each (List.range 6) (fun c s =>
      { s with ports.granted := creditSet s.ports.granted (.mesh n) c (nth meshGrants c 0) }) s
  else s

/-- Raise the enable of a gang link, with its 32 initial credits (R73). -/
def enableGang (p : PortId) (s : State) : State :=
  let s := enablePort p s
  if s.power.enabled.contains p then { s with ports.granted := creditSet s.ports.granted p 0 32 } else s

/-- A memory port's enable rises while its controller is ready (R65); its clock is checked (R87). -/
def enableMemory (n : Nat) (s : State) : State :=
  if profile s = 2 || !s.power.ctlRdy.contains n then s
  else if s.power.stopped.contains (.mem n) then count 0xB031 8 s
  else enableMem n s

/-- A link flit port goes to TRAINING under LINK_ADMIN (R194). -/
def enableLink (p : Nat) (s : State) : State :=
  if s.power.stopped.contains (.link p) then count 0xB031 8 s
  else
    let s := enablePort (.link p) s
    if setting s 0x4004 (p + 1) = 1 && (linkAt s p).state = 0 then enterTraining p s else s

/-- The enables of the mesh, memory, link and flash ports rise. -/
def openPorts (s : State) : State :=
  let s := enablePort .flash s
  let s := each (List.range (meshPortsOf s.cfg)) enableMesh s
  let s := each (List.range (memPortsOf s.cfg)) enableMemory s
  each (allPorts s) enableLink s

/-- Every port of the block (R51). -/
def everyPort (s : State) : List PortId :=
  [.gangA, .gangB, .flash] ++ (List.range (meshPortsOf s.cfg)).map .mesh ++ (List.range (memPortsOf s.cfg)).map .mem ++
  (allPorts s).map .link

/-- Enables fall: the ports' credits are void (R54). -/
def closePorts (ps : List PortId) (s : State) : State :=
  each ps dropWaiting { s with power.enabled := s.power.enabled.filter fun p => !ps.contains p }

/-- Start-up step 10 (R52, R435, R469): the ports open, FAILED_STARTS clears, a kept quarantine latch takes hold again. -/
def finishStart (s : State) : State :=
  let s := openPorts { s with seq.phase := 10, always.failedStarts := 0 }
  afterSeeds (if s.always.quarantined then { s with recovery.quarantined := true } else s)

/-! ### The panel exchange begins (R75) -/

/-- The block's own exchange (R75, R384). -/
def exchangeBody (s : State) : GangBody :=
  .exchange (memberId s) (panelSize s) (profile s) (bobbinsOf s.cfg) s.fuses.serial s.keys.fwMeasurement (lcState s) (aliasCert s)

/-- Send the exchange on one link. -/
def sendExchange (l : GangLink) (s : State) : State := gangHop l (memberId s) 0 (exchangeBody s) s

/-- Step 10 in a panel: the gang links are enabled and the exchange starts; a number that is not below the size is a
FAULT. -/
def startGang (s : State) : State :=
  let s := enableGang .gangB (enableGang .gangA s)
  let s := { s with gang.since := s.tick, gang.panel := if memberId s < panelSize s then 0 else 4 }
  sendExchange .b (sendExchange .a s)

/-! ### Resets asked for (R82, R83, R90, R430 to R434, R441, R452, R469) -/

/-- Power lost during the blow of a life-cycle group leaves it partial, and so LOCKED: which of its bits took is a free
value (R452). -/
def partialGroup (s : State) : State :=
  if s.lc.progress = 2 then
    let (n, s) := freshNat s
    let g := (lcGroups s.fuses.lcWord).getD 0
    { s with fuses.words := tput s.fuses.words 6 (BitVec.ofNat 72 (s.fuses.lcWord ||| (n % 254 + 1) * 2 ^ (8 * g))) }
  else s

/-- POWER_ON (R430, R432): the always-on registers, the test port and the tick begin anew. -/
def execPowerOn (s : State) : Host.Outcome State Fault Refusal :=
  .next (
    let s := partialGroup s
    let t := clearIslands s
    let p := { t.power with holdupArmed := false, pfailHighSince := 0 }
    { t with always := { lastResetCause := 1, startCount := 1, failedStarts := 0, tamperEvents := 0, quarantined := false },
             power := p, tap := { sel := 0, dr := 0 }, seq := { Seq.reset with held := !s.power.refclk }, interval := 0, tick := 0 })

/-- RESET_PIN (R82): low for at least four cycles of KZ_REFCLK; a shorter low starts no reset (log entry 30). -/
def execResetPin (cycles : Nat) (s : State) : Host.Outcome State Fault Refusal :=
  .next (if cycles < 4 then s else askReset 2 s)

/-- TAMPER_PIN (R83, R441): low on two consecutive ticks; one reset for as long as the condition lasts. -/
def execTamperPin (ticks : Nat) (s : State) : Host.Outcome State Fault Refusal :=
  .next (if ticks < 2 || s.seq.tamperHold then s else askReset 4 s)

/-- TAMPER_SENSOR (R90). -/
def execTamperSensor (s : State) : Host.Outcome State Fault Refusal :=
  .next (if s.seq.tamperHold then s else askReset 5 s)

/-- TAMPER_CLEAR (R441). -/
def execTamperClear (s : State) : Host.Outcome State Fault Refusal :=
  .next { s with seq.tamperHold := false }

/-- The owning rule of SOFT_RESET (R430, R452, R469): the request is lost with everything else (R427). -/
def ownSoftReset (v : Nat) (s : State) : Own :=
  match firstAbort [(v != 0x5253, abRange), (s.recovery.quarantined && !s.recovery.consent, abState)] with
  | some a => .abort a
  | none => .later (askReset 3 s)

/-- SOFT_RESET. -/
def execSoftReset (r : OdReq) (v : BitVec 16) (s : State) : Host.Outcome State Fault Refusal :=
  .next (odWrite r 0x9001 1 (le 2 v.toNat) (ownSoftReset v.toNat) s)

/-- The monitor of basting mode is back at once: no firmware is awaited (R439). -/
def monitorBack (s : State) : State := if basting s then { s with seq.mgmtReset := false } else s

/-- The owning rule of MGMT_RESET (R430): the executing request is lost (R427, R434). -/
def ownMgmtReset (v : Nat) (s : State) : Own :=
  match firstAbort [(v != 0x4D52, abRange)] with
  | some a => .abort a
  | none => .later (monitorBack (mgmtReset 2 s))

/-- MGMT_RESET. -/
def execMgmtReset (r : OdReq) (v : BitVec 16) (s : State) : Host.Outcome State Fault Refusal :=
  .next (odWrite r 0x9001 2 (le 2 v.toNat) (ownMgmtReset v.toNat) s)

/-- The restarted management island waits for its firmware: no start-up, no activation (R434). -/
def awaitsFirmware (s : State) : Bool := s.seq.mgmtReset && s.seq.phase ≥ 8 && s.fw.step == 0 && !basting s

/-- The heartbeat monitor runs from the moment the firmware reports ready (R454). -/
def firmwareBack (s : State) : State :=
  { s with seq.mgmtReset := false, recovery.hbRunning := true, recovery.hbWritten := false, recovery.hbMisses := 0,
           recovery.hbSince := s.tick }

/-- MGMT_FIRMWARE_READY (R434): the reloaded image must measure as the one that FIRMWARE_EPOCH was derived from. -/
def execMgmtFirmwareReady (s : State) : Host.Outcome State Fault Refusal :=
  .next (if !awaitsFirmware s then s
    else if imageMeasure (slotAt s s.fw.active).image = s.keys.fwMeasurement then firmwareBack s
    else failedStart s)

/-! ### Start-up (R100 to R103, R132, R435 to R438) -/

def fuseWord (s : State) (k : Nat) : BitVec 72 := tgetD s.fuses.words k 0
def plainFuse (s : State) (k : Nat) : Nat := fld (fuseWord s k).toNat 0 64
def eccFuse (s : State) (k : Nat) : Nat := (Config.eccDecode (fuseWord s k)).2.toNat
def eccFinding (s : State) (k : Nat) : Nat := (Config.eccDecode (fuseWord s k)).1

/-- The sensed ROOT_SECRET. -/
def sensedRoot (s : State) : Bytes := (List.range 4).flatMap fun k => le 8 (eccFuse s k)

/-- The root check does not match, or a root word is beyond correction. -/
def rootBad (s : State) : Bool :=
  ((List.range 5).any fun k => eccFinding s k == 2) || le 8 (eccFuse s 4) != slice (Config.sha384 (sensedRoot s)) 0 8

/-- ROOT_STATE (R101), decided in the order LOCKED, BLANK, FAILED. -/
def rootFinding (s : State) (locked : Bool) : Nat :=
  if locked then 3
  else if (List.range 5).all fun k => fuseWord s k == 0 then 4
  else if rootBad s then 2
  else if (List.range 5).any fun k => eccFinding s k == 1 then 1
  else 0

/-- FUSE_CORRECTED: sensed words corrected, and word 15 when its built-in defaults are used (R101). -/
def correctedCount (s : State) (locked : Bool) : Nat :=
  let sensed := (if locked then [] else List.range 5) ++ [5, 9, 10, 11, 12, 13, 14, 15]
  (sensed.filter fun k => eccFinding s k == 1).length + bit (eccFinding s 15 == 2)

/-- FW_SIGNER_DIGEST; zero when one of its words is beyond correction (R101). -/
def sensedSigner (s : State) : Bytes :=
  if [9, 10, 11, 12, 13, 14].any fun k => eccFinding s k == 2 then zeroBytes 48
  else [9, 10, 11, 12, 13, 14].flatMap fun k => le 8 (eccFuse s k)

/-- Fuse sense and life-cycle decode (R100 to R103, R446). -/
def senseFuses (s : State) : State :=
  let w := plainFuse s 6
  let locked := (lcGroups w).isNone
  let root := rootFinding s locked
  let f : Fuses :=
    { words := s.fuses.words, rootState := root, corrected := correctedCount s locked,
      root := if root ≤ 1 then sensedRoot s else [], serial := eccFuse s 5, lcWord := w,
      wipes := thermometer (plainFuse s 7), floor := thermometer (plainFuse s 8), signer := sensedSigner s, blow := none }
  let p : Pin := { noPin with kind := 0, state := 1, purpose := 1 }
  { s with fuses := f, keys.pins := if root ≤ 1 then tput s.keys.pins 0 p else s.keys.pins }

/-- START_UP_RELEASE (R80, R81, R435 steps 0, 1, 2 and 4, R438): the static inputs are sampled, the fuses sensed, the
cordonnet released; or basting mode, or a failed start. -/
def execStartUpRelease (pins : StaticPins) (s : State) : Host.Outcome State Fault Refusal :=
  .next (if s.seq.phase ≠ 0 || s.seq.held || !s.power.refclk || s.seq.tamperHold then s
    else
      let s := senseFuses { s with pins := pins }
      let s := { s with seq.phase := 4, seq.since := s.tick, power.puEn := 0x27, dict.i3cAddr := pins.i3cSa.toNat }
      if pins.profile = 3 then toBasting 2 s
      else if s.fuses.rootState = 3 then toBasting 4 s
      else if s.fuses.rootState = 4 then toBasting 3 s
      else if s.fuses.rootState = 2 then failedStart s
      else s)

/-- A level-1 pin (R108). -/
def levelOne (i purpose objA objB : Nat) (s : State) : State :=
  let p : Pin :=
    { parent := 0, parentGen := (pinAt s 0).gen, gen := (pinAt s i).gen, level := 1, kind := 1, state := 1,
      purpose := purpose, objA := objA, objB := objB, heldSlot := 0, source := 0, childSerial := 0 }
  { s with keys.pins := tput s.keys.pins i p }

/-- STORAGE under the present counts (R108, R135). -/
def deriveStorage (s : State) : State := levelOne 2 puStorage s.fuses.wipes ((lcGroups s.fuses.lcWord).getD 0) s

/-- DEVICE_ID and STORAGE (R132 step 3). -/
def deriveLevelOne (s : State) : State :=
  if s.fuses.rootState ≤ 1 then deriveStorage (levelOne 1 puDeviceId 0 ((lcGroups s.fuses.lcWord).getD 0) s) else s

/-- ENTROPY_STARTUP_TEST_END (R132, R136 to R138, R435 steps 3 and 5). -/
def execEntropyStartupTestEnd (raw : BitVec 1024) (s : State) : Host.Outcome State Fault Refusal :=
  .next (if s.keys.entropy ≠ 0 || s.seq.phase < 4 then s
    else
      let s := { deriveLevelOne s with seq.phase := 5 }
      if rctFails raw || aptFails raw then
        countHealth raw { s with keys.entropy := 2, keys.entropyFails := 1, keys.entropyFailTick := s.tick }
      else
        { s with keys.entropy := 1, keys.keyDrbg := { live := true, requests := 0 },
                 keys.roundDrbg := { live := true, requests := 0 } })

/-- A row of FW_SLOTS: ARMED, ARM_SEQ, EPOCH, VERSION, measurement, PASSED (R453). -/
def slotRow (s : State) (k : Nat) : Bytes :=
  let x := slotAt s k
  le 1 (bit (armSeq x.arming).isSome) ++ le 8 ((armSeq x.arming).getD 0) ++ le 1 (imageEpoch x.image) ++
    imageVersion x.image ++ slice (imageMeasure x.image) 0 48 ++ le 1 (bit (s.fw.passed.contains k))

/-- Step 6 reads both slots (R453). -/
def noteSlots (s : State) : State := { s with fw.slotRows := [slotRow s 0, slotRow s 1] }

/-- FIRMWARE_MEASUREMENT_DONE (R435 steps 6 and 7, R437, R443): the next slot in order has been tried; on a pass
FIRMWARE_EPOCH, the SOLO_SEED and INC follow. -/
def execFirmwareMeasurementDone (s : State) : Host.Outcome State Fault Refusal :=
  .next (if s.seq.phase ≠ 5 || basting s then s
    else match (slotOrder s).filter fun k => !s.seq.tried.contains k with
      | [] => failedStart (noteSlots { s with seq.phase := 6 })
      | k :: rest =>
        let s := { s with seq.tried := s.seq.tried ++ [k] }
        if slotPasses s k then
          let s := { s with fw.passed := s.fw.passed ++ [k], seq.measured := true, seq.phase := 7, seq.since := s.tick }
          drawInc (drawSolo (runImage k (noteSlots s)))
        else if rest.isEmpty then failedStart (noteSlots { s with seq.phase := 6 })
        else noteSlots s)

/-- The interleave that the stored record gives, else 0 (R174). -/
def storedInterleave (s : State) : Nat := match readRecord s recInterleave with | some b => num b 0 1 | none => 0

/-- FIRMWARE_READY (R435 steps 8 to 10): the alias certificate is issued, the interleave read, the islands released. -/
def execFirmwareReady (s : State) : Host.Outcome State Fault Refusal :=
  .next (if s.seq.phase ≠ 7 || basting s then s
    else
      let s := firmwareBack { s with fw.aliasIssued := true, seq.phase := 9, seq.since := s.tick }
      let s := drawMember { s with ports.interleave := storedInterleave s }
      if panelSize s = 1 then finishStart s else startGang s)

/-! ### Clocks, droop, throttling (R30, R87, R92) -/

/-- ISLAND_DROOP: the period in thousandths of the shortest, never above 1.25 times it. -/
def execIslandDroop (island pm : Nat) (s : State) : Host.Outcome State Fault Refusal :=
  if island ≥ 8 + pillowsOf s.cfg then .fault .noSuchPort
  else .next { s with power.period := tput s.power.period island (Nat.max 1000 (Nat.min 1250 pm)) }

/-- PORT_CLOCK_STOP. -/
def execPortClockStop (p : PortId) (s : State) : Host.Outcome State Fault Refusal :=
  if !portExists s p then .fault .noSuchPort
  else .next (if s.power.stopped.contains p then s else { s with power.stopped := p :: s.power.stopped })

/-- PORT_CLOCK_RESUME: what waited at the port's edge moves on. -/
def execPortClockResume (p : PortId) (s : State) : Host.Outcome State Fault Refusal :=
  if !portExists s p then .fault .noSuchPort
  else .next (afterSeeds (retryHeld (flushWaiting { s with power.stopped := s.power.stopped.filter (· != p) })))

/-- REFCLK_LOSS: absent for four ticks or more. -/
def execRefclkLoss (ticks : Nat) (s : State) : Host.Outcome State Fault Refusal :=
  .next (if ticks < 4 then s else { s with power.refclk := false })

/-- REFCLK_RETURN: a reset that was held proceeds. -/
def execRefclkReturn (s : State) : Host.Outcome State Fault Refusal :=
  .next { s with power.refclk := true, seq.held := false }

/-- REFCLK_RECALIBRATE. -/
def execRefclkRecalibrate (s : State) : Host.Outcome State Fault Refusal :=
  .next (if s.power.refclk then { s with power.recalibrations := s.power.recalibrations + 1 } else s)

/-- THROTTLE_CHANGE. -/
def execThrottleChange (t : BitVec 3) (s : State) : Host.Outcome State Fault Refusal :=
  .next (retryUnits { s with power.throttle := t.toNat })

/-! ### Power failure (R94 to R96, R102, R452) -/

/-- Pin cache, round-key slots, bobbin scratch and tally cache are zeroised. -/
def zeroiseCaches (s : State) : State :=
  { s with keys.cache := [], keys.missQueue := [], tension.roundKeys := [], tension.scratch := [], tally.nodes := [],
           tally.walks := [], tally.migrations := [] }

/-- Tension accepts nothing, and the admitted units leave. -/
def drainUnits (s : State) : State := squashUnits (fun _ => true) stDone { s with tension.closed := true }

/-- PFAIL_GLITCH (R94): low for fewer than three ticks. A count towards HOLDUP_ARMED that still runs begins again (log
entry 31). -/
def execPfailGlitch (ticks : Nat) (s : State) : Host.Outcome State Fault Refusal :=
  .next (if ticks = 0 || ticks ≥ 3 || s.power.pfailLow then s
    else
      let s := count 0x9004 4 s
      if s.power.holdupArmed then s else { s with power.pfailHighSince := s.tick })

/-- No life-cycle transition runs. -/
def noTransition : Lc := { progress := 0, target := 0, req := none }

/-- An erase under way is aborted; a page program goes on (R95 step 6). -/
def abortErase (s : State) : State :=
  if s.flash.reqs.any fun q => q.op == 2 then
    emit (.flash 3 0 0) { s with flash.reqs := s.flash.reqs.filter fun q => q.op != 2 }
  else s

/-- PFAIL_FALL (R95 steps 1 to 6, R102, R452). -/
def execPfailFall (s : State) : Host.Outcome State Fault Refusal :=
  .next (if s.power.pfailLow then s
    else
      let s := { s with power.pfailLow := true, power.holdupArmed := false }
      if s.power.quiescing || s.power.quiesced then s
      else
        let s := zeroiseCaches (drainUnits (count 0x9004 3 s))
        let s := abortErase { s with fuses.root := [], power.quiescing := true }
        if s.lc.progress = 3 then { s with lc := noTransition } else s)

/-- QUIESCE_COMPLETE (R95 step 7): no blow and no page program is under way. -/
def execQuiesceComplete (s : State) : Host.Outcome State Fault Refusal :=
  .next (if !s.power.quiescing || s.fuses.blow.isSome || s.lc.progress = 2 || (s.flash.reqs.any fun q => q.op == 1) then s
    else
      let s := closePorts (everyPort s) { s with power.quiescing := false, power.quiesced := true }
      each (allPorts s) (setLink · fun x => { clearLink x with state := 0, phyEn := false }) s)

/-- PFAIL_RISE (R94, R96). -/
def execPfailRise (s : State) : Host.Outcome State Fault Refusal :=
  .next (if s.power.pfailLow then { s with power.pfailLow := false, power.pfailHighSince := s.tick } else s)

/-- HOLDUP_ARM_TIMER (R94): due once PFAIL_N has been high for 100,000 ticks. -/
def execHoldupArmTimer (s : State) : Host.Outcome State Fault Refusal :=
  .next (if !s.power.pfailLow && s.power.pfailHighSince + 100000 ≤ s.tick then { s with power.holdupArmed := true } else s)

/-! ### Retention (R93, R173, R404) -/

/-- The block is idle: no unit admitted and no accepted request unanswered, no queue non-empty, every link flit port
disabled, no service-unit job (log entry 32). -/
def idleForRetention (s : State) : Bool :=
  s.tension.units.isEmpty && s.ports.inReqs.isEmpty && s.host.descs.isEmpty && (s.host.queues.all fun e => pendingOf e.2 == 0) &&
  ((allPorts s).all fun p => (linkAt s p).state == 0) && !serviceBusy s

/-- A region with a dirty node is ORPHANED (R173). -/
def orphanDirty (s : State) : State :=
  { s with tally.regions := tmapAll s.tally.regions fun k r =>
      if s.tally.nodes.any fun n => n.slot == k && decide (n.state ≥ 2) then { r with state := 5 } else r }

/-- Enter retention: the shuttle lock is freed as by a revocation (R404), scratch, tally cache and port buffers are empty,
the enables fall; the gang links stay for the wake (log entry 32). -/
def enterRetention (s : State) : State :=
  let s := if s.shuttle.owner.isSome then freeShuttle (count 0xB090 3 s) else s
  let s := orphanDirty s
  let s := { s with tension.scratch := [], tally.nodes := [], tally.walks := [], tally.migrations := [], ports.waitOut := [] }
  let keep := fun (p : PortId) => decide (panelSize s > 1) && (p == .gangA || p == .gangB)
  closePorts ((everyPort s).filter fun p => !keep p) { s with power.retention := true }

/-- Leave retention: the ports are enabled and credits are granted afresh. -/
def leaveRetention (s : State) : State := afterSeeds (openPorts { s with power.retention := false })

/-- A member other than 0 of a panel (R93). -/
def follower (s : State) : Bool := decide (panelSize s > 1) && memberId s != 0

/-- The owning rule of POWER_STATE (R93): in a panel, member 0 takes every member with it. -/
def ownPowerState (v : Nat) (s : State) : Own :=
  if v = 1 then
    guarded [(follower s, abState), (!s.power.retention && !idleForRetention s, abState)]
      (if s.power.retention then s else enterRetention (gangTell (.retention true) s))
  else
    guarded [(follower s, abState)]
      (if s.power.retention then gangTell (.retention false) (leaveRetention s) else s)

/-- RETENTION_ENTER. -/
def execRetentionEnter (r : OdReq) (s : State) : Host.Outcome State Fault Refusal :=
  .next (odWrite r 0x9030 1 [1] (ownPowerState 1) s)

/-- RETENTION_EXIT. -/
def execRetentionExit (r : OdReq) (s : State) : Host.Outcome State Fault Refusal :=
  .next (odWrite r 0x9030 1 [0] (ownPowerState 0) s)

end Sys2Proof.Machine
end

