-- ==== Sys2Proof/Machine/GangRows.lean ====
section
/-! DEFINITION. The gang port: the panel exchange, frames and their acknowledgement, breaks of the ring, and what the
members tell one another (R73 to R77, R93, R119, R130, R384, R385). -/

namespace Sys2Proof.Machine

/-! ### The panel forms (R75, R119, R384) -/

/-- Every member is known, the block's own exchange has come round, and all values agree. -/
def panelAgrees (s : State) : Bool :=
  (List.range (panelSize s)).all fun i => match tget s.gang.members i with
    | some m => m.size == panelSize s && m.profile == profile s && m.config == bobbinsOf s.cfg
    | none => false

/-- The PANEL pin is created from the panel agreement secret, whose agreement the spec does not give (log entry 33). -/
def createPanelPin (s : State) : State :=
  let (secret, s) := draw 48 s
  match agreedPin puPanel 3 0 0 (pinHandle 3 (pinAt s 3).gen) secret s with
  | .ok (_, t) => t
  | .error _ => s

/-- PANEL_STATE first reads FORMED: the ports open; member 0 sends the seed and the member key. -/
def panelFormed (s : State) : State :=
  let s := createPanelPin { s with gang.panel := 1 }
  sendMember (sendSeed puSolo (finishStart s))

/-- Look whether the ring has closed. -/
def settlePanel (s : State) : State :=
  if s.gang.panel = 0 && s.seq.phase = 9 && panelAgrees s then panelFormed s else s

def panelFault (s : State) : State := { s with gang.panel := 4 }

/-- An exchange: kept, and passed on round the ring; the block's own one has come round. A number or value that does not
fit, or a number that two members bear, is a FAULT. -/
def takeExchange (l : GangLink) (f : GangFrame) (id : Nat) (m : Member) (s : State) : State :=
  let mine := id == memberId s
  let s := if mine then s else gangHop (otherLink l) f.src f.seq f.body s
  if s.gang.panel ≠ 0 then s
  else if id ≥ panelSize s || m.size ≠ panelSize s || m.profile ≠ profile s || m.config ≠ bobbinsOf s.cfg then panelFault s
  else if mine && m.serial ≠ s.fuses.serial then panelFault s
  else match tget s.gang.members id with
    | some o => if o.serial = m.serial then s else panelFault s
    | none =>
      let m := { m with verified := mine || Config.chainOk (rootDigest s) m.chain }
      settlePanel { s with gang.members := tput s.gang.members id m }

/-! ### What a frame tells (R93, R119, R130, R384) -/

/-- A seed from member 0: a SOLO_SEED replaces the present one; a DOMAIN_SEED completes the join, or is held until the
member joins (log entry 26); what does not unwrap is counted (R118). -/
def takeSeed (w : Bytes) (s : State) : State :=
  match panelPin s with
  | none => s
  | some h =>
    match unwrap (keyOf s h) puSolo 3 w, unwrap (keyOf s h) puDomain 3 w with
    | some (_, _, v), _ =>
      if hasDomain s then s
      else
        let had := (findPin s puSolo fun _ => true).isSome
        let s := dropSeed puSolo s
        let s := installSeed false 0 v 2 (if had then resetPartitions s else s)
        afterSeeds { s with keys.seedPending := 0 }
    | none, some (_, _, v) =>
      if s.domain.state = 1 then joinInstall v 2 s
      else if s.domain.state = 0 then { s with gang.heldSeed := v }
      else s
    | none, none => count 0x2000 9 s

/-- The member key seed from member 0: CERT_STORE is cleared when it replaces another (R363); what does not unwrap is
counted (R118). -/
def takeMember (w : Bytes) (s : State) : State :=
  match panelPin s with
  | none => s
  | some h => match unwrap (keyOf s h) 0 0 w with
    | none => count 0x2000 9 s
    | some (_, _, v) =>
      if memberSeed s = some v then s
      else setMember v (if (memberSeed s).isSome then clearStore s else s)

/-- A level-3 invalidation that another member asked for (R130). -/
def takeInvalidation (purpose : Nat) (s : State) : State :=
  if purpose = puDomain then (if hasDomain s then leaveDomain false s else s)
  else if purpose = puSolo then
    (if (findPin s puSolo fun _ => true).isSome then afterSeeds (resetPartitions (dropSeed puSolo s)) else s)
  else s

/-- Member 0 carries out a SAMPLE_NONCE written at another member (R384). -/
def takeSample (nonce : Bytes) (s : State) : State :=
  if memberId s ≠ 0 then s
  else match ownSampleNonce nonce s with
    | .ok t => t
    | .abort _ | .later _ => s

/-- What a frame of another member does here. -/
def frameEffect (f : GangFrame) (s : State) : State :=
  match f.body with
  | .seed w => if f.src = 0 && !leads s then takeSeed w s else s
  | .memberKey w => if f.src = 0 && !leads s then takeMember w s else s
  | .invalidate purpose => takeInvalidation purpose s
  | .retention enter =>
    if f.src ≠ 0 then s
    else if enter then (if s.power.retention then s else enterRetention s)
    else if s.power.retention then leaveRetention s
    else s
  | .certificate no c => storeCert no c { s with domain.sampleNo := no }
  | .sample nonce => takeSample nonce s
  | .exchange _ _ _ _ _ _ _ _ | .ack _ => s

/-- A frame of another member: taken once, and passed on unless the next member made it. -/
def takeFrame (l : GangLink) (f : GangFrame) (s : State) : State :=
  if f.src = memberId s || f.seq ≤ tgetD s.gang.seen f.src 0 then s
  else
    let s := { s with gang.seen := tput s.gang.seen f.src f.seq }
    let s := if gangPeer s (otherLink l) = f.src then s else gangHop (otherLink l) f.src f.seq f.body s
    frameEffect f s

/-- Acknowledge a frame to the member it came from (R76). -/
def ackFrame (l : GangLink) (f : GangFrame) (s : State) : State :=
  emit (.gang l { src := memberId s, seq := 0, no := 0, body := .ack f.no }) s

/-- GANG_FRAME_RECEIVE (R75 to R77). -/
def execGangFrameReceive (link : GangLink) (f : GangFrame) (s : State) : Host.Outcome State Fault Refusal :=
  .next (if !gangUsable s link then s
    else match f.body with
      | .ack no =>
        (match tget s.gang.unacked no with
         | some (l, _) => if l = link then { s with gang.unacked := tdel s.gang.unacked no } else s
         | none => s)
      | .exchange id size prof cfg serial meas lc chain =>
        takeExchange link f id
          { size := size, profile := prof, config := cfg, serial := serial, measurement := meas, lifeCycle := lc,
            verified := false, chain := chain } (ackFrame link f s)
      | _ => takeFrame link f (ackFrame link f s))

/-- GANG_RING_TIMEOUT (R75): due when the ring has not closed within 10,000 ticks. -/
def execGangRingTimeout (s : State) : Host.Outcome State Fault Refusal :=
  .next (if s.seq.phase = 9 && panelSize s ≠ 1 && s.gang.panel = 0 && s.gang.since + 10000 ≤ s.tick then panelFault s else s)

/-! ### Links that break (R76, R130, R385) -/

/-- PANEL_STATE becomes SPLIT: the DOMAIN_SEED and PANEL pins go, the shared member key goes, and the block stands
alone. -/
def panelSplit (s : State) : State :=
  let s := { s with gang.panel := 3 }
  let s := if hasDomain s || s.domain.charter.isSome then leaveDomain false s else s
  let s := clearStore (dropMember (dropSeed puPanel s))
  let s := if (seedPin s).isNone then drawSolo s else s
  afterSeeds (drawMember s)

/-- Frames that were not acknowledged go the other way round (R76). -/
def resendFrames (l : GangLink) (s : State) : State :=
  let lost := (s.gang.unacked.filter fun e => e.2.1 == l).map (·.2.2)
  let s := { s with gang.unacked := s.gang.unacked.filter fun e => e.2.1 != l }
  each lost (fun f s => gangHop (otherLink l) f.src f.seq f.body s) s

/-- A link is given up. -/
def breakLink (l : GangLink) (s : State) : State :=
  let s := match l with
    | .a => { s with gang.aBroken := true }
    | .b => { s with gang.bBroken := true }
  let s := resendFrames l (count 0xB031 6 s)
  if s.gang.panel = 1 then { s with gang.panel := 2 }
  else if s.gang.panel = 2 then panelSplit s
  else s

/-- GANG_LINK_DOWN (R76): KZ_GLL_UP falls or RX_ERR rises. -/
def execGangLinkDown (link : GangLink) (s : State) : Host.Outcome State Fault Refusal :=
  .next (
    let used := gangUsable s link
    let s := match link with
      | .a => { s with gang.aUp := false }
      | .b => { s with gang.bUp := false }
    if used then breakLink link s else s)

/-- GANG_LINK_UP (R73, R75): an enabled link carries the exchange while the panel forms. -/
def execGangLinkUp (link : GangLink) (s : State) : Host.Outcome State Fault Refusal :=
  .next (
    let was := gangUsable s link
    let s := match link with
      | .a => { s with gang.aUp := true }
      | .b => { s with gang.bUp := true }
    if !was && s.seq.phase = 9 && s.gang.panel ≠ 3 then sendExchange link s else s)

end Sys2Proof.Machine
end

