-- ==== Sys2Proof/Machine/LifeCycle.lean ====
section
/-! DEFINITION. The flash port's answers, the I3C address, the test port, fuse programming, user-flash wipes, firmware staging
and activation, and the life cycle (R78 to R85, R104, R105, R131, R135, R437, R440 to R452). -/

namespace Sys2Proof.Machine

/-! ### Flash and I3C (R78, R79, R84) -/

/-- A program that failed: what it wrote reads as absent (R79). -/
def flashFailed (q : FlashReq) (s : State) : State :=
  let s := count 0xB031 7 s
  if q.op ≠ 1 then s
  else match q.record with
    | some id => { s with flash.user := tdel s.flash.user id }
    | none =>
      if q.addr ≥ 0x840000 then { s with flash.banks := tdel s.flash.banks 0 }
      else
        let k := q.addr / 0x400000
        let x := slotAt s k
        let y := if q.addr % 0x400000 < 0x10000 then { x with arming := [] } else { x with image := [] }
        { s with flash.slots := tput s.flash.slots k y }

/-- FLASH_DONE: the oldest request finishes or fails. -/
def execFlashDone (err : Bool) (s : State) : Host.Outcome State Fault Refusal :=
  .next (match s.flash.reqs with
    | [] => s
    | q :: rest =>
      let s := { s with flash.reqs := rest }
      if err then flashFailed q s else s)

/-- I3C_DYNAMIC_ADDRESS: the target is enabled from start-up step 4 on. -/
def execI3cDynamicAddress (addr : BitVec 7) (s : State) : Host.Outcome State Fault Refusal :=
  .next (if s.seq.phase ≥ 4 && !s.power.quiesced then { s with dict.i3cAddr := addr.toNat } else s)

/-! ### The test port (R85, R447, R448) -/

/-- The life cycle is decoded and reads OPEN. -/
def tapOpen (s : State) : Bool := s.seq.phase ≥ 1 && isOpen s

/-- TAP_RESET. -/
def execTapReset (s : State) : Host.Outcome State Fault Refusal := .next { s with tap.sel := 0 }

/-- TAP_INSTRUCTION_LOAD. -/
def execTapInstructionLoad (ir : BitVec 8) (s : State) : Host.Outcome State Fault Refusal :=
  .next { s with tap.sel :=
    if ir = 0x01 then 0
    else if ir = 0x20 && tapOpen s then 1
    else if ir = 0x30 && tapOpen s then 2
    else 3 }

/-- KZ_DEBUG is selected in the open state. -/
def debugging (s : State) : Bool := s.tap.sel == 1 && tapOpen s

/-- DEBUG_NOP. -/
def execDebugNop (s : State) : Host.Outcome State Fault Refusal := .next s

/-- The eight bytes of the pattern store at an offset, where a pattern holds the frame (R318). -/
def patternWord (s : State) (a : Nat) : Option Nat :=
  (s.patterns.dir.find? fun e =>
      e.2.state == 2 && decide (e.2.frameBase ≤ a / 8) && decide (a / 8 < e.2.frameBase + e.2.nodes)).map fun e =>
    num e.2.image (8 * a - 64 * e.2.frameBase) 8

/-- The eight bytes of the tacking log at an offset. -/
def logWord (s : State) (a : Nat) : Option Nat := s.log.recs[a / 4]?.map fun r => fld r.toNat (64 * (a % 4)) 64

/-- What a READ captures: 0 from a space held in reset or a reserved one; what the model does not hold is a free value (log
entry 34). -/
def captured (space a : Nat) (s : State) : Nat × State :=
  if space > 5 || (space ≤ 4 && s.seq.phase < 9) || s.seq.phase < 4 then (0, s)
  else match (if space = 2 then patternWord s a else if space = 4 then logWord s a else none) with
    | some v => (v, s)
    | none => let (n, s) := freshNat s; (n % 2 ^ 64, s)

/-- DEBUG_READ: DATA takes eight bytes of the space. -/
def execDebugRead (dr : BitVec 112) (s : State) : Host.Outcome State Fault Refusal :=
  .next (if !debugging s || fld dr.toNat 0 2 ≠ 1 then s
    else
      let (v, s) := captured (fld dr.toNat 2 4) (fld dr.toNat 16 32) s
      let w := BitVec.ofNat 112 (fld dr.toNat 0 48 + 2 ^ 48 * v)
      emit (.tdo w) { s with tap.dr := w })

/-- DEBUG_HALT. -/
def execDebugHalt (s : State) : Host.Outcome State Fault Refusal :=
  .next (if debugging s then { s with seq.halted := true } else s)

/-- DEBUG_RESUME. -/
def execDebugResume (s : State) : Host.Outcome State Fault Refusal :=
  .next (if debugging s then { s with seq.halted := false } else s)

/-! ### Fuses (R85, R104, R105, R135) -/

/-- Bits of a word that a request asks for and that are not blown. -/
def unblown (s : State) (word : Nat) (bits : Nat) : List Nat :=
  (List.range 72).filter fun b => tbit bits b && !tbit (fuseWord s word).toNat b

/-- No fuse is being blown and no transition runs. -/
def fusesFree (s : State) : Bool := s.fuses.blow.isNone && s.lc.progress == 0

/-- Begin to blow bits. -/
def blowBits (word : Nat) (bits : List Nat) (why : Nat) (r : Option OdReq) (s : State) : State :=
  { s with fuses.blow := if bits.isEmpty then none else some { word := word, bits := bits, failedOnce := false, why := why, req := r } }

/-- FUSE_PROGRAM (R85, R104, R447): words other than 6, 7 and 8, in the open state, under the conditions of R94. -/
def execFuseProgram (word : Nat) (bits : BitVec 72) (s : State) : Host.Outcome State Fault Refusal :=
  .next (if s.tap.sel = 2 && tapOpen s && powerGood s && fusesFree s && decide (word < 32) && ! [6, 7, 8].contains word then
      blowBits word (unblown s word bits.toNat) 0 none s
    else s)

/-- Bytes of the flash window (R79). -/
def windowSize (s : State) : Nat := 2 ^ (24 + s.pins.flWin.toNat)

/-- Every user-flash sector is erased, while R94 lets an erase start (R135, R440). -/
def eraseUser (s : State) : State :=
  if !powerGood s then s
  else
    let q : FlashReq := { op := 2, addr := 0x840000, record := none }
    let s := { s with flash := { s.flash with user := [], banks := [], reqs := s.flash.reqs ++ [q] } }
    emit (.flash 2 0x840000 (windowSize s - 0x840000)) { s with domain.staged := [], domain.stagedTotal := 0 }

/-- STORAGE is invalidated in SQUASH mode and derived anew (R135 steps 2 and 3). -/
def renewStorage (s : State) : State :=
  deriveStorage (sweep 2 (invalidate (pinHandle 2 (pinAt s 2).gen) true s))

/-- A blow has ended: `ok` when every bit verified. The counts are as re-sensed (R104). -/
def blowEnded (b : Blow) (ok : Bool) (s : State) : State :=
  let s := { s with fuses := { s.fuses with
    blow := none, wipes := if b.word = 7 then thermometer (plainFuse s 7) else s.fuses.wipes,
    floor := if b.word = 8 then thermometer (plainFuse s 8) else s.fuses.floor } }
  let say := fun (sub : Nat) (s : State) => match b.req with
    | some r => answer r 2 0x2003 sub (if ok then 0 else abState) 0 0 [] s
    | none => s
  if b.why = 1 then say 2 s
  else if b.why = 2 then say 1 (if ok then eraseUser (renewStorage s) else s)
  else s

/-- FUSE_BLOW_DONE (R95 step 5, R104): the word is re-sensed; a bit that did not take is blown once more. -/
def execFuseBlowDone (took : Bool) (s : State) : Host.Outcome State Fault Refusal :=
  .next (match s.fuses.blow with
    | none => s
    | some b => match b.bits with
      | [] => blowEnded b true s
      | k :: rest =>
        if took then
          let w := fuseWord s b.word ||| BitVec.ofNat 72 (2 ^ k)
          let s := { s with fuses.words := tput s.fuses.words b.word w }
          if rest.isEmpty then blowEnded b true s
          else { s with fuses.blow := some { b with bits := rest, failedOnce := false } }
        else if b.failedOnce then blowEnded b false s
        else { s with fuses.blow := some { b with failedOnce := true } })

/-- The owning rule of RAISE_EPOCH_FLOOR (R94, R105): answered when the word decodes to n. -/
def ownRaiseEpochFloor (r : OdReq) (n : Nat) (s : State) : Own :=
  match firstAbort [(decide (n < s.fuses.floor) || decide (n > s.fw.epoch) || decide (n > 64), abRange),
      (!powerGood s || !fusesFree s, abState)] with
  | some a => .abort a
  | none =>
    if n = s.fuses.floor then .ok s
    else .later (blowBits 8 ((List.range 64).filter fun b => decide (s.fuses.floor ≤ b) && decide (b < n)) 1 (some r) s)

/-- RAISE_EPOCH_FLOOR. -/
def execRaiseEpochFloor (r : OdReq) (v : BitVec 8) (s : State) : Host.Outcome State Fault Refusal :=
  .next (odWrite r 0x2003 2 (le 1 v.toNat) (ownRaiseEpochFloor r v.toNat) s)

/-- The owning rule of USER_FLASH_WIPE (R94, R135): answered once the bit has verified and the erase has begun. -/
def ownUserFlashWipe (r : OdReq) (v : Nat) (s : State) : Own :=
  match firstAbort [(v != 0x5749 || s.fuses.wipes == 64, abRange), (!powerGood s || !fusesFree s, abState)] with
  | some a => .abort a
  | none => .later (blowBits 7 [s.fuses.wipes] 2 (some r) s)

/-- USER_FLASH_WIPE. -/
def execUserFlashWipe (r : OdReq) (v : BitVec 16) (s : State) : Host.Outcome State Fault Refusal :=
  .next (odWrite r 0x2003 1 (le 2 v.toNat) (ownUserFlashWipe r v.toNat) s)

/-! ### Firmware staging (R94, R444) -/

/-- The slot that takes a staged image. -/
def inactiveSlot (s : State) : Nat :=
  if !basting s then 1 - s.fw.active
  else match armSeq (slotAt s 0).arming, armSeq (slotAt s 1).arming with
    | none, _ => 0
    | some _, none => 1
    | some a, some b => if a ≤ b then 0 else 1

/-- An activation runs or waits to run; a life-cycle transition runs. -/
def updating (s : State) : Bool := s.fw.step != 0 || s.domain.activationWaits || s.lc.progress != 0

/-- The owning rule of FW_STAGE_BEGIN. -/
def ownStageBegin (v : Nat) (s : State) : Own :=
  let k := inactiveSlot s
  guarded [(decide (v < 7509) || decide (v > 4128768), abRange), (!powerGood s || updating s, abState), (s.fw.checking, abBusy)]
    (emit (.flash 2 (0x400000 * k) 0x400000)
      { s with flash.slots := tput s.flash.slots k { arming := [], image := [] },
               flash.reqs := s.flash.reqs ++ [{ op := 2, addr := 0x400000 * k, record := none }],
               fw := { s.fw with total := v, staged := [], staged_ok := false, status := 0 } })

/-- FW_STAGE_BEGIN. -/
def execFwStageBegin (r : OdReq) (v : BitVec 32) (s : State) : Host.Outcome State Fault Refusal :=
  .next (odWrite r 0x9020 2 (le 4 v.toNat) (ownStageBegin v.toNat) s)

/-- The owning rule of FW_STAGE_CHUNK: offset, length, zeros, data with zeros beyond the length. -/
def ownStageChunk (v : Bytes) (s : State) : Own :=
  let off := num v 0 4
  let n := num v 4 2
  let k := inactiveSlot s
  let at_ := 0x400000 * k + 0x10000 + off
  let bad := off != s.fw.staged.length || n == 0 || decide (n > 1024) || decide (off + n > s.fw.total) || !zeros v 6 2 ||
    !zeros v (8 + n) (1024 - n)
  guarded [(bad, abRange), (!powerGood s || updating s, abState), (s.fw.checking, abBusy)]
    (emit (.flash 1 at_ n)
      { s with flash.slots := tput s.flash.slots k { slotAt s k with image := s.fw.staged ++ slice v 8 n },
               flash.reqs := s.flash.reqs ++ [{ op := 1, addr := at_, record := none }],
               fw.staged := s.fw.staged ++ slice v 8 n })

/-- FW_STAGE_CHUNK. -/
def execFwStageChunk (r : OdReq) (v : Bytes) (s : State) : Host.Outcome State Fault Refusal :=
  .next (odWrite r 0x9020 3 v (ownStageChunk v) s)

/-- The owning rule of FW_STAGE_COMMIT. -/
def ownStageCommit (s : State) : Own :=
  guarded [(!powerGood s || updating s || s.fw.total == 0 || decide (s.fw.staged.length < s.fw.total), abState),
    (s.fw.checking, abBusy)]
    { s with fw := { s.fw with checking := true, status := 0xFF } }

/-- FW_STAGE_COMMIT. -/
def execFwStageCommit (r : OdReq) (v : BitVec 8) (s : State) : Host.Outcome State Fault Refusal :=
  .next (odWrite r 0x9020 5 (le 1 v.toNat) ownStageCommit s)

/-- FW_STAGE_CHECK_DONE: the image as the slot holds it. -/
def execFwStageCheckDone (s : State) : Host.Outcome State Fault Refusal :=
  .next (if !s.fw.checking then s
    else
      let st := imageStatus s (slotAt s (inactiveSlot s)).image
      { s with fw := { s.fw with checking := false, status := st, staged_ok := st == stDone } })

/-! ### Activation (R131, R386, R388, R445) -/

/-- The owning rule of FW_ACTIVATE: after a pending commit; in basting mode the slot is armed and the block resets. -/
def ownFwActivate (r : OdReq) (s : State) : Own :=
  match firstAbort [(!s.fw.staged_ok || !powerGood s || updating s, abState)] with
  | some a => .abort a
  | none =>
    if basting s then .later (wholeReset 8 (armSlot (inactiveSlot s) s))
    else answered r 0x9020 6 (fun s =>
      if s.domain.pending ≠ 0 then { s with domain.activationWaits := true }
      else startActivation s) s

/-- FW_ACTIVATE. -/
def execFwActivate (r : OdReq) (v : BitVec 8) (s : State) : Host.Outcome State Fault Refusal :=
  .next (odWrite r 0x9020 6 (le 1 v.toNat) (ownFwActivate r) s)

/-- The image of a slot has been measured and reports ready (R386, R445 steps 4 to 6): every key below FIRMWARE_EPOCH is
new, the domain is left. -/
def finishActivation (k st : Nat) (arm : Bool) (s : State) : State :=
  let s := if thas s.keys.inval 3 then sweep 3 s else s
  let s := firmwareBack (runImage k s)
  let s := { s with fw := { s.fw with aliasIssued := true, step := 0, status := st, restoring := none, staged := [], total := 0,
                                      staged_ok := false } }
  let s := clearStore (dropMember (forgetCharter { s with domain.state := 0 }))
  let s := drawMember (drawSolo s)
  afterSeeds (if arm then armSlot k s else s)

/-- The new image has failed: the old one is restored, under the status of the failure; when that fails too, the start has
failed (R434, R445). -/
def activationFails (st : Nat) (s : State) : State :=
  match s.fw.restoring with
  | none => mgmtReset 3 { s with fw.restoring := some st }
  | some _ => failedStart s

/-- ACTIVATION_FIRMWARE_READY. -/
def execActivationFirmwareReady (s : State) : Host.Outcome State Fault Refusal :=
  .next (if s.fw.step ≠ 3 then s
    else match s.fw.restoring with
      | none =>
        let k := inactiveSlot s
        let st := imageStatus s (slotAt s k).image
        if st = stDone then finishActivation k stDone true s else activationFails st s
      | some st =>
        if slotPasses s s.fw.active then finishActivation s.fw.active st false s else failedStart s)

/-- FIRMWARE_READY_TIMEOUT (R434, R435, R437, R445): due 50,000 ticks after step 6, or 55,000 after a management-island
reset. -/
def execFirmwareReadyTimeout (s : State) : Host.Outcome State Fault Refusal :=
  .next (if s.seq.phase = 7 && !basting s && s.seq.since + 50000 ≤ s.tick then failedStart { s with seq.phase := 8 }
    else if awaitsFirmware s && s.seq.since + 55000 ≤ s.tick then failedStart s
    else if s.fw.step = 3 && s.seq.since + 55000 ≤ s.tick then activationFails stTimeout s
    else s)

/-! ### The life cycle (R446 to R452) -/

/-- LC_WORD once a transition to a target (1 CLOSED, 2 OPEN) has verified; none where none is possible (R449, R451). -/
def lcGoal (w target : Nat) : Option Nat :=
  match lcGroups w with
  | some n => if n ≥ 6 || n % 2 + 1 ≠ target then none else some (2 ^ (8 * (n + 1)) - 1)
  | none =>
    if target ≠ 2 || w ≥ 2 ^ 48 then none
    else
      let top := ((List.range 6).filter fun g => fld w (8 * g) 8 != 0).foldl Nat.max 0 + 1
      let n := if top % 2 = 0 then top else top + 1
      some (2 ^ (8 * n) - 1)

/-- A staging runs: begun, and no commit of it has ended. -/
def staging (s : State) : Bool := s.fw.checking || (s.fw.total != 0 && !s.fw.staged_ok && s.fw.status == 0)

/-- Steps 1 to 3 of R450: tension closes, the units leave, the sessions end but the requester's until it is answered (log
entry 35), keys and internal memories are zeroised, the blow begins. -/
def startTransition (r : OdReq) (target : Nat) (s : State) : State :=
  let s := each s.domain.sessions (fun e s => if r.sess = some e.1 then s else endSession e.1 s) s
  let s := zeroiseCaches (drainUnits s)
  { s with keys.held := [], domain.memberSlot := none,
           lc := { progress := 2, target := target, req := some r } }

/-- The owning rule of LC_REQUEST (R449). -/
def ownLcRequest (r : OdReq) (v : Nat) (s : State) : Own :=
  let target := fld v 0 2
  match firstAbort [
      (fld v 2 14 != 0 || fld v 16 16 != 0x4C43 || target == 0 || target == 3, abRange),
      (target == 2 && !basting s && granted s r != 2, abAccess),
      ((lcGoal s.fuses.lcWord target).isNone, abState),
      (!powerGood s || !fusesFree s || updating s || staging s, abState)] with
  | some a => .abort a
  | none => .later (startTransition r target s)

/-- LC_REQUEST_CLOSED. -/
def execLcRequestClosed (r : OdReq) (v : BitVec 32) (s : State) : Host.Outcome State Fault Refusal :=
  .next (odWrite r 0x9010 4 (le 4 v.toNat) (ownLcRequest r v.toNat) s)

/-- LC_REQUEST_OPEN. -/
def execLcRequestOpen (r : OdReq) (v : BitVec 32) (s : State) : Host.Outcome State Fault Refusal :=
  .next (odWrite r 0x9010 4 (le 4 v.toNat) (fun s => ownLcRequest r v.toNat s) s)

/-- Step 4 of R450: the next STORAGE_WIPES bit, and the erase. -/
def startWipe (s : State) : State :=
  let s := { s with lc := { s.lc with progress := 3 } }
  eraseUser (if s.fuses.wipes < 64 then blowBits 7 [s.fuses.wipes] 4 none s else s)

/-- LC_BLOW_DONE (R450 to R452): the word as re-sensed; the write is answered; the wipe or the reset follows. -/
def execLcBlowDone (got : BitVec 64) (s : State) : Host.Outcome State Fault Refusal :=
  .next (if s.lc.progress ≠ 2 then s
    else
      let ok := lcGoal s.fuses.lcWord s.lc.target == some got.toNat
      let s := { s with fuses := { s.fuses with words := tput s.fuses.words 6 (BitVec.ofNat 72 got.toNat), lcWord := got.toNat } }
      let s := match s.lc.req with
        | some r => answer r 2 0x9010 4 (if ok then 0 else abState) 0 0 [] s
        | none => s
      let s := endSessions { s with lc.req := none }
      match s.seq.deferred with
      | some cause => wholeReset cause s
      | none =>
        if s.power.pfailLow then { s with lc := noTransition }
        else if ok && s.lc.target = 2 then startWipe s
        else wholeReset 6 s)

/-- LC_WIPE_DONE (R450 step 5). -/
def execLcWipeDone (s : State) : Host.Outcome State Fault Refusal :=
  .next (if s.lc.progress = 3 && s.fuses.blow.isNone then wholeReset 6 s else s)

end Sys2Proof.Machine
end

