-- ==== Sys2Proof/Machine/Recovery.lean ====
section
/-! DEFINITION. The heartbeat, hang timers, context resets and their records, escalation, the tacking log as the operator
drives and reads it, and armed dumps (R454 to R479). -/

namespace Sys2Proof.Machine

/-! ### The heartbeat (R454) -/

/-- HEARTBEAT_WRITE: the firmware writes the monitor; a halted cordonnet does not (R448). -/
def execHeartbeatWrite (s : State) : Host.Outcome State Fault Refusal :=
  .next (if s.recovery.hbRunning && !s.seq.halted then { s with recovery.hbWritten := true } else s)

/-- An interval without a write (R454, R475). -/
def missBeat (s : State) : State :=
  let s := trigger 2 (count 0xB000 9 { s with recovery.hbMisses := s.recovery.hbMisses + 1 })
  if s.recovery.hbMisses ≥ 3 then mgmtReset 1 (count 0xB000 0xA s) else s

/-- HEARTBEAT_INTERVAL_END: due when the tick count has passed a multiple of 1,000 since the interval began. -/
def execHeartbeatIntervalEnd (s : State) : Host.Outcome State Fault Refusal :=
  .next (if !s.recovery.hbRunning || s.tick / 1000 = s.recovery.hbSince / 1000 then s
    else
      let t := { s with recovery.hbSince := s.tick }
      if s.recovery.hbWritten then { t with recovery.hbWritten := false, recovery.hbMisses := 0 } else missBeat t)

/-! ### Hang timers (R455 to R457) -/

/-- A wait that may last: a WAIT whose event is UNSIGNALLED, or a WAIT node on a local fence that is not set (R456). -/
def waiting (s : State) (d : Desc) : Bool :=
  d.outcome.isNone && opc d == 0x09 &&
    (isFence d || (eventHandles d).any fun h => (eventAt s (hIdx h)).state == 1)

/-- A descriptor that suspends its queue's timer (R456). -/
def suspends (s : State) (d : Desc) : Bool :=
  match d.launch with
  | none => waiting s d
  | some k =>
    let ns := s.host.descs.filter fun e => e.2.started && match e.2.node with | some (r, _, _) => r == k | none => false
    d.outcome.isNone && !ns.isEmpty && ns.all fun e => waiting s e.2

/-- Started descriptors of a queue that have not completed. -/
def startedOf (s : State) (q : Nat) : List (Nat × Desc) := (queueDescs s q).filter fun e => e.2.started

/-- The queue is suspended (R456). -/
def suspended (s : State) (q : Nat) : Bool := !(startedOf s q).isEmpty && (startedOf s q).all fun e => suspends s e.2

/-- The queue is loaded, suspension apart (R455, R456). -/
def loaded (s : State) (q : Nat) : Bool :=
  let x := queueAt s q
  ctxState s (q / 4) == 1 &&
    (if x.state = 2 || x.state = 3 then !(startedOf s q).isEmpty
     else (x.state == 1 && pendingOf x != 0) || !(queueDescs s q).isEmpty)

/-- One management tick of the hang timers (R455, R456); frozen while the management island is in reset (R457). -/
def tickHang (s : State) : State :=
  if s.seq.mgmtReset then s
  else { s with recovery.hang := s.host.queues.map fun e =>
           let t := tgetD s.recovery.hang e.1 0
           (e.1, if !loaded s e.1 then 0 else if suspended s e.1 then t else t + 1) }

/-! ### Recovery records (R463 to R465) -/

/-- One entry of the sample: scratch region `k` (bobbin × 16 + region); its bytes are free values. -/
def sampleEntry (kind k : Nat) (s : State) : Bytes × State :=
  let (b, s) := freshBytes 256 s
  (le 2 (k / 16) ++ le 1 (k % 16) ++ le 1 kind ++ zeroBytes 4 ++ b, s)

/-- The regions that the sample takes: those that the context owns, then the accumulator slots of the plait records whose
leaf it runs here (R463). -/
def sampleRegions (s : State) (c : Nat) : List (Nat × Nat) :=
  let runs := (s.plaits.filter fun e => match e.2.run with
    | some x => (match x.desc with | some d => isOfCtx s c d | none => false)
    | none => false).map (·.1)
  let own := s.tension.scratch.filter fun e => e.2.context == some c
  let acc := s.tension.scratch.filter fun e => match e.2.plait with | some p => runs.contains p | none => false
  (own.map fun e => (0, e.1)) ++ (acc.map fun e => (1, e.1))

/-- The sample entries in order. -/
def sampleBytes : List (Nat × Nat) → State → Bytes × State
  | [], s => ([], s)
  | e :: es, s =>
    let (b, s) := sampleEntry e.1 e.2 s
    let (bs, s) := sampleBytes es s
    (b ++ bs, s)

/-- QUEUES and OLDEST of one queue (R463). -/
def queueSample (s : State) (q : Nat) : Bytes :=
  let x := queueAt s q
  le 1 x.state ++ zeroBytes 3 ++ le 4 x.consumer ++ le 4 x.producer ++ le 4 x.aliveNext
def oldestSample (s : State) (q : Nat) : Bytes :=
  match earliest (startedOf s q) with
  | some e => le 4 e.2.seq ++ le 1 (opc e.2) ++ zeroBytes 3
  | none => List.replicate 8 0xFF

/-- The plaintext body of a recovery record (R463). -/
def recordBody (cause queue c : Nat) (x : Ctx) (s : State) : Bytes × State :=
  let rs := sampleRegions s c
  let (sample, t) := sampleBytes (rs.take 64) s
  let qs := (List.range 4).map (4 * c + ·)
  (le 2 c ++ le 1 x.partition ++ le 1 cause ++ le 1 queue ++ le 1 (Nat.min 64 rs.length) ++
    le 1 (bit (decide (rs.length > 64))) ++ [0] ++ le 8 s.tick ++ slice x.faultRecord 0 16 ++
    qs.flatMap (queueSample s) ++ qs.flatMap (oldestSample s) ++ sample, t)

/-- A recovery record, UNSEALED when it cannot be sealed (R465). -/
def sealRecovery (no c : Nat) (body : Bytes) (s : State) : Bytes × State :=
  let b : BlobHead := { kind := 1, sealNo := 0, pattern := 0xFF, ctx := c, hash := 0, step := 0, seq := no }
  match sealBlob b body s with
  | .ok r => r
  | .error _ => (blobHeader s b true 0 0 (zeroBytes 12), s)

/-- Store a record: the 8 most recent stay (R465). -/
def keepRecord (r : Bytes) (l : List Bytes) : List Bytes := (l ++ [r]).drop (l.length + 1 - 8)

/-! ### Escalation (R466 to R468) -/

/-- Recorded resets that fall within ESCALATE_WINDOW (R466, R467). -/
def resetsInWindow (s : State) (ticks : List Nat) : Nat :=
  (ticks.filter fun t => decide (s.tick < t + setting s 0xA000 3)).length

/-- On entry to QUARANTINED one context's started work is squashed; its descriptors complete (R468). -/
def squashStarted (c : Nat) (s : State) : State :=
  let s := squashWork c s
  each ((ctxDescs s c).filter fun e => e.2.started && !handsOver s e.1)
    (fun e s => completeDesc e.1 e.2 stContextReset 0 0 0 s) s

/-- Entry to QUARANTINED (R468). -/
def enterQuarantine (s : State) : State :=
  let s := count 0xB000 0xB { s with recovery.quarantined := true, always.quarantined := true, patterns.waiting := [] }
  endAllSteps (each (s.host.ctxs.map (·.1)) squashStarted s)

/-! ### The context reset (R459 to R462) -/

/-- What a context reset leaves of its queue (R295, R460). -/
def idleQueue (q : Queue) : Queue :=
  { q with state := 0, keyPin := 0, key := [], refused := false, fetching := false }

/-- Steps 1 to 5 of R459. -/
def squashReset (c : Nat) (s : State) : State :=
  let s := squashCtx c (setCtx c (fun x => { x with state := 3 }) s)
  let s := each ((ctxDescs s c).filter fun e => !handsOver s e.1)
    (fun e s => completeDesc e.1 e.2 stContextReset 0 0 0 s) s
  dropCtxPins c s

/-- Step 6 of R459: the record is stored, FAULT_EVENT is signalled, the context is ACTIVE with every queue IDLE, the
counters advance. -/
def finishReset (c : Nat) (x : ResetRun) (part faultEvent : Nat) (s : State) : State :=
  let no := s.recovery.recordNo + 1
  let (r, s) := sealRecovery no c x.body s
  let kept := keepRecord r s.recovery.records
  let s := { s with
    recovery.records := kept, recovery.recordNo := no, recovery.last := [c, part, x.cause, x.queue, no, x.event],
    recovery.runs := tdel s.recovery.runs c,
    host.queues := tmapAll s.host.queues fun k q => if k / 4 = c then idleQueue q else q,
    recovery.hang := s.recovery.hang.filter fun e => decide (e.1 / 4 ≠ c) }
  let s := setCtx c (fun y => { y with state := 1, faultReason := 0, spill := false, resets := y.resets + 1,
                                       bouncePins := [0, 0] }) s
  let s := if faultEvent = 0 then s else signalEvent (hIdx faultEvent) stDone s
  let s := tack { rtype := 6, island := mgmtIsland, partition := part, context := c, object := no, sigIsland := 0x3E,
                  sigEp := 0, sigLseq := 0, detail := 0 } s
  trigger 1 (count 0xB000 8 (count 0x8000 6 s))

/-- Steps 1 to 5 of a context reset, with the escalation count (R459, R467). Step 6 follows with time (log entry 18). -/
def resetContext (cause queue c : Nat) (s : State) : State :=
  match ctxAt s c with
  | none => s
  | some x =>
    let ticks := s.recovery.ticks ++ [s.tick]
    let n := resetsInWindow s ticks
    let s := { s with recovery.ticks := ticks, recovery.inWindow := n }
    let (body, s) := recordBody cause queue c x s
    let run : ResetRun :=
      { cause := cause, queue := queue, event := s.tick, body := body,
        escalates := decide (n ≥ setting s 0xA000 2), destroys := false }
    let s := squashReset c { s with recovery.runs := tput s.recovery.runs c run }
    afterFabric (retryUnits (endKeyUsers s))

/-- A completion slot of the context is on its way to host memory. -/
def slotUnderWay (s : State) (c : Nat) : Bool :=
  s.ports.outReqs.any fun e => match e.2.purpose with | .completion x _ _ => x == c | _ => false

/-- Step 6 of a context reset once every slot is written or in the overflow ring, 60 ticks after step 1 at the latest; then
the escalation and the destruction that waited for it (R459, R462, R467, log entry 18). -/
def endReset (e : Nat × ResetRun) (s : State) : State :=
  match ctxAt s e.1 with
  | none => { s with recovery.runs := tdel s.recovery.runs e.1 }
  | some x =>
    if slotUnderWay s e.1 && decide (s.tick < e.2.event + 60) then s
    else
      let s := finishReset e.1 e.2 x.partition x.faultEvent s
      let s := if e.2.escalates && !s.recovery.quarantined then enterQuarantine { s with recovery.ticks := [] } else s
      let s := if e.2.destroys then destroyContext e.1 s else s
      afterFabric (retryUnits s)

/-- The context resets under way go on, in ascending context order; a management island in reset holds them (R462). -/
def tickResets (s : State) : State := if s.seq.mgmtReset then s else each s.recovery.runs endReset s

/-- A context that a reset may name (R459): ACTIVE or FAULTED. -/
def resettable (s : State) (c : Nat) : Bool := ctxState s c == 1 || ctxState s c == 2

/-- Four context resets run: a fifth has no place (R458). -/
def resetsFull (s : State) : Bool := decide (s.recovery.runs.length ≥ 4)

/-- The owning rule of CONTEXT_RESET (R458, R468). -/
def ownContextReset (c : Nat) (s : State) : Own :=
  guarded [(decide (c ≥ contextsOf s.cfg), abRange), (!resettable s c || s.recovery.quarantined, abState),
      (resetsFull s, abBusy)]
    (resetContext 2 0xFF c s)

/-- CONTEXT_RESET. -/
def execContextReset (r : OdReq) (v : BitVec 16) (s : State) : Host.Outcome State Fault Refusal :=
  .next (odWrite r 0xA011 1 (le 2 v.toNat) (ownContextReset v.toNat) s)

/-- The queue is hung (R457): its timer has reached HANG_TICKS; while four context resets run, its reset waits (R458). -/
def hung (s : State) (c q : Nat) : Bool :=
  let h := setting s 0xA000 1
  h != 0 && !s.recovery.quarantined && !resetsFull s && !s.seq.mgmtReset && loaded s (4 * c + q) && !suspended s (4 * c + q) &&
    decide (tgetD s.recovery.hang (4 * c + q) 0 ≥ h)

/-- HANG_TIMER_EXPIRY. -/
def execHangTimerExpiry (ctx queue : Nat) (s : State) : Host.Outcome State Fault Refusal :=
  .next (if queue < 4 && hung s ctx queue then resetContext 1 queue ctx s else s)

/-- The owning rule of QUARANTINE_CONSENT (R469). -/
def ownQuarantineConsent (v : Nat) (s : State) : Own :=
  guarded [(v != 0x5153, abRange), (!s.recovery.quarantined, abState)] { s with recovery.consent := true }

/-- QUARANTINE_CONSENT. -/
def execQuarantineConsent (r : OdReq) (v : BitVec 16) (s : State) : Host.Outcome State Fault Refusal :=
  .next (odWrite r 0xA000 6 (le 2 v.toNat) (ownQuarantineConsent v.toNat) s)

/-! ### The tacking log (R474 to R476) -/

/-- The log has triggered since it was last cleared: it holds a TRIGGER record (R474, R475). -/
def triggered (s : State) : Bool := s.log.recs.any fun r => fld r.toNat 0 4 == 7

/-- LOG_STATE as the log is enabled: a full one that stops is FULL, one that has triggered stays TRIGGERED or FROZEN
until LOG_CLEAR (R474, R475). -/
def enabledState (s : State) : Nat :=
  if setting s 0xA020 2 = 0 && decide (s.log.recs.length ≥ logCapacity) then 2
  else if setting s 0xA020 2 = 2 && triggered s then (if s.log.postLeft = 0 then 4 else 3)
  else 1

/-- The owning rule of LOG_ENABLE: LOG_STATE follows (R474, R480). -/
def ownLogEnable (v : Nat) (s : State) : Own :=
  let was := setting s 0xA020 1
  let s := setOd 0xA020 1 v s
  .ok (if was = v then s else { s with log.state := if v = 1 then enabledState s else 0 })

/-- The owning rule of LOG_MODE (R474). -/
def ownLogMode (v : Nat) (s : State) : Own := guarded [(setting s 0xA020 1 != 0, abState)] (setOd 0xA020 2 v s)

/-- LOG_MODE_WRITE. -/
def execLogModeWrite (r : OdReq) (v : BitVec 8) (s : State) : Host.Outcome State Fault Refusal :=
  .next (odWrite r 0xA020 2 (le 1 v.toNat) (ownLogMode v.toNat) s)

/-- The owning rule of LOG_CLEAR (R474). -/
def ownLogClear (s : State) : Own :=
  .ok { s with log := { s.log with recs := [], state := setting s 0xA020 1, triggerIndex := 0, postLeft := 0 } }

/-- LOG_CLEAR. -/
def execLogClear (r : OdReq) (v : BitVec 8) (s : State) : Host.Outcome State Fault Refusal :=
  .next (odWrite r 0xA020 0xB (le 1 v.toNat) ownLogClear s)

/-- The owning rule of TRIGGER_NOW (R475). -/
def ownTriggerNow (s : State) : Own := .ok (trigger 0 s)

/-- TRIGGER_NOW. -/
def execTriggerNow (r : OdReq) (v : BitVec 8) (s : State) : Host.Outcome State Fault Refusal :=
  .next (odWrite r 0xA020 7 (le 1 v.toNat) ownTriggerNow s)

/-- LOG blobs that the log fills (R476). -/
def logBlocks (s : State) : Nat := ceilDiv s.log.recs.length 128

/-- Plaintext of LOG block `k`. -/
def logBlock (s : State) (k : Nat) : Bytes := ((s.log.recs.drop (128 * k)).take 128).flatMap (bvBytes 32)

/-- Rows of LOG_SEALED from block `k`, each a blob behind its length (R417, R476): `n` more at most, `room` bytes left;
a first row is returned whatever its size. -/
def logRows : Nat → Nat → Nat → Bytes → State → Bytes × Nat × State
  | 0, _, _, acc, s => (acc, 0, s)
  | n + 1, k, room, acc, s =>
    if k ≥ logBlocks s then (acc, 0, s)
    else
      let b : BlobHead := { kind := 2, sealNo := 0, pattern := 0xFF, ctx := 0, hash := 0, step := 0, seq := k }
      match sealBlob b (logBlock s k) s with
      | .error _ => (acc, 0, s)
      | .ok (blob, t) =>
        let row := le 4 blob.length ++ blob
        if row.length > room && !acc.isEmpty then (acc, 0, s)
        else
          let (bs, m, t) := logRows n (k + 1) (room - row.length) (acc ++ row) t
          (bs, m + 1, t)

/-- What a TABLE_READ of LOG_SEALED answers (R414, R417, R476). -/
def readLogSealed (r : OdReq) (first n : Nat) (s : State) : State :=
  let g := readGate s r 0xA021 0 true
  let total := logBlocks s
  if g ≠ 0 then answer r 3 0xA021 0 g 0 0 [] s
  else if (sealPin s 0).isNone || !drbgServes s then answer r 3 0xA021 0 abState 0 0 [] s
  else if first ≥ total then answer r 3 0xA021 0 abRange 0 0 [] s
  else
    let (rows, m, t) := logRows n first (16384 - 16) [] s
    answer r 3 0xA021 0 0 m total rows t

/-- LOG_SEALED_READ. -/
def execLogSealedRead (r : OdReq) (first : BitVec 16) (count : BitVec 16) (s : State) :
    Host.Outcome State Fault Refusal :=
  .next (if pathUp s r then readLogSealed r first.toNat count.toNat s else s)

/-! ### Armed dumps (R477) -/

/-- The entry that 16 bytes describe. -/
def dumpOf (v : Nat) : DumpEnt :=
  { nameHash := fld v 0 64, step := fld v 64 32, partition := fld v 96 6, sealNo := fld v 104 4, oneShot := tbit v 112,
    raw := le 16 v }

/-- The owning rule of DUMP_ARM (R477). -/
def ownDumpArm (v : Nat) (s : State) : Own :=
  let e := dumpOf v
  let bad := fld v 102 2 != 0 || fld v 108 4 != 0 || fld v 113 15 != 0 || e.sealNo == 0 ||
    decide (e.partition ≥ partitionsOf s.cfg)
  match firstAbort [(bad, abRange), (!partLive s e.partition || (sealPin s e.sealNo).isNone, abState)],
      lowestFree s.dumps 16 0 with
  | some a, _ => .abort a
  | none, none => .abort abBusy
  | none, some k => .ok { s with dumps := tput s.dumps k e }

/-- DUMP_ARM. -/
def execDumpArm (r : OdReq) (v : BitVec 128) (s : State) : Host.Outcome State Fault Refusal :=
  .next (odWrite r 0xA030 1 (le 16 v.toNat) (ownDumpArm v.toNat) s)

/-- The owning rule of DUMP_DISARM (R477). -/
def ownDumpDisarm (v : Nat) (s : State) : Own := guarded [(!thas s.dumps v, abState)] { s with dumps := tdel s.dumps v }

/-- DUMP_DISARM. -/
def execDumpDisarm (r : OdReq) (v : BitVec 8) (s : State) : Host.Outcome State Fault Refusal :=
  .next (odWrite r 0xA030 2 (le 1 v.toNat) (ownDumpDisarm v.toNat) s)

end Sys2Proof.Machine
end

