-- ==== Sys2Proof/Machine/Registers.lean ====
section
/-! DEFINITION. The register window: the two mailboxes, the pages of the partition windows, and the register requests of
the mesh (R10, R16, R18, R60, R291, R296, R343, R354, R390, R421 to R423). -/

namespace Sys2Proof.Machine

/-! ### The mailboxes (R421 to R423) -/

/-- The mailbox of the manager region, or that of the operator debug region. -/
def mailboxOf (s : State) (dbg : Bool) : Mailbox := if dbg then s.dict.debugBox else s.dict.mailbox

def setMailbox (dbg : Bool) (f : Mailbox → Mailbox) (s : State) : State :=
  if dbg then { s with dict.debugBox := f s.dict.debugBox } else { s with dict.mailbox := f s.dict.mailbox }

/-- A mailbox write that is discarded (R422). -/
def discardMail (s : State) : State := count 0xB0A0 6 s

/-- KIND values that a GO accepts (R422, R423). -/
def kindOk (dbg : Bool) (k : Nat) : Bool := k == 6 || (!dbg && (k == 0 || k == 5))

/-- The request bytes in REQ_BUF, behind KIND. -/
def mailMsg (m : Mailbox) : DictMsg :=
  { port := 0, srcEp := 0, src := 0, tag := 0,
    bytes := le 1 m.kind ++ slice ((List.range (ceilDiv m.reqLen 8)).flatMap fun i => bvBytes 8 (tgetD m.reqBuf i 0)) 0 m.reqLen }

/-- A GO (R422, R423): the request takes its place in the path's queue (R426). -/
def mailboxSubmit (dbg : Bool) (s : State) : State :=
  let m := mailboxOf s dbg
  if m.state = 1 || m.reqLen < 1 || m.reqLen > 16384 || !kindOk dbg m.kind then discardMail s
  else
    let s := setMailbox dbg (fun m => { m with state := 1 }) s
    if dbg then { s with dict.debugQ := s.dict.debugQ ++ [mailMsg m] }
    else { s with dict.mailQ := s.dict.mailQ ++ [mailMsg m] }

/-- A write of the GO register: bit 0 alone acts (R18, R421). -/
def mailboxGoWrite (dbg : Bool) (v : Nat) (s : State) : State :=
  if !serviceUp s then s else if tbit v 0 then mailboxSubmit dbg s else s

/-- MAILBOX_GO (R422). -/
def execMailboxGo (v : BitVec 64) (s : State) : Host.Outcome State Fault Refusal :=
  .next (mailboxGoWrite false v.toNat s)

/-- DEBUG_MAILBOX_GO (R423). -/
def execDebugMailboxGo (v : BitVec 64) (s : State) : Host.Outcome State Fault Refusal :=
  .next (mailboxGoWrite true v.toNat s)

/-- A write in a mailbox region at an offset from its base, a multiple of 8; `hi` the upper half of the register. -/
def mailboxWrite (dbg : Bool) (k : Nat) (hi wide : Bool) (v : Nat) (s : State) : State :=
  let m := mailboxOf s dbg
  let busy := m.state == 1
  let w := placed 0 hi wide v
  if k = 0 then
    if hi then s
    else if busy then discardMail s
    else setMailbox dbg (fun m => { m with reqLen := fld w 0 15, kind := fld w 16 8 }) s
  else if k = 8 then mailboxGoWrite dbg w s
  else if k = 0x10 then
    if hi || tbit w 2 then s else setMailbox dbg (fun m => { m with donePend := false }) s
  else if k = 0x18 then setMailbox dbg (fun m => { m with msiAddr := placed m.msiAddr hi wide v }) s
  else if k = 0x20 then (if hi then s else setMailbox dbg (fun m => { m with msiData := fld w 0 32 }) s)
  else if 0x10000 ≤ k && k < 0x14000 then
    if busy then discardMail s
    else
      let i := (k - 0x10000) / 8
      let new := BitVec.ofNat 64 (placed (tgetD m.reqBuf i 0).toNat hi wide v)
      setMailbox dbg (fun m => { m with reqBuf := tput m.reqBuf i new }) s
  else s

/-- A read of a 64-bit register of a mailbox region. RSP_BUF outside DONE is a free value (R422). -/
def mailboxRead (dbg : Bool) (k : Nat) (s : State) : Nat × State :=
  let m := mailboxOf s dbg
  if k = 0 then (pack [(15, m.reqLen), (1, 0), (8, m.kind)], s)
  else if k = 0x10 then
    (pack [(2, m.state), (1, bit m.donePend), (13, 0), (15, m.rspLen), (1, 0), (32, m.completed)], s)
  else if k = 0x18 then (m.msiAddr, s)
  else if k = 0x20 then (m.msiData, s)
  else if 0x10000 ≤ k && k < 0x14000 then ((tgetD m.reqBuf ((k - 0x10000) / 8) 0).toNat, s)
  else if 0x14000 ≤ k && k < 0x18000 then
    if m.state = 2 then (num m.rspBuf (k - 0x14000) 8, s)
    else
      let (v, s) := freshNat s
      (v % 2 ^ 64, s)
  else (0, s)

/-! ### The partition windows (R291, R296, R354) -/

/-- The status page (R354, R355) at an offset from 0xB000. -/
def statusReg (s : State) (p k : Nat) : Nat :=
  match tget s.parts p with
  | none =>
    if k = 0 then p % 64
    else if k = 0x10 then pack [(8, setting s 0x7400 (p + 1)), (8, setting s 0x7401 (p + 1))]
    else 0
  | some x =>
    if k = 0 then pack [(6, p), (3, x.state), (1, bit x.bound.isSome)]
    else if k = 8 then pack [(32, x.resets), (32, x.serial)]
    else if k = 0x10 then pack [(8, setting s 0x7400 (p + 1)), (8, setting s 0x7401 (p + 1))]
    else if k = 0x18 then pack [(32, x.intervals), (16, x.power10w), (4, x.thrOwn)]
    else if 0x20 ≤ k && k ≤ 0x50 then nth x.snap ((k - 0x20) / 8) 0 % 2 ^ 64
    else 0

/-- EVENT_STATE and EVENT_SIG_STATUS of the window's selection (R291). -/
def queryReg (s : State) (p : Nat) : Nat :=
  let h := tgetD s.host.querySel p 0
  let e := eventAt s (hIdx h)
  if hIdx h ≠ 0 && e.state ≠ 0 && e.gen = hGen h && e.partition = p then pack [(2, e.state), (6, 0), (8, e.sigStatus)]
  else 0

/-- The doorbell slot read (R296). -/
def doorbellReg (s : State) (p slot : Nat) : Nat :=
  match s.host.queues.find? fun e => e.2.doorbell == slot &&
      match ctxAt s (e.1 / 4) with | some x => x.partition == p | none => false with
  | some (_, x) => pack [(32, x.producer), (32, x.consumer)]
  | none => 0

/-- A read of a 64-bit register in the window of partition `p`. -/
def windowRead (s : State) (p k : Nat) : Nat :=
  if !windowUp s || p ≥ partitionsOf s.cfg then 0
  else if k < 0x8000 then doorbellReg s p (k / 8)
  else if k < 0x9000 then shuttleRead s p (k - 0x8000)
  else if k < 0xA000 then purlRead s p (k - 0x9000)
  else if k = 0xA008 then tgetD s.host.querySel p 0
  else if k = 0xA010 then queryReg s p
  else if 0xB000 ≤ k && k < 0xC000 then statusReg s p (k - 0xB000)
  else 0

/-- A write in the window of a partition that exists. A 4 B command reaches the event page with its other half zero
(R291); a 4 B write of a doorbell slot's upper half is no doorbell (R296). -/
def pageWrite (p k : Nat) (hi wide : Bool) (v : Nat) (s : State) : State :=
  if k < 0x8000 then (if hi then count 0xB070 3 s else ringDoorbell p (k / 8) (placed 0 hi wide v) s)
  else if k < 0x9000 then shuttleWrite p (k - 0x8000) hi wide v s
  else if k < 0xA000 then purlWrite p (k - 0x9000) hi wide v s
  else if k = 0xA000 then windowCmd p (placed 0 hi wide v) s
  else if k = 0xA008 && !hi then { s with host.querySel := tput s.host.querySel p (v % 2 ^ 32) }
  else s

/-! ### The whole register window -/

/-- The page of a service unit in the manager region: it acts for partition 0 in the switch and tray profiles (R390). -/
def managerPage (s : State) (off : Nat) : Bool := profile s != 0 && decide (0x8000 ≤ off) && decide (off < 0xA000)

/-- A register write at a byte offset of the register window, 4 B or 8 B, naturally aligned. -/
def regWrite (off : Nat) (wide : Bool) (v : Nat) (s : State) : State :=
  let hi := off % 8 = 4
  let k := off - off % 8
  if !serviceUp s || off % 4 ≠ 0 || (wide && hi) then s
  else if off ≥ 0x400000 then
    windowWrite ((off - 0x400000) / 0x10000) (pageWrite ((off - 0x400000) / 0x10000) (k % 0x10000) hi wide v) s
  else if 0x100000 ≤ off && off < 0x200000 then mailboxWrite true (k - 0x100000) hi wide v s
  else if managerPage s off then
    (if k < 0x9000 then shuttleWrite 0 (k - 0x8000) hi wide v s else purlWrite 0 (k - 0x9000) hi wide v s)
  else if off < 0x18000 then mailboxWrite false k hi wide v s
  else s

/-- The 64-bit register at a byte offset. -/
def regRead (off : Nat) (s : State) : Nat × State :=
  let k := off - off % 8
  if !serviceUp s then (0, s)
  else if off ≥ 0x400000 then (windowRead s ((off - 0x400000) / 0x10000) (k % 0x10000), s)
  else if 0x100000 ≤ off && off < 0x200000 then mailboxRead true (k - 0x100000) s
  else if managerPage s off then
    ((if k < 0x9000 then shuttleRead s 0 (k - 0x8000) else purlRead s 0 (k - 0x9000)), s)
  else if off < 0x18000 then mailboxRead false k s
  else (0, s)

/-- REGISTER_WRITE (R16, R18). -/
def execRegisterWrite (off : Nat) (wide : Bool) (v : BitVec 64) (s : State) : Host.Outcome State Fault Refusal :=
  .next (regWrite off wide v.toNat s)

/-! ### Register requests of the mesh (R58 to R60) -/

/-- The size of a register request by its byte enables: 4 or 8 when they cover exactly so many bytes from the address. -/
def regSize (q : MeshReq) : Option Nat :=
  let covers := fun n => (List.range 128).all fun i => nth q.be i false == decide (i < n)
  if covers 4 then some 4 else if covers 8 then some 8 else none

/-- The form that R57, R58 and R60 ask of a register request: its size when it has it. -/
def regForm (q : MeshReq) : Option Nat :=
  let h := mhdrOf q
  match regSize q with
  | some n => if meshReserved q && q.vch = 5 && (h.opc = 1 || h.opc = 2) && h.beats = 1 && h.addr % n = 0 then some n else none
  | none => none

/-- A register request is answered at once (R60): MALFORMED with zero data when its form is wrong; else a write has its
effect and a read its value. -/
def regAnswer (q : MeshReq) (s : State) : State :=
  let h := mhdrOf q
  let reply := meshAnswer q.port ((h.opc + 0x80) % 256) h.src h.tag
  match regForm q with
  | none => reply stMalformed false (if h.opc = 1 then zeroBytes 128 else []) s
  | some n =>
    if h.opc = 2 then reply stDone false [] (regWrite h.addr (n == 8) (num q.data 0 n) s)
    else
      let (v, t) := regRead h.addr s
      reply stDone false (slice (le n (if h.addr % 8 = 4 then v / 2 ^ 32 else v)) 0 128) t

/-- A register-window request at a mesh port: the row of those whose form R60 refuses; those that keep it are carried
out. -/
def execMeshRegisterRequestMalformed (q : MeshReq) (s : State) : Host.Outcome State Fault Refusal :=
  if q.port ≥ meshPortsOf s.cfg then .fault .noSuchPort
  else .next (if (mhdrOf q).tgt ≠ 0 then s
    else match takeGrant q s with
      | none => s
      | some t => if underCredit s q then regAnswer q (returnGrant q t) else t)

end Sys2Proof.Machine
end

