-- ==== Sys2Proof/Machine/Transports.lean ====
section
/-! DEFINITION. The transports of the dictionary engine: MCTP packets on the I3C sideband, VL0 messages, the paths' queues,
MCTP control (R418 to R420, R426). -/

namespace Sys2Proof.Machine

/-! ### Messages and queues (R418, R426) -/

/-- A message that is discarded (R418, R419). -/
def discardMctp (s : State) : State := count 0xB0A0 5 s

/-- The message is of a type and class that its path handles (R418, R420): byte 0 with the IC bit clear; a dictionary
message names the vendor and class 1 and holds a header. -/
def handled (p : OdPath) (m : Bytes) : Bool :=
  let t := num m 0 1
  if t = 0 then p == .i3c && decide (m.length ≥ 3)
  else if t = 5 || t = 6 then decide (m.length ≥ 2)
  else t == 0x7F && decide (m.length ≥ 24) && ofBe (slice m 1 4) == Config.vendorIana % 2 ^ 32 && num m 5 1 == 1 &&
    zeros m 6 2

/-- Hand a response to the sender of a message that holds no place in a queue. -/
def reply (p : OdPath) (m : DictMsg) (rsp : Bytes) (s : State) : State :=
  match p with
  | .i3c => emit (.mctpMsg m.src m.tag (asMessage m rsp)) s
  | .vl0 => vl0Respond m rsp s
  | .mailbox | .debug => s

/-- The session that a secured message names (DSP0277: its first four bytes). -/
def sessionNamed (s : State) (m : Bytes) : Option Nat := (tfind s.domain.sessions fun _ x => x.id == num m 1 4).map (·.1)

/-- The answer to a request that finds its path's queue full (R426): BUSY, TABLE_FULL for a secured message; for the others
log entry 37. -/
def queueFull (p : OdPath) (m : DictMsg) (s : State) : State :=
  let s := count 0xB0A0 4 s
  let t := num m.bytes 0 1
  if t = 0x7F then
    let h := num m.bytes 8 16
    let r : OdReq := { path := p, sess := none, txn := BitVec.ofNat 16 (fld h 16 16) }
    let op := fld h 0 7
    let idx := fld h 32 16
    let sub := fld h 48 8
    reply p m (odBytes r op (typeOf s idx sub) idx sub abBusy 0 0 [])
      (emit (.od r (op + 0x80) (typeOf s idx sub) idx sub abBusy 0 0 []) (countAnswer abBusy s))
  else if t = 6 then
    match sessionNamed s m.bytes with
    | some k => match tget s.domain.sessions k with
      | some x => reply p m (Config.securedRecord x.secret s.free (le 1 stTableFull))
          (emit (.secured k stTableFull []) { s with free := s.free + 1 })
      | none => s
    | none => s
  else if t = 5 then
    reply p m [0x13, 0x7F, 3, 0] (emit (.spdm p 0x7F [3, 0]) (count 0xB080 6 s))
  else reply p m (le 1 (num m.bytes 1 1 % 32) ++ slice m.bytes 2 1 ++ [4]) (emit (.mctp p (num m.bytes 2 1) 4 []) s)

/-- A complete message arrives on the I3C sideband or on VL0 (R418, R426). -/
def enqueue (p : OdPath) (m : DictMsg) (s : State) : State :=
  if !handled p m.bytes then discardMctp s
  else
    let q := if p = .i3c then s.dict.i3cQ else s.dict.vl0Q
    if q.length ≥ 16 then queueFull p m s
    else if p = .i3c then { s with dict.i3cQ := q ++ [m] } else { s with dict.vl0Q := q ++ [m] }

/-! ### Packets (R419) -/

/-- The assembly of a pair of source EID and tag. -/
def asmOf (s : State) (src tag : Nat) : Option Assembly := s.dict.asm.find? fun a => a.src == src && a.tag == tag

def dropAsm (src tag : Nat) (s : State) : State :=
  { s with dict.asm := s.dict.asm.filter fun a => !(a.src == src && a.tag == tag) }

/-- The next piece of a message in assembly: kept, complete with EOM, or too long. -/
def growAsm (p : MctpPacket) (a : Assembly) (s : State) : State :=
  let b := a.bytes ++ p.body
  let s := dropAsm p.src p.tag s
  if b.length > 16384 then discardMctp s
  else if p.eom then enqueue .i3c { port := 0, srcEp := 0, src := p.src, tag := p.tag, bytes := b } s
  else { s with dict.asm := s.dict.asm ++ [{ a with seq := (p.seq + 1) % 4, bytes := b }] }

/-- A packet for this endpoint (R419). -/
def takePacket (p : MctpPacket) (s : State) : State :=
  if p.som then
    let s := if (asmOf s p.src p.tag).isSome then discardMctp (dropAsm p.src p.tag s) else s
    if s.dict.asm.length ≥ 8 then discardMctp s
    else growAsm p { path := .i3c, src := p.src, tag := p.tag, seq := p.seq, bytes := [], startTick := s.tick } s
  else match asmOf s p.src p.tag with
    | none => discardMctp s
    | some a => if a.seq ≠ p.seq % 4 then discardMctp (dropAsm p.src p.tag s) else growAsm p a s

/-- MCTP_PACKET_RECEIVE: a packet for the block's EID, the null or the broadcast EID (R418, R419). -/
def execMctpPacketReceive (p : MctpPacket) (s : State) : Host.Outcome State Fault Refusal :=
  .next (if engineUp s && (p.dst = 0 || p.dst = 0xFF || p.dst = s.dict.i3cEid) then takePacket p s else s)

/-- MCTP_ASSEMBLY_TIMEOUT (R419): due 10,000 ticks after SOM. -/
def execMctpAssemblyTimeout (src tag : Nat) (s : State) : Host.Outcome State Fault Refusal :=
  .next (match asmOf s src tag with
    | some a => if s.tick < a.startTick + 10000 then s else discardMctp (dropAsm src tag s)
    | none => s)

/-! ### VL0 (R420) -/

/-- A VL0 message for this block: a request enters the path's queue; a response is the requester's own (R379). -/
def takeVl0 (port srcEp : Nat) (m : Bytes) (s : State) : State :=
  if !pathUp s { path := .vl0, sess := none, txn := 0 } then s
  else if m.length < 5 || !zeros m 3 1 || fld (num m 2 1) 4 4 ≠ 0 then discardMctp s
  else if num m 0 1 ≠ 0 && num m 0 1 ≠ setting s 0x1001 5 then s
  else if !tbit (num m 2 1) 3 then s
  else enqueue .vl0 { port := port, srcEp := srcEp, src := num m 1 1, tag := fld (num m 2 1) 0 3, bytes := m.drop 4 } s

/-- VL0_MCTP_MESSAGE: accepted, or forwarded by a switch by its route table (R206, R208, R420). -/
def execVl0MctpMessage (port srcEp dstEp : Nat) (m : Bytes) (s : State) : Host.Outcome State Fault Refusal :=
  if port ≥ linkPortsOf s.cfg then .fault .noSuchPort
  else
    let st := (linkAt s port).state
    let mine := decide (dstEp = 0xFFFF) || decide (dstEp = ownEndpoint s)
    .next (if st < 2 || st > 4 then s
      else if mine || st ≠ 4 then takeVl0 port srcEp m s
      else if profile s ≠ 1 then s
      else match pickPort s dstEp 0 true with
        | some p => pumpLink p (queueMgmtTo p srcEp dstEp 0x10 m s)
        | none => s)

/-! ### MCTP control on the sideband (R418) -/

/-- Answer a control request: command, completion code, body. Control messages come on the sideband only. -/
def control (path : OdPath) (cmd code : Nat) (body : Bytes) (s : State) : State :=
  let inst := match s.dict.i3cQ with | m :: _ => num m.bytes 1 1 % 32 | [] => 0
  respond path (le 1 inst ++ le 1 cmd ++ le 1 code ++ body) (emit (.mctp path cmd code body) s)

/-- The engine serves control messages on this path. -/
def controlUp (s : State) (path : OdPath) : Bool := path == .i3c && engineUp s

/-- SET_ENDPOINT_ID: only from the current controller; codes and body of DSP0236 (log entry 38). -/
def execSetEndpointId (path : OdPath) (controller : Bool) (eid : BitVec 8) (s : State) :
    Host.Outcome State Fault Refusal :=
  .next (if !controlUp s path then s
    else if eid = 0 || eid = 0xFF then control path 1 2 [] s
    else if !controller then control path 1 0 ([0x10] ++ le 1 s.dict.i3cEid ++ [0]) s
    else control path 1 0 ([0] ++ le 1 eid.toNat ++ [0]) { s with dict.i3cEid := eid.toNat })

/-- GET_ENDPOINT_ID. -/
def execGetEndpointId (path : OdPath) (s : State) : Host.Outcome State Fault Refusal :=
  .next (if controlUp s path then control path 2 0 (le 1 s.dict.i3cEid ++ [0, 0]) s else s)

/-- GET_MCTP_VERSION_SUPPORT: base and control 1.3; the version entries of the other types are free values. -/
def execGetMctpVersionSupport (path : OdPath) (mtype : BitVec 8) (s : State) : Host.Outcome State Fault Refusal :=
  .next (if !controlUp s path then s
    else if mtype = 0xFF || mtype = 0 then control path 4 0 [1, 0xF1, 0xF3, 0xFF, 0] s
    else if mtype = 5 || mtype = 6 then
      let (b, s) := freshBytes 4 s
      control path 4 0 ([1] ++ b) s
    else control path 4 0x80 [] s)

/-- GET_MESSAGE_TYPE_SUPPORT. -/
def execGetMessageTypeSupport (path : OdPath) (s : State) : Host.Outcome State Fault Refusal :=
  .next (if controlUp s path then control path 5 0 [3, 5, 6, 0x7F] s else s)

/-- MCTP_UNSUPPORTED_CMD: ERROR_UNSUPPORTED_CMD. -/
def execMctpUnsupportedCmd (path : OdPath) (cmd : BitVec 8) (s : State) : Host.Outcome State Fault Refusal :=
  .next (if controlUp s path then control path cmd.toNat 5 [] s else s)

end Sys2Proof.Machine
end

