-- ==== Sys2Proof/Machine/Reads.lean ====
section
/-! DEFINITION. What a READ of each object of the dictionary returns (R8, R99, R140, R174, R203, R242, R277, R315, R335,
R358, R389, R406, R428, R453, R480). -/

namespace Sys2Proof.Machine

/-! ### Records behind a selection -/

/-- A pin record (R109). -/
def pinRecord (p : Pin) : Bytes :=
  le 24 (pack [(16, p.parent), (16, p.parentGen), (16, p.gen), (3, p.level), (2, p.kind), (3, p.state), (8, p.purpose),
    (32, p.objA), (32, p.objB), (14, p.heldSlot), (2, p.source), (32, p.childSerial)])

/-- STATE of the record at an index: a pin that fails the check of R110 is ORPHANED. -/
def pinState (s : State) (i : Nat) : Nat :=
  let p := pinAt s i
  if p.state = 1 && !live s (pinHandle i p.gen) then 3 else p.state

/-- A memory-object record (R283); zero when the entry is FREE (R315). -/
def objRecord (o : MemObj) : Bytes :=
  if o.state = 0 then zeroBytes 32
  else le 32 (pack [(2, o.state), (2, o.kind), (1, bit o.read), (1, bit o.write), (2, 0), (10, o.ctx), (6, o.partition),
    (8, 0), (14, o.gen), (18, 0), (64, o.base), (48, o.length), (12, o.kidx), (4, 0), (32, o.dev), (16, o.host)])

/-- An event record (R289). -/
def eventRecord (e : Event) : Bytes :=
  le 24 (pack [(2, e.state), (1, bit e.hostSignal), (1, bit e.shared), (1, bit e.intr), (1, bit e.orphan),
    (1, bit e.dying), (1, 0), (8, e.sigStatus), (10, e.ctx), (6, e.partition), (14, e.gen), (2, 0), (16, e.signallers),
    (32, e.dev), (16, e.host), (16, 0), (64, e.cookie)])

/-- The context that objects 0x7105 act on; a FREE one reads its defaults (R315). -/
def selectedCtx (s : State) (r : OdReq) : Ctx := (ctxAt s (selectedQueue s r / 4)).getD (newCtx 0 0 0)

/-! ### The pattern store's room (R335) -/

/-- Free frames from frame `b`, the end of an extent or the start of the store, up to the next extent. -/
def gapFrom (used : List (Nat × Nat)) (b : Nat) : Nat :=
  (used.filter fun e => decide (b ≤ e.1)).foldl (fun m e => Nat.min m (e.1 - b)) (16384 - b)

/-- LARGEST_EXTENT. -/
def largestGap (used : List (Nat × Nat)) : Nat :=
  ((0 :: used.map fun e => e.1 + e.2).map (gapFrom used)).foldl Nat.max 0

/-! ### Values held as bytes -/

/-- Value of an object of type BYTES, STR or CERT. -/
def readBytes (s : State) (r : OdReq) (idx sub : Nat) : Bytes :=
  match idx, sub with
  | 0x1000, 1 => text "Linram Devices" 16
  | 0x1000, 2 => text "Kamez" 8
  | 0x1000, 5 => slice s.fw.version 0 32
  | 0x1000, 7 => deviceCert s
  | 0x1000, 8 => aliasCert s
  | 0x1010, 14 => text (configNameOf s.cfg) 8
  | 0x2001, 5 => slice s.fuses.signer 0 48
  | 0x2002, 4 => let i := perSession s (sessNo r) 0x2002 3
    pinRecord { pinAt s i with state := pinState s i }
  | 0x7105, 6 => slice (selectedCtx s r).faultRecord 0 16
  | 0x7105, 9 => le 8 (nth (selectedCtx s r).floors 0 0) ++ le 8 (nth (selectedCtx s r).floors 1 0)
  | 0x7106, 6 => objRecord (objAt s (hIdx (perSession s (sessNo r) 0x7106 5)))
  | 0x7107, 6 => eventRecord (eventAt s (hIdx (perSession s (sessNo r) 0x7107 5)))
  | 0x8000, 4 => match s.domain.charter with | some c => chHash c | none => zeroBytes 48
  | 0x8001, 2 => slice ((readRecord s recOwner).getD []) 0 48
  | 0x8010, 4 => match s.domain.store with | c :: _ => hash48 c.2 | [] => zeroBytes 48
  | _, _ => []

/-! ### Values held as numbers -/

/-- 0x1000 to 0x1FFF (R1, R8, R99, R428). -/
def readIdentity (s : State) (idx sub : Nat) : Option Nat :=
  match idx, sub with
  | 0x1000, 3 => some (Config.blockRevision % 16)
  | 0x1000, 4 => some Config.vendorIana
  | 0x1000, 6 => some s.fw.epoch
  | 0x1000, 9 => some 0x0100
  | 0x1001, 1 => some 16384
  | 0x1001, 2 => some 16
  | 0x1001, 3 => some s.dict.i3cAddr
  | 0x1001, 4 => some s.dict.i3cEid
  | 0x1002, 1 => some ((2 ^ 32 - 400 + Config.junctionTemp s.tick % 1651) % 2 ^ 32)
  | 0x1010, 1 => some (bobbinsOf s.cfg)
  | 0x1010, 2 => some (pillowsOf s.cfg)
  | 0x1010, 3 => some (lastPillowOf s.cfg)
  | 0x1010, 4 => some (islandsOf s.cfg)
  | 0x1010, 5 => some (meshPortsOf s.cfg)
  | 0x1010, 6 => some (memPortsOf s.cfg)
  | 0x1010, 7 => some (linkPortsOf s.cfg)
  | 0x1010, 8 => some (4 * linkPortsOf s.cfg)
  | 0x1010, 9 => some (contextsOf s.cfg)
  | 0x1010, 10 => some (partitionsOf s.cfg)
  | 0x1010, 11 => some 2048
  | 0x1010, 12 => some 4096
  | 0x1010, 13 => some 8192
  | 0x1011, 0 => some (if profile s = 3 then 0xFF else profile s)
  | 0x1013, 1 => some (panelSize s)
  | 0x1013, 2 => some (memberId s)
  | 0x1013, 3 => some s.gang.panel
  | 0x1013, 4 => some (bit s.gang.aUp)
  | 0x1013, 5 => some (bit s.gang.bUp)
  | _, _ => none

/-- 0x2000 to 0x3FFF (R140, R174). -/
def readKeys (s : State) (idx sub : Nat) : Option Nat :=
  match idx, sub with
  | 0x2000, 1 => some (tcount s.keys.pins fun i _ => pinState s i == 1)
  | 0x2000, 2 => some s.keys.held.length
  | 0x2000, 7 => some s.keys.inval.length
  | 0x2000, 8 => some 65536
  | 0x2001, 1 => some s.fuses.rootState
  | 0x2001, 2 => some s.fuses.serial
  | 0x2001, 3 => some s.fuses.floor
  | 0x2001, 4 => some s.fuses.wipes
  | 0x2001, 6 => some s.fuses.corrected
  | 0x2030, 1 => some s.keys.entropy
  | 0x2101, 4 => some (4096 - s.keys.kidx.length)
  | 0x3000, 6 => some (storedInterleave s)
  | 0x3000, 7 => some 16384
  | 0x3000, 9 => some (dirtyNodes s)
  | 0x3000, 10 => some s.ports.interleave
  | 0x3101, 4 => some (2048 - s.tally.regions.length)
  | _, _ => none

/-- 0x4000 to 0x6FFF but INC (R203, R242, R277). -/
def readFabric (s : State) (idx sub : Nat) : Option Nat :=
  match idx, sub with
  | 0x4001, n => some (linkAt s (n - 1)).state
  | 0x4002, n => some (linkAt s (n - 1)).reason
  | 0x4005, n => some (if linked s (n - 1) then (match txSeq (linkAt s (n - 1)) with | some q => q.epoch | none => 0) else 0)
  | 0x5000, 7 => some (if profile s = 0 then s.fabric.out.length else 0)
  | 0x5000, 8 => some (if profile s = 0 then s.fabric.sources.length else 0)
  | 0x5101, 4 => some (16384 - (s.fabric.tray.regions.map fun e => e.2.cells).sum)
  | 0x6000, 2 => some 1024
  | 0x6000, 3 => some s.plaits.length
  | 0x6000, 4 => some (16 * bobbinsOf s.cfg - s.tension.scratch.length)
  | _, _ => none

/-- 0x7000 to 0x7FFF (R315, R335, R358). -/
def readHost (s : State) (r : OdReq) (idx sub : Nat) : Option Nat :=
  let q := queueAt s (selectedQueue s r)
  let c := selectedCtx s r
  match idx, sub with
  | 0x7000, 1 => some 262143
  | 0x7000, 2 => some 65535
  | 0x7000, 3 => some (tcount s.host.objs fun _ o => o.state != 0)
  | 0x7000, 4 => some (tcount s.host.events fun _ e => e.state != 0)
  | 0x7000, 5 => some s.host.ctxs.length
  | 0x7000, 6 => some 16
  | 0x7104, 1 => some q.state
  | 0x7104, 2 => some q.keyPin
  | 0x7104, 3 => some q.ringBase
  | 0x7104, 4 => some q.ringLog2
  | 0x7104, 5 => some q.complBase
  | 0x7104, 6 => some q.doorbell
  | 0x7104, 7 => some q.aliveNext
  | 0x7104, 8 => some q.consumer
  | 0x7104, 9 => some q.producer
  | 0x7104, 11 => some q.rejects
  | 0x7105, 1 => some c.intrBase
  | 0x7105, 2 => some c.intrLog2
  | 0x7105, 3 => some c.msiAddr
  | 0x7105, 4 => some c.msiData
  | 0x7105, 5 => some c.faultEvent
  | 0x7105, 7 => some c.overflow.length
  | 0x7201, 5 => some (16384 - ((extents s).map (·.2)).sum)
  | 0x7201, 6 => some (largestGap (extents s))
  | 0x7201, 7 => some (tcount s.patterns.dir fun _ p => p.state != 0)
  | 0x7301, 5 => some (tcount s.parts fun _ p => p.state != 0)
  | _, _ => none

/-- 0x8000 to 0xFFFF (R99, R389, R406, R453, R480). -/
def readBlock (s : State) (idx sub : Nat) : Option Nat :=
  match idx, sub with
  | 0x8000, 1 => some s.domain.state
  | 0x8000, 2 => some (match s.domain.charter with | some c => chSession c | none => 0)
  | 0x8000, 3 => some (match s.domain.charter with | some c => chSeq c | none => 0)
  | 0x8000, 5 => some s.domain.memberIndex
  | 0x8001, 3 => some (bit (provisioned s))
  | 0x8010, 2 => some s.domain.sampleState
  | 0x8010, 3 => some s.domain.sampleNo
  | 0x8020, 4 => some s.domain.status
  | 0x8020, 5 => some s.domain.staged.length
  | 0x9000, 1 => some s.always.lastResetCause
  | 0x9000, 2 => some s.always.startCount
  | 0x9000, 3 => some s.always.failedStarts
  | 0x9000, 4 => some s.seq.basting
  | 0x9000, 5 => some s.seq.phase
  | 0x9000, 6 => some s.seq.lastMgmtCause
  | 0x9000, 7 => some s.always.tamperEvents
  | 0x9004, 1 => some (bit s.power.holdupArmed)
  | 0x9004, 2 => some (bit s.power.quiesced)
  | 0x9004, 5 => some (bit s.power.refclk)
  | 0x9010, 1 => some (lcState s)
  | 0x9010, 2 => some ((lcGroups s.fuses.lcWord).getD 0xFF)
  | 0x9010, 3 => some s.fuses.lcWord
  | 0x9010, 5 => some s.lc.progress
  | 0x9020, 1 => some s.fw.active
  | 0x9020, 4 => some s.fw.staged.length
  | 0x9020, 7 => some s.fw.status
  | 0x9030, 1 => some (bit s.power.retention)
  | 0xA000, 4 => some (bit s.recovery.quarantined)
  | 0xA000, 5 => some s.recovery.inWindow
  | 0xA000, 7 => some (bit s.recovery.consent)
  | 0xA000, 8 => some s.tick
  | 0xA010, n => some (nth s.recovery.last ([0, 0, 1, 2, 3, 4, 5].getD n 0) ([0, 0xFFFF, 0, 0, 0xFF, 0, 0].getD n 0))
  | 0xA020, 8 => some s.log.state
  | 0xA020, 9 => some s.log.recs.length
  | 0xA020, 12 => some s.log.triggerIndex
  | 0xB032, 1 => some s.power.throttle
  | 0xB041, 1 => some (tcount s.links.cong fun _ c => decide (c.rate < 64))
  | 0xC000, 2 => some (match s.shuttle.owner with | some (p, c) => p + 64 * c + 65536 | none => 0)
  | 0xC010, 2 => some (s.purl.running.getD 0xFF)
  | _, _ => none

/-- Value of an object of a number type: what the machine holds, else the stored or per-session value. -/
def readNum (s : State) (r : OdReq) (idx sub : Nat) (mine : Bool) : Nat :=
  let got :=
    if idx < 0x2000 then readIdentity s idx sub
    else if idx < 0x4000 then readKeys s idx sub
    else if idx < 0x7000 then readFabric s idx sub
    else if idx < 0x8000 then readHost s r idx sub
    else readBlock s idx sub
  match got with
  | some v => v
  | none => if mine then perSession s (sessNo r) idx sub else setting s idx sub

/-- A READ of an existing object of the class granted: its value, and the state with the free values used up. INC is a
free value until it has been drawn (R218, log entry 3). -/
def readValue (s : State) (r : OdReq) (idx sub : Nat) (o : ObjIndex) (row : ObjRow) : Bytes × State :=
  if sub = 0 && (highestSub s o).isSome then (le 1 ((highestSub s o).getD 0), s)
  else if idx = 0x5000 && sub = 9 && s.keys.inc.isNone then freshBytes 4 s
  else if idx = 0x5000 && sub = 9 then (le 4 (s.keys.inc.getD 0), s)
  else if 7 ≤ row.ty && row.ty ≤ 9 then (readBytes s r idx sub, s)
  else (le row.len (readNum s r idx sub row.mine), s)

/-- READ (R414 to R416): checks 2 to 6, then the value. OVERFLOW_POP and RAW_SAMPLE have rules of their own (R139,
R312). -/
def odReadAt (r : OdReq) (idx sub : Nat) (s : State) : State :=
  if idx = 0x7105 && sub = 8 then readOverflow r s
  else if idx = 0x2030 && sub = 5 then readRaw r s
  else
    let g := readGate s r idx sub false
    if g ≠ 0 then answer r 1 idx sub g 0 0 [] s
    else match findIndex s idx with
      | none => s
      | some o => match findRow s o sub with
        | none => s
        | some row =>
          let (v, s) := readValue s r idx sub o row
          answer r 1 idx sub 0 0 0 v s

end Sys2Proof.Machine
end

