-- ==== Sys2Proof/Machine/Tables.lean ====
section
/-! DEFINITION. The TABLE objects: how many rows each has, what each row holds, and TABLE_READ (R410, R415, R417). An
empty entry's row is zero but for what its rule says. -/

namespace Sys2Proof.Machine

/-! ### Rows of the key, memory and tray tables -/

/-- A key-index table entry (R120); FREE when it is not listed. -/
def kidxRow (s : State) (k : Nat) : Bytes :=
  match kidxAt s k with
  | none => zeroBytes 8
  | some e => le 8 (pack [(16, e.pin), (16, e.gen), (6, e.partition), (1, bit e.infra), (2, e.kind), (2, e.state),
      (1, bit e.orphaned)])

/-- A region-table entry (R157). -/
def regionRow (s : State) (k : Nat) : Bytes :=
  match regionAt s k with
  | none => zeroBytes 32
  | some r => le 32 (pack [(3, r.state), (1, bit r.damaged), (1, bit r.mirror), (1, bit r.ordered), (1, bit r.checked),
      (1, bit r.mirrorLost), (6, r.sizeLog2), (4, levelsOf r.sizeLog2), (6, r.partition), (12, r.kidx), (12, r.trayRegion),
      (16, r.pin), (16, r.pinGen), (16, r.primaryEp), (16, r.mirrorEp), (12, r.mirrorRegion), (4, 0), (32, r.spanRekeys),
      (32, r.lineMacFails), (32, r.poisonedReads)])

/-- A damage record, and behind the 64 the count of dropped records (R171, R410). -/
def damageRow (s : State) (k : Nat) : Bytes :=
  if k = 64 then le 4 s.tally.damageDropped
  else match s.tally.damage[k]? with
    | some (slot, level, i) => le 8 (pack [(11, slot), (4, level), (42, i)])
    | none => zeroBytes 8

/-- The access record of a root slot (R242). -/
def accessRow (s : State) (k : Nat) : Bytes :=
  match regionAt s k with
  | none => zeroBytes 14
  | some r => le 4 r.accessKey ++ le 4 r.ownerEpoch ++ le 4 (r.trayInc.getD 0) ++ le 2 r.cells

/-- A tray region record (R220), its ACCESS_KEY apart. -/
def trayTableRow (s : State) (k : Nat) : Bytes :=
  match tget s.fabric.tray.regions k with
  | none => zeroBytes 32
  | some t => le 32 (pack [(2, t.state), (1, bit t.checked), (1, bit t.ordered), (6, t.sizeLog2), (6, 0), (16, t.ownerEp),
      (32, t.epoch), (16, t.ownerJob), (14, t.cellBase), (13, t.cells), (21, 0), (40, t.dataBase), (40, t.metaBase)])

/-! ### Rows of the link and fabric tables -/

/-- The partner of a port (R196, R203): LINK_STATE, ENDPOINT, PORT, ROLE and CERT_HASH, in that order (log entry 39). -/
def partnerRow (s : State) (k : Nat) : Bytes :=
  let x := linkAt s k
  le 1 x.state ++ match x.partner with
    | some p => le 2 p.ep ++ le 1 p.port ++ le 1 p.role ++ slice p.certHash 0 48
    | none => zeroBytes 52

/-- A route-table entry (R206). -/
def routeRow (s : State) (k : Nat) : Bytes :=
  match tget s.fabric.routes k with
  | none => zeroBytes 16
  | some r => le 16 (pack [(16, r.base), (16, r.mask), (18, r.ports), (1, bit r.valid), (13, 0), (16, r.epoch)])

/-- A peer-table entry (R218); an INC_KNOWN that is unset is a free value (log entry 3). -/
def peerRow (s : State) (k : Nat) : Bytes :=
  match s.fabric.peers[k]? with
  | none => zeroBytes 10
  | some p => le 2 p.ep ++ le 4 (p.inc.getD (Config.freeNat (s.free + k))) ++ le 4 p.era

/-- A fault record, and behind the 64 the count of records overwritten (R217, R410). -/
def faultRow (s : State) (k : Nat) : Bytes :=
  if k = 64 then le 4 s.fabric.overwritten
  else match s.fabric.faults[k]? with
    | some f => le 8 (pack [(16, f.dst), (6, f.partition), (8, f.status), (32, f.offset)])
    | none => zeroBytes 8

/-- The counters of a port, U64 each (R203). -/
def linkRow64 (s : State) (k : Nat) : Bytes := (List.range 20).flatMap fun i => le 8 (nth (linkAt s k).counters i 0)

/-! ### Rows of the plait, context and pattern tables -/

/-- A plait record, in the order of PLAIT_ID, with STATE, LAST_STEP and SLOT_REGIONS (R277, log entry 39). -/
def plaitRow (s : State) (k : Nat) : Bytes :=
  match s.plaits[k]? with
  | none => zeroBytes 327
  | some (_, p) => slice p.bytes 0 320 ++ le 1 (bit p.run.isSome) ++ le 4 (p.last.getD 0) ++ le 2 p.slots.flatten.length

/-- A context record (R280). -/
def ctxRow (s : State) (k : Nat) : Bytes :=
  match ctxAt s k with
  | none => zeroBytes 16
  | some c => le 16 (pack [(3, c.state), (6, c.partition), (7, 0), (20, c.pasid), (4, c.faultReason),
      (7, c.overflow.length), (17, 0), (32, c.ownerProc), (32, c.resets)])

/-- A pattern directory entry (R317). -/
def patternRow (s : State) (k : Nat) : Bytes :=
  match patternAt s k with
  | none => zeroBytes 32
  | some p => le 32 (pack [(2, p.state), (10, p.ctx), (6, p.partition), (2, p.chainsM1), (8, p.chainPrio), (4, 0),
      (13, p.nodes), (3, 0), (14, p.frameBase), (2, 0), (5, liveLaunches s k), (11, 0), (48, p.paramSeq), (32, p.event),
      (32, p.launches), (12, nth p.entry 0 0), (12, nth p.entry 1 0), (12, nth p.entry 2 0), (12, nth p.entry 3 0)])

/-- Chains of a launch that have nodes left to start or to complete (R330). -/
def activeChains (s : State) (k : Nat) (l : Launch) : Nat :=
  ((List.range l.chains.length).map fun c => if chainEnded s k l c then 0 else 2 ^ c).sum

/-- A launch record, in the order of pattern and record (R330, R335). -/
def launchRow (s : State) (k : Nat) : Bytes :=
  match tget s.patterns.launches k with
  | none => zeroBytes 32
  | some l =>
    let (st, n) := l.first.getD (0, 0)
    le 32 (pack [(2, l.state), (12, l.qid), (4, activeChains s k l), (14, 0), (32, l.launchNo),
      (32, l.fences), (48, l.paramSeq), (8, st), (12, n), (1, bit l.first.isSome), (1, bit l.satSeen), (10, 0),
      (16, (executing s k).length)])

/-! ### Rows of the partition and domain tables -/

/-- A partition record (R337). -/
def partRow (s : State) (k : Nat) : Bytes :=
  match tget s.parts k with
  | none => zeroBytes 88
  | some p => le 40 (pack [(3, p.state), (1, bit p.bound.isSome), (4, 0), (10, p.ctxBase), (11, p.ctxCount), (3, 0),
      (12, p.kidxBase), (13, p.kidxCount), (7, 0), (12, p.rootQuota), (12, rootsUsed s k), (8, 0), (14, p.heldQuota),
      (14, heldUsed s k), (4, 0), (8, p.patBase), (9, p.patCount), (15, 0), (14, p.frameBase), (15, p.frameCount), (3, 0),
      (16, p.pin), (16, p.pinGen), (32, p.serial), (32, p.resets)]) ++ slice p.hash 0 48

/-- A source-map entry (R345). -/
def sourceRow (s : State) (k : Nat) : Bytes :=
  match tget s.sources k with
  | none => zeroBytes 8
  | some e => le 8 (pack [(16, e.srcId), (6, e.partition), (1, bit e.valid), (1, bit e.confirmed)])

/-- An entry of the certificate store, newest first (R363, log entry 39). -/
def certRow (s : State) (k : Nat) : Bytes :=
  match s.domain.store[k]? with
  | none => zeroBytes 52
  | some (n, c) => le 4 n ++ hash48 c ++ c

/-- A session with its rights (R371, R372, R379). -/
def sessionRow (s : State) (k : Nat) : Bytes :=
  match tget s.domain.sessions k with
  | none => zeroBytes 53
  | some x => le 4 x.id ++ le 1 (pack [(1, bit (oprRight s k)), (1, bit (mgrRight s k)), (1, bit (boundPart s k).isSome),
      (1, bit (isMemberCert s x.leaf))]) ++ slice x.digest 0 48

/-- An armed dump behind VALID (R477). -/
def dumpRow (s : State) (k : Nat) : Bytes :=
  match tget s.dumps k with
  | none => zeroBytes 17
  | some e => le 1 1 ++ slice e.raw 0 16

/-! ### TABLE_READ -/

/-- Rows of a table (R410). -/
def tableTotal (s : State) (idx : Nat) : Nat :=
  if idx = 0x2100 then 4096
  else if idx = 0x3100 || idx = 0x5001 then 2048
  else if idx = 0x3102 || idx = 0x5020 then 65
  else if idx = 0x4008 || idx = 0xB040 then linkPortsOf s.cfg
  else if idx = 0x5010 || idx = 0x5012 || idx = 0x6010 || idx = 0x7302 then 1024
  else if idx = 0x5100 || idx = 0x7203 then 4096
  else if idx = 0x7100 || idx = 0x7202 then contextsOf s.cfg
  else if idx = 0x7200 then 256
  else if idx = 0x7300 then partitionsOf s.cfg
  else if idx = 0x8011 || idx = 0xA031 then 16
  else if idx = 0x8030 then 8
  else if idx = 0x9021 then 2
  else if idx = 0xA012 then s.recovery.records.length
  else if idx = 0xB050 then 1
  else 0

/-- Row `k` of a table. -/
def tableRow (s : State) (idx k : Nat) : Bytes :=
  match idx with
  | 0x2100 => kidxRow s k
  | 0x3100 => regionRow s k
  | 0x3102 => damageRow s k
  | 0x4008 => partnerRow s k
  | 0x5001 => accessRow s k
  | 0x5010 => routeRow s k
  | 0x5012 => peerRow s k
  | 0x5020 => faultRow s k
  | 0x5100 => trayTableRow s k
  | 0x6010 => plaitRow s k
  | 0x7100 => ctxRow s k
  | 0x7200 => patternRow s k
  | 0x7202 => le 8 (patternFloor s k % 2 ^ 48)
  | 0x7203 => launchRow s k
  | 0x7300 => partRow s k
  | 0x7302 => sourceRow s k
  | 0x8011 => certRow s k
  | 0x8030 => sessionRow s k
  | 0x9021 => slice (nth s.fw.slotRows k []) 0 91
  | 0xA012 => nth s.recovery.records k []
  | 0xA031 => dumpRow s k
  | 0xB040 => linkRow64 s k
  | 0xB050 => s.fabric.handovers.flatMap (le 4)
  | _ => []

/-- Rows from row `k`, each behind its length: `n` at most, to the end of the table, or while they fit in `room`; the
first always (R410, R417). The bytes and how many rows they are. -/
def tableRows (s : State) (idx : Nat) : Nat → Nat → Nat → Bool → Bytes × Nat
  | 0, _, _, _ => ([], 0)
  | n + 1, k, room, first =>
    if k ≥ tableTotal s idx then ([], 0)
    else
      let row := tableRow s idx k
      let b := le 4 (row.length % 65536) ++ row
      if b.length > room && !first then ([], 0)
      else
        let (bs, m) := tableRows s idx n (k + 1) (room - b.length) false
        (b ++ bs, m + 1)

/-- TABLE_READ (R414, R417). LOG_SEALED has a rule of its own (R476). -/
def odTableAt (r : OdReq) (idx sub first n : Nat) (s : State) : State :=
  if idx = 0xA021 && sub = 0 then readLogSealed r first n s
  else
    let g := readGate s r idx sub true
    if g ≠ 0 then answer r 3 idx sub g 0 0 [] s
    else if first ≥ tableTotal s idx then answer r 3 idx sub abRange 0 0 [] s
    else
      let (b, m) := tableRows s idx n first (16384 - 16) true
      answer r 3 idx sub 0 m (tableTotal s idx) b { s with free := s.free + tableTotal s idx }

end Sys2Proof.Machine
end

