-- ==== Sys2Proof/Machine/Dictionary.lean ====
section
/-! DEFINITION. Dictionary messages (R413 to R417, R424): the header's checks, the WRITE of any object through the rule
that owns it, and the rows of READ, WRITE, TABLE_READ and OD_REQUEST. -/

namespace Sys2Proof.Machine

/-! ### Writes that only store, with conditions of their own -/

/-- A setting of 0x5000 other than ENDPOINT_ID (R242): the accelerator profile only, and the two relations kept. -/
def ownFabricSetting (sub v : Nat) (s : State) : Own :=
  let at_ := fun k => if k = sub then v else setting s 0x5000 k
  guarded [(profile s ≠ 0, abState), (at_ 3 ≥ at_ 2 || at_ 5 ≤ at_ 6 + 2 * at_ 2, abRange)] (setOd 0x5000 sub v s)

/-- BOBBIN_SHARE and JOB_TAG of a partition (R44, R242, R352). -/
def ownPartSetting (idx sub v : Nat) (s : State) : Own :=
  let torn := match tget s.parts (sub - 1) with | some p => decide (p.state ≥ 2) | none => false
  guarded [(torn, abState)] (setOd idx sub v s)

/-- INTR_RING_BASE, INTR_RING_LOG2, MSI_ADDR and MSI_DATA of the selected queue's context (R315); a FREE context keeps
nothing (log entry 19). -/
def ownContextExtras (r : OdReq) (sub v : Nat) (s : State) : Own :=
  .ok (setCtx (selectedQueue s r / 4) (fun c =>
    if sub = 1 then { c with intrBase := v }
    else if sub = 2 then { c with intrLog2 := v }
    else if sub = 3 then { c with msiAddr := v }
    else { c with msiData := v }) s)

/-! ### The rule that owns a write -/

/-- 0x1000 to 0x5FFF. -/
def ownLow (r : OdReq) (idx sub v : Nat) (s : State) : Own :=
  match idx, sub with
  | 0x2002, 1 => ownPinInvalidate v s
  | 0x2003, 1 => ownUserFlashWipe r v s
  | 0x2003, 2 => ownRaiseEpochFloor r v s
  | 0x2101, 1 => ownKidxBind r v s
  | 0x2101, 2 => ownKidxUnbind v s
  | 0x3000, 6 => ownMemInterleave v s
  | 0x3000, 8 => ownTallyFlush v s
  | 0x3101, 1 => ownRegionCreate r v s
  | 0x3101, 3 => ownRegionRelease v s
  | 0x4003, 1 => ownLinkRelease v s
  | 0x4004, n => ownLinkAdmin (n - 1) v s
  | 0x4006, 1 => ownRekeyNow v s
  | 0x5000, 1 => ownEndpointId v s
  | 0x5000, n => ownFabricSetting n v s
  | 0x5002, n => ownPartSetting 0x5002 n v s
  | 0x5011, 1 => ownRouteWrite v s
  | 0x5101, 1 => ownTrayRegionProvision v s
  | 0x5101, 2 => ownTrayRegionReset v s
  | _, _ => .ok (setOd idx sub v s)

/-- 0x6000 to 0x7FFF. -/
def ownMiddle (r : OdReq) (idx sub v : Nat) (data : Bytes) (s : State) : Own :=
  match idx, sub with
  | 0x6011, 1 => ownPlaitCreate data s
  | 0x6011, 2 => ownPlaitDelete v s
  | 0x7101, 1 => ownContextCreate r v s
  | 0x7101, 2 => ownContextDestroy v s
  | 0x7101, 4 => ownContextResume v s
  | 0x7101, 5 => ownProcessRelease v s
  | 0x7104, n => ownQueueConfig r n v s
  | 0x7105, 5 => ownFaultEvent r v s
  | 0x7105, n => ownContextExtras r n v s
  | 0x7106, 1 => ownMemobjCreate r v s
  | 0x7106, 3 => ownMemobjFree v s
  | 0x7106, 4 => ownMemobjHostRef v s
  | 0x7107, 1 => ownEventCreate r v s
  | 0x7107, 3 => ownEventFree v s
  | 0x7107, 4 => ownEventHostRef v s
  | 0x7201, 1 => ownPatternLoad r v s
  | 0x7201, 2 => ownPatternDelete v s
  | 0x7201, 3 => ownPatternPatch r data s
  | 0x7301, 1 => ownPartitionCreate data s
  | 0x7301, 2 => ownTeardown v 2 s
  | 0x7301, 3 => ownTeardown v 3 s
  | 0x7303, 1 => ownSourceWrite v s
  | 0x7400, n => ownReservedSlots (n - 1) v s
  | 0x7401, n => ownPartSetting 0x7401 n v s
  | _, _ => .ok (setOd idx sub v s)

/-- 0x8000 to 0xFFFF. -/
def ownHigh (r : OdReq) (idx sub v : Nat) (data : Bytes) (s : State) : Own :=
  match idx, sub with
  | 0x8001, 1 => ownOwnerClaim data s
  | 0x8010, 1 => ownSampleNonce data s
  | 0x8020, 1 => ownCharterBegin v s
  | 0x8020, 2 => ownCharterChunk data s
  | 0x8020, 3 => ownCharterCommit s
  | 0x8020, 6 => ownDissolve r s
  | 0x9001, 1 => ownSoftReset v s
  | 0x9001, 2 => ownMgmtReset v s
  | 0x9010, 4 => ownLcRequest r v s
  | 0x9020, 2 => ownStageBegin v s
  | 0x9020, 3 => ownStageChunk data s
  | 0x9020, 5 => ownStageCommit s
  | 0x9020, 6 => ownFwActivate r s
  | 0x9030, 1 => ownPowerState v s
  | 0xA000, 6 => ownQuarantineConsent v s
  | 0xA011, 1 => ownContextReset v s
  | 0xA020, 1 => ownLogEnable v s
  | 0xA020, 2 => ownLogMode v s
  | 0xA020, 7 => ownTriggerNow s
  | 0xA020, 11 => ownLogClear s
  | 0xA030, 1 => ownDumpArm v s
  | 0xA030, 2 => ownDumpDisarm v s
  | 0xC000, 3 => ownShuttleRevoke s
  | 0xC010, 3 => ownPurlAbort v s
  | _, _ => .ok (setOd idx sub v s)

/-- The object is held per session (R425). -/
def heldPerSession (s : State) (idx sub : Nat) : Bool :=
  match findIndex s idx with
  | none => false
  | some o => match findRow s o sub with
    | none => false
    | some row => row.mine

/-- Check 8 of R414 and the write itself: the rule that owns the object, else the value is stored. -/
def ownWrite (r : OdReq) (idx sub : Nat) (data : Bytes) (s : State) : Own :=
  let v := ofLe data
  if heldPerSession s idx sub then .ok (setMine r idx sub v s)
  else if idx < 0x6000 then ownLow r idx sub v s
  else if idx < 0x8000 then ownMiddle r idx sub v data s
  else ownHigh r idx sub v data s

/-- A WRITE of any object. A pin invalidated ends the work that uses it, and a region released ends what waits on it, as
in the rows of those objects (R110, R159). -/
def odWriteAt (r : OdReq) (idx sub : Nat) (data : Bytes) (s : State) : State :=
  let t := odWrite r idx sub data (ownWrite r idx sub data) s
  if (idx = 0x2002 && sub = 1) || (idx = 0x2101 && sub = 2) then endKeyUsers t
  else if idx = 0x3101 && sub = 3 then afterFabric (endOrphans t)
  else t

/-! ### Messages (R414, R415) -/

/-- Check 1 of R414: the header is valid. -/
def headerValid (h : Nat) : Bool :=
  let op := fld h 0 8
  (op == 1 || op == 2 || op == 3) && fld h 8 8 == 0 && fld h 56 8 == 0 && fld h 96 32 == 0 &&
  (if op = 3 then fld h 80 16 != 0 else fld h 64 32 == 0)

/-- A dictionary message at the head of its path (R414 to R417): lost when no engine serves the path. -/
def odMessage (q : OdReq) (h : Nat) (data : Bytes) (s : State) : State :=
  let r := { q with txn := BitVec.ofNat 16 (fld h 16 16) }
  let op := fld h 0 8
  let idx := fld h 32 16
  let sub := fld h 48 8
  if !pathUp s r then s
  else if !headerValid h then answer r (op % 128) idx sub abType 0 0 [] s
  else if op = 1 then odReadAt r idx sub s
  else if op = 2 then odWriteAt r idx sub data s
  else odTableAt r idx sub (fld h 64 16) (fld h 80 16) s

/-- READ. -/
def execOdRead (r : OdReq) (h : BitVec 128) (s : State) : Host.Outcome State Fault Refusal :=
  .next (odMessage r h.toNat [] s)

/-- WRITE. -/
def execOdWrite (r : OdReq) (h : BitVec 128) (data : Bytes) (s : State) : Host.Outcome State Fault Refusal :=
  .next (odMessage r h.toNat data s)

/-- TABLE_READ. -/
def execOdTableRead (r : OdReq) (h : BitVec 128) (s : State) : Host.Outcome State Fault Refusal :=
  .next (odMessage r h.toNat [] s)

/-- OD_REQUEST (R346, R424): the header and data behind the request code, at the session's class; a shorter body is
MALFORMED. A secured request on a path that no engine serves is lost. -/
def execOdRequest (path : OdPath) (sess : Nat) (body : Bytes) (s : State) : Host.Outcome State Fault Refusal :=
  let r : OdReq := { path := path, sess := some sess, txn := 0 }
  .next (if !pathUp s r then s
    else if body.length < 16 then securedAnswer sess stMalformed [] s
    else odMessage r (num body 0 16) (body.drop 16) s)

end Sys2Proof.Machine
end

