-- ==== Sys2Proof/Machine/MeshRows.lean ====
section
/-! DEFINITION. Responses to the block's outbound mesh requests (R62, R282, R311). -/

namespace Sys2Proof.Machine

/-- What a response, or its absence, means for what waited for it. -/
def outDone (q : OutReq) (st : Nat) (poison : Bool) (data : Bytes) (s : State) : State :=
  match q.purpose with
  | .fetch k first n => fetchDone k first n q.addr st poison data s
  | .completion c k slot => slotDone c k slot q.addr st s
  | .record c => recordDone c q.addr st s
  | .msi => s
  | .image l => imageDone l st poison data s
  | .xfer job => hostAnswered job st poison data s

/-- The request still waits for its credits (R53). -/
def unsentReq (s : State) (tag : Nat) : Bool :=
  s.ports.waitOut.any fun w => match w.2.2.2 with | .meshReq _ t _ _ _ _ _ => t == tag | _ => false

/-- A response arrives under the credits of class RSP, which it returns at once (R53, R54, R58): one that arrives late is
discarded and counted (R62). -/
def execMeshResponse (tag : Nat) (rsp : MeshRsp) (s : State) : Host.Outcome State Fault Refusal :=
  .next (match tget s.ports.outReqs tag, unsentReq s tag with
    | some q, false =>
      let n := beatsOf rsp.data.length
      if !portUp s (.mesh q.port) then s
      else if n > creditOf s.ports.granted (.mesh q.port) 0 then countBy 0xB031 1 n s
      else outDone q rsp.status rsp.poison rsp.data
        (emit (.credit (.mesh q.port) 0 n) { s with ports.outReqs := tdel s.ports.outReqs tag })
    | _, _ => if running s then count 0xB031 9 s else s)

/-- A response has not come within MESH_RSP_TIMEOUT (R62): as if it had arrived with TIMEOUT. -/
def execMeshRspTimeout (tag : Nat) (s : State) : Host.Outcome State Fault Refusal :=
  .next (match tget s.ports.outReqs tag, unsentReq s tag with
    | some q, false =>
      if s.tick < q.issueTick + setting s 0x7002 1 then s
      else outDone q stTimeout false [] { s with ports.outReqs := tdel s.ports.outReqs tag }
    | _, _ => s)

end Sys2Proof.Machine
end

