-- ==== Sys2Proof/Machine/Dispatch.lean ====
section
/-! DEFINITION. The meaning of each command: one arm per constructor of `Instr`. -/

namespace Sys2Proof.Machine

/-- The effect of a command on everything but the queue. -/
def exec (i : Instr) (s : State) : Host.Outcome State Fault Refusal :=
  match i with
  | .powerOn => Sys2Proof.Machine.execPowerOn s
  | .resetPin cycles => Sys2Proof.Machine.execResetPin cycles s
  | .tamperPin ticks => Sys2Proof.Machine.execTamperPin ticks s
  | .tamperSensor => Sys2Proof.Machine.execTamperSensor s
  | .softReset r v => Sys2Proof.Machine.execSoftReset r v s
  | .mgmtReset r v => Sys2Proof.Machine.execMgmtReset r v s
  | .mgmtFirmwareReady => Sys2Proof.Machine.execMgmtFirmwareReady s
  | .tamperClear => Sys2Proof.Machine.execTamperClear s
  | .startUpRelease pins => Sys2Proof.Machine.execStartUpRelease pins s
  | .entropyStartupTestEnd raw => Sys2Proof.Machine.execEntropyStartupTestEnd raw s
  | .firmwareMeasurementDone => Sys2Proof.Machine.execFirmwareMeasurementDone s
  | .firmwareReady => Sys2Proof.Machine.execFirmwareReady s
  | .islandDroop island pm => Sys2Proof.Machine.execIslandDroop island pm s
  | .portClockStop p => Sys2Proof.Machine.execPortClockStop p s
  | .refclkLoss ticks => Sys2Proof.Machine.execRefclkLoss ticks s
  | .refclkRecalibrate => Sys2Proof.Machine.execRefclkRecalibrate s
  | .throttleChange t => Sys2Proof.Machine.execThrottleChange t s
  | .pfailGlitch ticks => Sys2Proof.Machine.execPfailGlitch ticks s
  | .pfailFall => Sys2Proof.Machine.execPfailFall s
  | .quiesceComplete => Sys2Proof.Machine.execQuiesceComplete s
  | .pfailRise => Sys2Proof.Machine.execPfailRise s
  | .holdupArmTimer => Sys2Proof.Machine.execHoldupArmTimer s
  | .retentionEnter r => Sys2Proof.Machine.execRetentionEnter r s
  | .retentionExit r => Sys2Proof.Machine.execRetentionExit r s
  | .unitAdmit u => Sys2Proof.Machine.execUnitAdmit u s
  | .pinCacheFillDone => Sys2Proof.Machine.execPinCacheFillDone s
  | .ticketGrantExpiry island part pillow => Sys2Proof.Machine.execTicketGrantExpiry island part pillow s
  | .unitIssue unit => Sys2Proof.Machine.execUnitIssue unit s
  | .unitEgress unit => Sys2Proof.Machine.execUnitEgress unit s
  | .reservedSlotsWrite r part v => Sys2Proof.Machine.execReservedSlotsWrite r part v s
  | .frameBoundaryApply pillow => Sys2Proof.Machine.execFrameBoundaryApply pillow s
  | .creditReturn p cls n => Sys2Proof.Machine.execCreditReturn p cls n s
  | .beatWithoutCredit p cls => Sys2Proof.Machine.execBeatWithoutCredit p cls s
  | .meshPkgRead q => Sys2Proof.Machine.execMeshPkgRead q s
  | .meshPkgWrite q => Sys2Proof.Machine.execMeshPkgWrite q s
  | .mergeWindowExpire entry => Sys2Proof.Machine.execMergeWindowExpire entry s
  | .meshRegisterRequestMalformed q => Sys2Proof.Machine.execMeshRegisterRequestMalformed q s
  | .meshFabricRead q => Sys2Proof.Machine.execMeshFabricRead q s
  | .meshFabricWrite q => Sys2Proof.Machine.execMeshFabricWrite q s
  | .meshFabricAtomic q => Sys2Proof.Machine.execMeshFabricAtomic q s
  | .meshFabricFence q => Sys2Proof.Machine.execMeshFabricFence q s
  | .meshResponse tag rsp => Sys2Proof.Machine.execMeshResponse tag rsp s
  | .meshRspTimeout tag => Sys2Proof.Machine.execMeshRspTimeout tag s
  | .memReadData port tag data lerr => Sys2Proof.Machine.execMemReadData port tag data lerr s
  | .memReadTimeout port tag => Sys2Proof.Machine.execMemReadTimeout port tag s
  | .memCtlRdyFall port => Sys2Proof.Machine.execMemCtlRdyFall port s
  | .phyUpRise port => Sys2Proof.Machine.execPhyUpRise port s
  | .phyUpFall port => Sys2Proof.Machine.execPhyUpFall port s
  | .holdRetrain port => Sys2Proof.Machine.execHoldRetrain port s
  | .rxFlitBad port => Sys2Proof.Machine.execRxFlitBad port s
  | .rxFlitWhileDown port => Sys2Proof.Machine.execRxFlitWhileDown port s
  | .idleFlitReceive port flit => Sys2Proof.Machine.execIdleFlitReceive port flit s
  | .clearFlitReceive port flit => Sys2Proof.Machine.execClearFlitReceive port flit s
  | .ctrlFlitReceive port flit => Sys2Proof.Machine.execCtrlFlitReceive port flit s
  | .groupReceive port flits => Sys2Proof.Machine.execGroupReceive port flits s
  | .cmarkNopTimeout dst => Sys2Proof.Machine.execCmarkNopTimeout dst s
  | .cmarkRecoveryTick dst => Sys2Proof.Machine.execCmarkRecoveryTick dst s
  | .ctrlFlitSendDue port => Sys2Proof.Machine.execCtrlFlitSendDue port s
  | .creditGroupSendDue port => Sys2Proof.Machine.execCreditGroupSendDue port s
  | .ackTimeoutResend port => Sys2Proof.Machine.execAckTimeoutResend port s
  | .stitchHello port m => Sys2Proof.Machine.execStitchHello port m s
  | .keyShareI port m => Sys2Proof.Machine.execKeyShareI port m s
  | .keyShareR port m => Sys2Proof.Machine.execKeyShareR port m s
  | .stitchFinish port m => Sys2Proof.Machine.execStitchFinish port m s
  | .stitchTimeout port => Sys2Proof.Machine.execStitchTimeout port s
  | .rekeyNow r v => Sys2Proof.Machine.execRekeyNow r v s
  | .rekey port m => Sys2Proof.Machine.execRekey port m s
  | .rekeyAck port m => Sys2Proof.Machine.execRekeyAck port m s
  | .rekeyResendTimeout port => Sys2Proof.Machine.execRekeyResendTimeout port s
  | .linkAdminDown r port => Sys2Proof.Machine.execLinkAdminDown r port s
  | .linkAdminUp r port => Sys2Proof.Machine.execLinkAdminUp r port s
  | .linkRelease r v => Sys2Proof.Machine.execLinkRelease r v s
  | .gangFrameReceive link f => Sys2Proof.Machine.execGangFrameReceive link f s
  | .gangRingTimeout => Sys2Proof.Machine.execGangRingTimeout s
  | .gangLinkDown link => Sys2Proof.Machine.execGangLinkDown link s
  | .flashDone err => Sys2Proof.Machine.execFlashDone err s
  | .i3cDynamicAddress addr => Sys2Proof.Machine.execI3cDynamicAddress addr s
  | .tapReset => Sys2Proof.Machine.execTapReset s
  | .tapInstructionLoad ir => Sys2Proof.Machine.execTapInstructionLoad ir s
  | .debugNop => Sys2Proof.Machine.execDebugNop s
  | .debugRead dr => Sys2Proof.Machine.execDebugRead dr s
  | .debugHalt => Sys2Proof.Machine.execDebugHalt s
  | .debugResume => Sys2Proof.Machine.execDebugResume s
  | .fuseProgram word bits => Sys2Proof.Machine.execFuseProgram word bits s
  | .fuseBlowDone took => Sys2Proof.Machine.execFuseBlowDone took s
  | .raiseEpochFloor r v => Sys2Proof.Machine.execRaiseEpochFloor r v s
  | .userFlashWipe r v => Sys2Proof.Machine.execUserFlashWipe r v s
  | .pinInvalidate r v => Sys2Proof.Machine.execPinInvalidate r v s
  | .invalidationSweep pin => Sys2Proof.Machine.execInvalidationSweep pin s
  | .kidxBind r v => Sys2Proof.Machine.execKidxBind r v s
  | .kidxUnbind r v => Sys2Proof.Machine.execKidxUnbind r v s
  | .entropyHealthFail raw => Sys2Proof.Machine.execEntropyHealthFail raw s
  | .entropyRetest raw => Sys2Proof.Machine.execEntropyRetest raw s
  | .rawSampleRead r => Sys2Proof.Machine.execRawSampleRead r s
  | .memInterleaveWrite r v => Sys2Proof.Machine.execMemInterleaveWrite r v s
  | .regionCreate r v => Sys2Proof.Machine.execRegionCreate r v s
  | .regionRelease r v => Sys2Proof.Machine.execRegionRelease r v s
  | .trayRetryProbe slot => Sys2Proof.Machine.execTrayRetryProbe slot s
  | .spanSwitchIn slot leaf => Sys2Proof.Machine.execSpanSwitchIn slot leaf s
  | .scrubTick => Sys2Proof.Machine.execScrubTick s
  | .tallyFlush r v => Sys2Proof.Machine.execTallyFlush r v s
  | .endpointIdWrite r v => Sys2Proof.Machine.execEndpointIdWrite r v s
  | .routeWrite r v => Sys2Proof.Machine.execRouteWrite r v s
  | .poolRead m => Sys2Proof.Machine.execPoolRead m s
  | .poolWrite m => Sys2Proof.Machine.execPoolWrite m s
  | .metaRead m => Sys2Proof.Machine.execMetaRead m s
  | .metaWrite m => Sys2Proof.Machine.execMetaWrite m s
  | .trayAtomic m => Sys2Proof.Machine.execTrayAtomic m s
  | .ownRead m => Sys2Proof.Machine.execOwnRead m s
  | .ownClaim m => Sys2Proof.Machine.execOwnClaim m s
  | .ownCas m => Sys2Proof.Machine.execOwnCas m s
  | .hoOffer m => Sys2Proof.Machine.execHoOffer m s
  | .hoRelease m => Sys2Proof.Machine.execHoRelease m s
  | .nopMsg m => Sys2Proof.Machine.execNopMsg m s
  | .readRsp m => Sys2Proof.Machine.execReadRsp m s
  | .writeRsp m => Sys2Proof.Machine.execWriteRsp m s
  | .metaReadRsp m => Sys2Proof.Machine.execMetaReadRsp m s
  | .metaWriteRsp m => Sys2Proof.Machine.execMetaWriteRsp m s
  | .atomicRsp m => Sys2Proof.Machine.execAtomicRsp m s
  | .ownRsp m => Sys2Proof.Machine.execOwnRsp m s
  | .hoAccept m => Sys2Proof.Machine.execHoAccept m s
  | .hoRefuse m => Sys2Proof.Machine.execHoRefuse m s
  | .remoteTimeout tag => Sys2Proof.Machine.execRemoteTimeout tag s
  | .atomicRetry tag => Sys2Proof.Machine.execAtomicRetry tag s
  | .replayEntryExpire src tag => Sys2Proof.Machine.execReplayEntryExpire src tag s
  | .trayRegionProvision r v => Sys2Proof.Machine.execTrayRegionProvision r v s
  | .trayRegionReset r v => Sys2Proof.Machine.execTrayRegionReset r v s
  | .handoverOffer d => Sys2Proof.Machine.execHandoverOffer d s
  | .offerTimeout slot => Sys2Proof.Machine.execOfferTimeout slot s
  | .handoverAccept d => Sys2Proof.Machine.execHandoverAccept d s
  | .acceptWaitExpiry offerer => Sys2Proof.Machine.execAcceptWaitExpiry offerer s
  | .handoverResolveRetry slot => Sys2Proof.Machine.execHandoverResolveRetry slot s
  | .plaitCreate r v => Sys2Proof.Machine.execPlaitCreate r v s
  | .plaitDelete r v => Sys2Proof.Machine.execPlaitDelete r v s
  | .plait d => Sys2Proof.Machine.execPlait d s
  | .plUp m => Sys2Proof.Machine.execPlUp m s
  | .plDown m => Sys2Proof.Machine.execPlDown m s
  | .plCredit m => Sys2Proof.Machine.execPlCredit m s
  | .plReady m => Sys2Proof.Machine.execPlReady m s
  | .plGo m => Sys2Proof.Machine.execPlGo m s
  | .plAbort m => Sys2Proof.Machine.execPlAbort m s
  | .plaitStepTimeout id => Sys2Proof.Machine.execPlaitStepTimeout id s
  | .contextCreate r v => Sys2Proof.Machine.execContextCreate r v s
  | .contextDestroy r v => Sys2Proof.Machine.execContextDestroy r v s
  | .processRelease r v => Sys2Proof.Machine.execProcessRelease r v s
  | .contextResume r v => Sys2Proof.Machine.execContextResume r v s
  | .memobjCreate r v => Sys2Proof.Machine.execMemobjCreate r v s
  | .memobjFree r v => Sys2Proof.Machine.execMemobjFree r v s
  | .memobjHostRef r v => Sys2Proof.Machine.execMemobjHostRef r v s
  | .eventCreate r v => Sys2Proof.Machine.execEventCreate r v s
  | .eventFree r v => Sys2Proof.Machine.execEventFree r v s
  | .eventHostRef r v => Sys2Proof.Machine.execEventHostRef r v s
  | .windowSignal part v => Sys2Proof.Machine.execWindowSignal part v s
  | .windowReset part v => Sys2Proof.Machine.execWindowReset part v s
  | .faultEventWrite r v => Sys2Proof.Machine.execFaultEventWrite r v s
  | .queueConfigWrite r sub v => Sys2Proof.Machine.execQueueConfigWrite r sub v s
  | .queueRestart r v => Sys2Proof.Machine.execQueueRestart r v s
  | .keyImportQueue sess body => Sys2Proof.Machine.execKeyImportQueue sess body s
  | .keyImportBounce sess body => Sys2Proof.Machine.execKeyImportBounce sess body s
  | .doorbell part slot v => Sys2Proof.Machine.execDoorbell part slot v s
  | .descriptorStart => Sys2Proof.Machine.execDescriptorStart s
  | .copy d => Sys2Proof.Machine.execCopy d s
  | .sealChunks d => Sys2Proof.Machine.execSeal d s
  | .unsealChunks d => Sys2Proof.Machine.execUnseal d s
  | .bounceIn d => Sys2Proof.Machine.execBounceIn d s
  | .bounceOut d => Sys2Proof.Machine.execBounceOut d s
  | .atomic d => Sys2Proof.Machine.execAtomic d s
  | .signal d => Sys2Proof.Machine.execSignal d s
  | .wait d => Sys2Proof.Machine.execWait d s
  | .waitTimeout d => Sys2Proof.Machine.execWaitTimeout d s
  | .nop d => Sys2Proof.Machine.execNop d s
  | .dump d => Sys2Proof.Machine.execDump d s
  | .descriptorComplete d => Sys2Proof.Machine.execDescriptorComplete d s
  | .overflowPop r => Sys2Proof.Machine.execOverflowPop r s
  | .patternLoad r v => Sys2Proof.Machine.execPatternLoad r v s
  | .patternDelete r v => Sys2Proof.Machine.execPatternDelete r v s
  | .patternPatch r v => Sys2Proof.Machine.execPatternPatch r v s
  | .launch d => Sys2Proof.Machine.execLaunch d s
  | .nodeComplete d => Sys2Proof.Machine.execNodeComplete d s
  | .partitionCreate r v => Sys2Proof.Machine.execPartitionCreate r v s
  | .partitionReset r v => Sys2Proof.Machine.execPartitionReset r v s
  | .partitionRemove r v => Sys2Proof.Machine.execPartitionRemove r v s
  | .teardownSquash part => Sys2Proof.Machine.execTeardownSquash part s
  | .teardownReseed part => Sys2Proof.Machine.execTeardownReseed part s
  | .sourceWrite r v => Sys2Proof.Machine.execSourceWrite r v s
  | .partitionBind sess body => Sys2Proof.Machine.execPartitionBind sess body s
  | .sourceConfirm sess body => Sys2Proof.Machine.execSourceConfirm sess body s
  | .sourceWithdraw sess body => Sys2Proof.Machine.execSourceWithdraw sess body s
  | .statusSnapshot => Sys2Proof.Machine.execStatusSnapshot s
  | .sampleNonce r v => Sys2Proof.Machine.execSampleNonce r v s
  | .sampleReady => Sys2Proof.Machine.execSampleReady s
  | .getVersion path => Sys2Proof.Machine.execGetVersion path s
  | .getCapabilities path => Sys2Proof.Machine.execGetCapabilities path s
  | .negotiateAlgorithms path offer => Sys2Proof.Machine.execNegotiateAlgorithms path offer s
  | .getDigests path => Sys2Proof.Machine.execGetDigests path s
  | .getCertificate path slot off len => Sys2Proof.Machine.execGetCertificate path slot off len s
  | .keyExchange path slot dhe elem => Sys2Proof.Machine.execKeyExchange path slot dhe elem s
  | .spdmFinish sess sig mac => Sys2Proof.Machine.execSpdmFinish sess sig mac s
  | .endSession sess => Sys2Proof.Machine.execEndSession sess s
  | .spdmUnsupported path code => Sys2Proof.Machine.execSpdmUnsupported path code s
  | .securedDecryptFail sess => Sys2Proof.Machine.execSecuredDecryptFail sess s
  | .hybridConfirm sess body => Sys2Proof.Machine.execHybridConfirm sess body s
  | .sealImport sess body => Sys2Proof.Machine.execSealImport sess body s
  | .odRequest path sess body => Sys2Proof.Machine.execOdRequest path sess body s
  | .seedGet sess body => Sys2Proof.Machine.execSeedGet sess body s
  | .seedCarryAttempt port => Sys2Proof.Machine.execSeedCarryAttempt port s
  | .seedGetResponse port body => Sys2Proof.Machine.execSeedGetResponse port body s
  | .ownerClaim r v => Sys2Proof.Machine.execOwnerClaim r v s
  | .charterBegin r v => Sys2Proof.Machine.execCharterBegin r v s
  | .charterChunk r v => Sys2Proof.Machine.execCharterChunk r v s
  | .charterCommit r v => Sys2Proof.Machine.execCharterCommit r v s
  | .charterCheckDone => Sys2Proof.Machine.execCharterCheckDone s
  | .dissolve r v => Sys2Proof.Machine.execDissolve r v s
  | .shuttleLockRequest part v => Sys2Proof.Machine.execShuttleLockRequest part v s
  | .shuttleRelease part v => Sys2Proof.Machine.execShuttleRelease part v s
  | .shuttleLeaseExpiry => Sys2Proof.Machine.execShuttleLeaseExpiry s
  | .shuttleRevoke r v => Sys2Proof.Machine.execShuttleRevoke r v s
  | .shuttleGo part v => Sys2Proof.Machine.execShuttleGo part v s
  | .shuttleAbort part v => Sys2Proof.Machine.execShuttleAbort part v s
  | .shuttleJobEnd => Sys2Proof.Machine.execShuttleJobEnd s
  | .purlSubmit part v => Sys2Proof.Machine.execPurlSubmit part v s
  | .purlGoAbort part v => Sys2Proof.Machine.execPurlGoAbort part v s
  | .purlAbort r v => Sys2Proof.Machine.execPurlAbort r v s
  | .purlTimeout => Sys2Proof.Machine.execPurlTimeout s
  | .purlJobEnd => Sys2Proof.Machine.execPurlJobEnd s
  | .mctpPacketReceive p => Sys2Proof.Machine.execMctpPacketReceive p s
  | .mctpAssemblyTimeout src tag => Sys2Proof.Machine.execMctpAssemblyTimeout src tag s
  | .vl0MctpMessage port srcEp dstEp m => Sys2Proof.Machine.execVl0MctpMessage port srcEp dstEp m s
  | .setEndpointId path controller eid => Sys2Proof.Machine.execSetEndpointId path controller eid s
  | .getEndpointId path => Sys2Proof.Machine.execGetEndpointId path s
  | .getMctpVersionSupport path mtype => Sys2Proof.Machine.execGetMctpVersionSupport path mtype s
  | .getMessageTypeSupport path => Sys2Proof.Machine.execGetMessageTypeSupport path s
  | .mctpUnsupportedCmd path cmd => Sys2Proof.Machine.execMctpUnsupportedCmd path cmd s
  | .mailboxGo v => Sys2Proof.Machine.execMailboxGo v s
  | .debugMailboxGo v => Sys2Proof.Machine.execDebugMailboxGo v s
  | .odRead r h => Sys2Proof.Machine.execOdRead r h s
  | .odWrite r h data => Sys2Proof.Machine.execOdWrite r h data s
  | .odTableRead r h => Sys2Proof.Machine.execOdTableRead r h s
  | .registerWrite off wide v => Sys2Proof.Machine.execRegisterWrite off wide v s
  | .fwStageBegin r v => Sys2Proof.Machine.execFwStageBegin r v s
  | .fwStageChunk r v => Sys2Proof.Machine.execFwStageChunk r v s
  | .fwStageCommit r v => Sys2Proof.Machine.execFwStageCommit r v s
  | .fwStageCheckDone => Sys2Proof.Machine.execFwStageCheckDone s
  | .fwActivate r v => Sys2Proof.Machine.execFwActivate r v s
  | .activationFirmwareReady => Sys2Proof.Machine.execActivationFirmwareReady s
  | .lcRequestClosed r v => Sys2Proof.Machine.execLcRequestClosed r v s
  | .lcRequestOpen r v => Sys2Proof.Machine.execLcRequestOpen r v s
  | .lcBlowDone got => Sys2Proof.Machine.execLcBlowDone got s
  | .lcWipeDone => Sys2Proof.Machine.execLcWipeDone s
  | .heartbeatWrite => Sys2Proof.Machine.execHeartbeatWrite s
  | .heartbeatIntervalEnd => Sys2Proof.Machine.execHeartbeatIntervalEnd s
  | .hangTimerExpiry ctx queue => Sys2Proof.Machine.execHangTimerExpiry ctx queue s
  | .contextReset r v => Sys2Proof.Machine.execContextReset r v s
  | .quarantineConsent r v => Sys2Proof.Machine.execQuarantineConsent r v s
  | .logModeWrite r v => Sys2Proof.Machine.execLogModeWrite r v s
  | .logClear r v => Sys2Proof.Machine.execLogClear r v s
  | .triggerNow r v => Sys2Proof.Machine.execTriggerNow r v s
  | .logSealedRead r first count => Sys2Proof.Machine.execLogSealedRead r first count s
  | .dumpArm r v => Sys2Proof.Machine.execDumpArm r v s
  | .dumpDisarm r v => Sys2Proof.Machine.execDumpDisarm r v s
  | .firmwareReadyTimeout => Sys2Proof.Machine.execFirmwareReadyTimeout s
  | .refclkReturn => Sys2Proof.Machine.execRefclkReturn s
  | .memCtlRdyRise port credits => Sys2Proof.Machine.execMemCtlRdyRise port credits s
  | .gangLinkUp link => Sys2Proof.Machine.execGangLinkUp link s
  | .portClockResume p => Sys2Proof.Machine.execPortClockResume p s
  | .spdmRequesterResponse port body => Sys2Proof.Machine.execSpdmRequesterResponse port body s

end Sys2Proof.Machine
end

