-- ==== Sys2Proof/Machine/Tick.lean ====
section
/-! DEFINITION. What passes with time when no command waits: one management tick (R14, log entry 40). -/

namespace Sys2Proof.Machine

/-- The shuttle's lease runs down; it stands still while the management island is in reset (R396, R434). -/
def tickShuttle (s : State) : State :=
  if s.seq.mgmtReset || s.shuttle.leaseLeft = 0 then s
  else { s with shuttle.leaseLeft := s.shuttle.leaseLeft - 1 }

/-- Every port sends what waits and may go (R181, R183). -/
def tickLinks (s : State) : State := each (List.range (linkPortsOf s.cfg)) pumpLink s

/-- One management tick: the count advances, the hang timers run (R455, R456), the lease runs down, context resets end
(R459), the ports send. -/
def idleTick (s : State) : State := tickLinks (tickResets (tickShuttle (tickHang { s with tick := s.tick + 1 })))

end Sys2Proof.Machine
end

