-- ==== Sys2Proof/WellFormed.lean ====
section
/-! DEFINITION. Which commands a partner can send at all: port, lane and member numbers that some configuration has
(R6, R74), and operands of the lengths that the ports' formats fix (R55, R65, R69, R211, R371, R419). A command that the
spec itself answers with an error or a count is well formed. -/

namespace Sys2Proof

/-- A port that some configuration has (R6). -/
def PortId.wf : PortId → Bool
  | .mesh n => n < 32
  | .mem n => n < 16
  | .link n => n < 18
  | .gangA | .gangB | .flash => true

/-- A request names one of the eight sessions, or none (R372); the debug region carries sessions only (R423). -/
def OdReq.wf (r : OdReq) : Bool :=
  (match r.sess with | some k => k < 8 | none => true) && !(r.path == .debug && r.sess.isNone)

/-- A unit's ports exist, its class is one of R37 and its cost is positive (R28). -/
def UnitDesc.wf (u : UnitDesc) : Bool := u.ingress.wf && u.egress.wf && u.cls ≤ 5 && 1 ≤ u.cost

/-- A mesh message comes at one of 32 ports, in one of six classes, a byte enable for each byte (R55 to R57). -/
def MeshReq.wf (q : MeshReq) : Bool := q.port < 32 && q.vch < 6 && q.be.length == q.data.length

/-- A pooled line is 64 B with an 8 B tag (R150). -/
def PoolLine.wf (l : PoolLine) : Bool := l.data.length == 64 && l.tag.length == 8

/-- Endpoints have 16 bits, virtual lanes three (R176, R205). -/
def FMsg.wf (m : FMsg) : Bool := m.srcEp < 65536 && m.dstEp < 65536 && m.vl < 8 && m.lines.all PoolLine.wf

def PMsg.wf (m : PMsg) : Bool := m.srcEp < 65536 && m.dstEp < 65536

/-- A packet has a two-bit sequence, a three-bit tag and at most 64 B (R418, R419). -/
def MctpPacket.wf (p : MctpPacket) : Bool := p.src < 256 && p.dst < 256 && p.seq < 4 && p.tag < 8 && p.body.length ≤ 64

/-- A gang frame is made by one of eight members (R74). -/
def GangFrame.wf (f : GangFrame) : Bool := f.src < 8

/-- Messages are at most 16,384 B long (R417). -/
def bodyOk (b : Bytes) : Bool := b.length ≤ 16384

/-- A link flit is 256 B (R69). -/
def flitOk (port : Nat) (fs : List Bytes) : Bool := port < 18 && fs.all fun f => f.length == 256

/-- The well-formed commands. -/
def wellFormed : Instr → Bool
  | .softReset r _ | .mgmtReset r _ | .retentionEnter r | .retentionExit r | .reservedSlotsWrite r _ _ | .rekeyNow r _
  | .linkRelease r _ | .raiseEpochFloor r _ | .userFlashWipe r _ | .pinInvalidate r _ | .kidxBind r _ | .kidxUnbind r _
  | .rawSampleRead r | .memInterleaveWrite r _ | .regionCreate r _ | .regionRelease r _ | .tallyFlush r _
  | .endpointIdWrite r _ | .routeWrite r _ | .trayRegionProvision r _ | .trayRegionReset r _ | .plaitDelete r _
  | .contextCreate r _ | .contextDestroy r _ | .processRelease r _ | .contextResume r _ | .memobjCreate r _
  | .memobjFree r _ | .memobjHostRef r _ | .eventCreate r _ | .eventFree r _ | .eventHostRef r _ | .faultEventWrite r _
  | .queueRestart r _ | .overflowPop r | .patternLoad r _ | .patternDelete r _ | .partitionReset r _
  | .partitionRemove r _ | .sourceWrite r _ | .charterBegin r _ | .charterCommit r _ | .dissolve r _ | .shuttleRevoke r _
  | .purlAbort r _ | .odRead r _ | .odTableRead r _ | .fwStageBegin r _ | .fwStageCommit r _ | .fwActivate r _
  | .lcRequestClosed r _ | .lcRequestOpen r _ | .contextReset r _ | .quarantineConsent r _ | .logModeWrite r _
  | .logClear r _ | .triggerNow r _ | .logSealedRead r _ _ | .dumpArm r _ | .dumpDisarm r _ => r.wf
  | .queueConfigWrite r sub _ => r.wf && [3, 4, 5, 6, 10].contains sub.toNat
  | .linkAdminDown r port | .linkAdminUp r port => r.wf && port < 18
  | .plaitCreate r v | .patternPatch r v | .partitionCreate r v | .sampleNonce r v | .ownerClaim r v | .charterChunk r v
  | .fwStageChunk r v => r.wf && bodyOk v
  | .odWrite r _ data => r.wf && bodyOk data
  | .portClockStop p | .portClockResume p => p.wf
  | .creditReturn p _ _ | .beatWithoutCredit p _ => p.wf
  | .unitAdmit u => u.wf
  | .meshPkgRead q | .meshPkgWrite q | .meshRegisterRequestMalformed q | .meshFabricRead q | .meshFabricWrite q
  | .meshFabricAtomic q | .meshFabricFence q => q.wf
  | .memReadData port _ data _ => port < 16 && data.length % 64 == 0 && data.length ≤ 512
  | .memReadTimeout port _ | .memCtlRdyFall port | .memCtlRdyRise port _ => port < 16
  | .phyUpRise port | .phyUpFall port | .holdRetrain port | .rxFlitBad port | .rxFlitWhileDown port
  | .ctrlFlitSendDue port | .creditGroupSendDue port | .ackTimeoutResend port | .stitchTimeout port
  | .rekeyResendTimeout port | .seedCarryAttempt port => port < 18
  | .idleFlitReceive port f | .clearFlitReceive port f | .ctrlFlitReceive port f => flitOk port [f]
  | .groupReceive port fs => flitOk port fs && !fs.isEmpty
  | .stitchHello port m | .keyShareI port m | .keyShareR port m | .stitchFinish port m | .rekey port m | .rekeyAck port m
  | .seedGetResponse port m | .spdmRequesterResponse port m => port < 18 && bodyOk m
  | .vl0MctpMessage port src dst m => port < 18 && src < 65536 && dst < 65536 && bodyOk m
  | .gangFrameReceive _ f => f.wf
  | .poolRead m | .poolWrite m | .metaRead m | .metaWrite m | .trayAtomic m | .ownRead m | .ownClaim m | .ownCas m
  | .hoOffer m | .hoRelease m | .nopMsg m | .readRsp m | .writeRsp m | .metaReadRsp m | .metaWriteRsp m | .atomicRsp m
  | .ownRsp m | .hoAccept m | .hoRefuse m => m.wf
  | .plUp m | .plDown m | .plCredit m | .plReady m | .plGo m | .plAbort m => m.wf
  | .keyImportQueue k b | .keyImportBounce k b | .partitionBind k b | .sourceConfirm k b | .sourceWithdraw k b
  | .hybridConfirm k b | .sealImport k b | .seedGet k b => k < 8 && bodyOk b
  | .odRequest _ k b => k < 8 && bodyOk b
  | .spdmFinish k sig mac => k < 8 && bodyOk sig && bodyOk mac
  | .endSession k | .securedDecryptFail k => k < 8
  | .keyExchange _ _ dhe elem => bodyOk dhe && bodyOk elem
  | .mctpPacketReceive p => p.wf
  | .fuseProgram word _ => word < 32
  | .powerOn | .resetPin _ | .tamperPin _ | .tamperSensor | .mgmtFirmwareReady | .tamperClear | .startUpRelease _
  | .entropyStartupTestEnd _ | .firmwareMeasurementDone | .firmwareReady | .islandDroop _ _ | .refclkLoss _
  | .refclkRecalibrate | .throttleChange _ | .pfailGlitch _ | .pfailFall | .quiesceComplete | .pfailRise | .holdupArmTimer
  | .pinCacheFillDone | .ticketGrantExpiry _ _ _ | .unitIssue _ | .unitEgress _ | .frameBoundaryApply _
  | .mergeWindowExpire _ | .meshResponse _ _ | .meshRspTimeout _ | .cmarkNopTimeout _ | .cmarkRecoveryTick _
  | .gangRingTimeout | .gangLinkDown _ | .flashDone _ | .i3cDynamicAddress _ | .tapReset | .tapInstructionLoad _ | .debugNop
  | .debugRead _ | .debugHalt | .debugResume | .fuseBlowDone _ | .invalidationSweep _ | .entropyHealthFail _
  | .entropyRetest _ | .trayRetryProbe _ | .spanSwitchIn _ _ | .scrubTick | .remoteTimeout _ | .atomicRetry _
  | .replayEntryExpire _ _ | .handoverOffer _ | .offerTimeout _ | .handoverAccept _ | .acceptWaitExpiry _
  | .handoverResolveRetry _ | .plait _ | .plaitStepTimeout _ | .windowSignal _ _ | .windowReset _ _ | .doorbell _ _ _
  | .descriptorStart | .copy _ | .sealChunks _ | .unsealChunks _ | .bounceIn _ | .bounceOut _ | .atomic _
  | .signal _ | .wait _ | .waitTimeout _ | .nop _ | .dump _ | .descriptorComplete _ | .launch _ | .nodeComplete _
  | .teardownSquash _ | .teardownReseed _ | .statusSnapshot | .sampleReady | .getVersion _ | .getCapabilities _
  | .negotiateAlgorithms _ _ | .getDigests _ | .getCertificate _ _ _ _ | .spdmUnsupported _ _ | .charterCheckDone
  | .shuttleLockRequest _ _ | .shuttleRelease _ _ | .shuttleLeaseExpiry | .shuttleGo _ _ | .shuttleAbort _ _
  | .shuttleJobEnd | .purlSubmit _ _ | .purlGoAbort _ _ | .purlTimeout | .purlJobEnd | .mctpAssemblyTimeout _ _
  | .setEndpointId _ _ _ | .getEndpointId _ | .getMctpVersionSupport _ _ | .getMessageTypeSupport _
  | .mctpUnsupportedCmd _ _ | .mailboxGo _ | .debugMailboxGo _ | .registerWrite _ _ _ | .fwStageCheckDone
  | .activationFirmwareReady | .lcBlowDone _ | .lcWipeDone | .heartbeatWrite | .heartbeatIntervalEnd
  | .hangTimerExpiry _ _ | .firmwareReadyTimeout | .refclkReturn | .gangLinkUp _ => true

end Sys2Proof
end

