-- ==== Sys2Proof/Safety.lean ====
section
/-! DEFINITION. What counts as a safe outcome, and the words in which the statements speak of a command: what it changes,
that it completes, that a request is accepted and answered. -/

namespace Sys2Proof

open Machine

/-- A safe outcome goes on: it is neither a fault nor a refusal. -/
def Safe (o : Host.Outcome State Fault Refusal) : Prop := ∃ t, o = .next t

/-- The fields of a block's state. -/
inductive Field where
  | cfg | pins | seq | always | power | tap | fuses | flash | fw | lc | keys | dict | recovery | log | dumps | tension
  | parts | sources | domain | gang | shuttle | purl | ports | tally | fabric | links | plaits | host | patterns
  | interval | od | tick | out | pending | free
deriving DecidableEq, Repr

/-- Two states agree on a field. -/
def Field.same (s t : State) : Field → Prop
  | .cfg => t.cfg = s.cfg
  | .pins => t.pins = s.pins
  | .seq => t.seq = s.seq
  | .always => t.always = s.always
  | .power => t.power = s.power
  | .tap => t.tap = s.tap
  | .fuses => t.fuses = s.fuses
  | .flash => t.flash = s.flash
  | .fw => t.fw = s.fw
  | .lc => t.lc = s.lc
  | .keys => t.keys = s.keys
  | .dict => t.dict = s.dict
  | .recovery => t.recovery = s.recovery
  | .log => t.log = s.log
  | .dumps => t.dumps = s.dumps
  | .tension => t.tension = s.tension
  | .parts => t.parts = s.parts
  | .sources => t.sources = s.sources
  | .domain => t.domain = s.domain
  | .gang => t.gang = s.gang
  | .shuttle => t.shuttle = s.shuttle
  | .purl => t.purl = s.purl
  | .ports => t.ports = s.ports
  | .tally => t.tally = s.tally
  | .fabric => t.fabric = s.fabric
  | .links => t.links = s.links
  | .plaits => t.plaits = s.plaits
  | .host => t.host = s.host
  | .patterns => t.patterns = s.patterns
  | .interval => t.interval = s.interval
  | .od => t.od = s.od
  | .tick => t.tick = s.tick
  | .out => t.out = s.out
  | .pending => t.pending = s.pending
  | .free => t.free = s.free

/-- Nothing but the listed fields changes. -/
def OnlyChanges (fs : List Field) (s t : State) : Prop := ∀ f, f ∉ fs → f.same s t

/-- The listed fields keep their values. -/
def Keeps (fs : List Field) (s t : State) : Prop := ∀ f ∈ fs, f.same s t

/-- Every stored object but the listed ones keeps its value. -/
def OdKept (ks : List Nat) (s t : State) : Prop := ∀ k, k ∉ ks → tget t.od k = tget s.od k

/-- The command completes: `exec` answers a next state, of which `P` holds, and nothing but the listed fields has
changed. -/
def Completes (c : Instr) (s : State) (fs : List Field) (P : State → Prop) : Prop :=
  ∃ t, exec c s = .next t ∧ P t ∧ OnlyChanges fs s t

/-- Something has been handed over at a port on the way from `s` to `t`. -/
def Tells (x : Out) (s t : State) : Prop := ∃ pre post, t.out = pre ++ x :: (post ++ s.out)

/-- A dictionary request has been answered with an abort code (0 for none) and data (R416). -/
def Answers (r : OdReq) (op idx sub abort : Nat) (data : Bytes) (s t : State) : Prop :=
  ∃ ty rows total, Tells (.od r (op + 0x80) ty idx sub abort rows total data) s t

/-- A WRITE passes the checks of R414 that come before those of its owning rule. -/
@[reducible] def Accepts (r : OdReq) (idx sub : Nat) (data : Bytes) (s : State) : Prop :=
  pathUp s r = true ∧ writeGate s r idx sub data = 0

/-- What the answer to a dictionary request may change: the engine's counters, its queues and mailboxes, the link or mesh
port that the answer leaves by, the model's record of outputs and its counter of free values. -/
def answerFields : List Field := [.od, .out, .dict, .ports, .links, .free]

/-- Objects 0xB0A0.01 to .03, which every answer may advance. -/
def answerObjs : List Nat := [obj 0xB0A0 1, obj 0xB0A0 2, obj 0xB0A0 3]

/-- The WRITE completes: it is answered without abort, `P` holds of the next state, and beside the listed fields and
objects only what every answer changes has changed. -/
def Writes (c : Instr) (s : State) (r : OdReq) (idx sub : Nat) (fs : List Field) (ks : List Nat) (P : State → Prop) :
    Prop :=
  ∃ t, exec c s = .next t ∧ Answers r 2 idx sub 0 [] s t ∧ P t ∧ OnlyChanges (fs ++ answerFields) s t ∧
    OdKept (ks ++ answerObjs) s t

/-- Nothing waits that an event could let go on: no request or unit at the boundary, no message for credits, no fabric
request outstanding, no offer of a hand-over, no plait, no descriptor. -/
@[reducible] def Calm (s : State) : Prop :=
  s.ports.inReqs = [] ∧ s.ports.heldReqs = [] ∧ s.ports.waitOut = [] ∧ s.ports.merge = [] ∧ s.tension.held = [] ∧
  s.fabric.out = [] ∧ s.fabric.offers = [] ∧ s.fabric.offerTable = [] ∧ s.plaits = [] ∧ s.host.descs = [] ∧
  s.host.xfers = []

/-- The command names a port, link, island or pillow that the configuration does not have (R6, R51). -/
def namesAbsent (s : State) : Instr → Bool
  | .islandDroop i _ => decide (islandsOf s.cfg ≤ i)
  | .portClockStop p | .portClockResume p | .creditReturn p _ _ | .beatWithoutCredit p _ => !portExists s p
  | .unitAdmit u => !unitPorts s u
  | .ticketGrantExpiry _ _ k | .frameBoundaryApply k => decide (pillowsOf s.cfg ≤ k)
  | .meshPkgRead q | .meshPkgWrite q | .meshRegisterRequestMalformed q | .meshFabricRead q | .meshFabricWrite q
  | .meshFabricAtomic q | .meshFabricFence q => decide (meshPortsOf s.cfg ≤ q.port)
  | .memReadData n _ _ _ | .memReadTimeout n _ | .memCtlRdyFall n | .memCtlRdyRise n _ =>
    decide (memPortsOf s.cfg ≤ n)
  | .phyUpRise n | .phyUpFall n | .holdRetrain n | .rxFlitBad n | .rxFlitWhileDown n | .idleFlitReceive n _
  | .clearFlitReceive n _ | .ctrlFlitReceive n _ | .groupReceive n _ | .ctrlFlitSendDue n | .creditGroupSendDue n
  | .ackTimeoutResend n | .stitchHello n _ | .keyShareI n _ | .keyShareR n _ | .stitchFinish n _ | .stitchTimeout n
  | .rekey n _ | .rekeyAck n _ | .rekeyResendTimeout n | .vl0MctpMessage n _ _ _ => decide (linkPortsOf s.cfg ≤ n)
  | _ => false

/-- A mesh request arrives at an enabled port under its credits, keeps the header's rules, reuses no tag and finds nothing
held before it in its class, and tension is open (R38, R39, R53 to R59). -/
@[reducible] def Arrives (q : MeshReq) (s : State) : Prop :=
  q.port < meshPortsOf s.cfg ∧ underCredit s q = true ∧ meshWellFormed q = true ∧ tagReused s q = false ∧
  (s.ports.heldReqs.any fun x => x.port == q.port && x.vch == q.vch) = false ∧ s.tension.closed = false

/-- An answer of some beats goes out on class 0 of a mesh port at once. -/
@[reducible] def AnswerGoes (p beats : Nat) (s : State) : Prop :=
  portUp s (.mesh p) = true ∧ beats ≤ creditOf s.ports.owned (.mesh p) 0 ∧ s.ports.waitOut = []

/-- Nothing holds a request to a pooled region back (R38, R162, R165, R214, R224 to R226): it is not flagged, its path is
resident, its pin cached, no line of it is being written, and tags, sources and bookings suffice. -/
def PoolFree (q : MeshReq) (slot : Nat) (reg : Region) (s : State) : Prop :=
  poolBar s q = stDone ∧ (∃ off, poolTarget s (mhdrOf q) = some (slot, reg, off)) ∧ (mhdrOf q).flag = false ∧
  sourceRoom s (mhdrOf q).src ((attributed s (mhdrOf q).src (mhdrOf q).pasidV).getD 64) = true ∧ portFull s q = false ∧
  cached s (pinHandle reg.pin reg.pinGen) = true ∧ s.fabric.out.length + tagNeed q ≤ 65536 ∧
  missingLeaves s slot q = [] ∧ nodesBooked s + levelsOf reg.sizeLog2 * (poolLeaves q).length ≤ 8192 ∧
  (∀ i ∈ poolTouched q, lineBusy s slot (poolLine q + i) = false)

/-- A column of LINK_COUNTERS of a port (R203). -/
def linkCounter (s : State) (p k : Nat) : Nat := nth (linkAt s p).counters k 0

/-- The other link flit ports stay as they are. -/
@[reducible] def OtherLinks (p : Nat) (s t : State) : Prop := ∀ j, j ≠ p → linkAt t j = linkAt s j

/-- A port whose physical layer is up, with whole counters, on which nothing waits and no re-key runs. -/
@[reducible] def LinkQuiet (p : Nat) (s : State) : Prop :=
  p < linkPortsOf s.cfg ∧ (linkAt s p).phyEn = true ∧ (linkAt s p).phyUp = true ∧ (linkAt s p).counters.length = 20 ∧
  (linkAt s p).credits.length = 8 ∧ (linkAt s p).partnerCredits.length = 8 ∧ (linkAt s p).owe.length = 8 ∧
  (linkAt s p).queue = [] ∧ (linkAt s p).rekey = none

/-- The state of the block at a whole-block reset of a cause (R430, R432, R433): every island cleared, the fuse array, the
flash window and the always-on registers kept, start-up at step 0. -/
def ResetBy (cause : Nat) (s t : State) : Prop :=
  t.always.lastResetCause = cause ∧ t.always.startCount = (s.always.startCount + 1) % 2 ^ 32 ∧
  t.seq.phase = 0 ∧ t.seq.basting = 0 ∧ t.seq.mgmtReset = true ∧
  t.keys = Keys.reset ∧ t.dict = Dict.reset ∧ t.parts = [] ∧ t.host = HostCh.reset ∧ t.domain = Domain.reset ∧
  t.links = Links.reset ∧ t.fabric = Fabric.reset ∧ t.tally = Tally.reset ∧ t.tension = Tension.reset ∧
  t.plaits = [] ∧ t.patterns = Patterns.reset ∧ t.ports = Ports.reset ∧ t.od = [] ∧
  t.fuses.words = s.fuses.words ∧ t.fuses.root = [] ∧ t.flash.slots = s.flash.slots ∧ t.flash.user = s.flash.user ∧
  t.flash.reqs = []

/-- What handing a message to a link flit port may change: the port and its keys, what a re-key drops, the log, the
model's record of outputs and its counter of free values. -/
def sendFields : List Field := [.keys, .log, .tension, .tally, .links, .od, .out, .free]

/-- Nothing waits for a fabric event: no request held at the boundary, no line ready to be written, no hand-over. -/
@[reducible] def Settled (s : State) : Prop :=
  s.ports.heldReqs = [] ∧ (∀ e ∈ s.ports.inReqs, e.2.ready = []) ∧ s.fabric.offers = [] ∧ s.fabric.offerTable = []

/-- A fabric message of one type is for this block and keeps the rules of R210 to R212. -/
@[reducible] def FabArrives (m : FMsg) (msg : Nat) (s : State) : Prop :=
  running s = true ∧ m.dstEp = ownEndpoint s ∧ (fhdrOf m.hdr).msg = msg ∧ msgOk m = true

/-- A fabric message has been answered on a port (R211, R212): on VL2 to its sender, its TAG and SEQ echoed. -/
def FabTold (p : Nat) (m : FMsg) (rsp status : Nat) (poison : Bool) (body : Bytes) (lines : List PoolLine)
    (s t : State) : Prop :=
  ∃ a, Tells (.fabric p a) s t ∧ a.srcEp = ownEndpoint s ∧ a.dstEp = m.srcEp ∧ a.vl = 2 ∧ a.body = body ∧
    a.lines = lines ∧ (fhdrOf a.hdr).msg = rsp ∧ (fhdrOf a.hdr).tag = (fhdrOf m.hdr).tag ∧
    (fhdrOf a.hdr).seq = (fhdrOf m.hdr).seq ∧ (fhdrOf a.hdr).status = status ∧ (fhdrOf a.hdr).poison = bit poison

/-- A fabric message has been answered with a status on some port with some body. -/
def FabRefused (p : Nat) (m : FMsg) (rsp status : Nat) (s t : State) : Prop :=
  ∃ poison body, FabTold p m rsp status poison body [] s t

/-- Tray memory keeps every byte but those at some addresses. -/
def TrayKept (at_ : Nat → Bool) (s t : State) : Prop :=
  ∀ a, at_ a = false → Memory.read t.fabric.tray.mem a = Memory.read s.fabric.tray.mem a

/-- A response has found its request, its region has the INC that is known, and no fence of a source waits. -/
@[reducible] def RspFinds (m : FMsg) (tag : Nat) (q : FabReq) (s : State) : Prop :=
  matchRsp m s = some (tag, q) ∧ (fhdrOf m.hdr).status ≠ stPeerGone ∧ Settled s ∧
  (∀ e ∈ s.fabric.sources, e.fences = [])

/-- A region whose trays answer under the INC that it knows. -/
@[reducible] def SameInc (r : Region) (m : FMsg) : Prop :=
  (r.trayInc = none ∨ r.trayInc = some (fhdrOf m.hdr).inc ∨ m.srcEp ≠ r.primaryEp) ∧ mirrored r = false

/-- The rows of the messages that a tray executes, with their types (R212). -/
def trayRows (m : FMsg) : List (Nat × Instr) :=
  [(0x01, .poolRead m), (0x02, .poolWrite m), (0x03, .metaRead m), (0x04, .metaWrite m), (0x05, .trayAtomic m),
   (0x08, .ownRead m), (0x09, .ownClaim m), (0x0A, .ownCas m)]

/-- The rows of the responses to the requester's own messages. -/
def rspRows (m : FMsg) : List (Nat × Instr) :=
  [(0x81, .readRsp m), (0x82, .writeRsp m), (0x83, .metaReadRsp m), (0x84, .metaWriteRsp m), (0x85, .atomicRsp m),
   (0x88, .ownRsp m), (0x8C, .hoAccept m), (0x8E, .hoRefuse m)]

/-- Every row of a fabric message. -/
def fabRows (m : FMsg) : List (Nat × Instr) :=
  trayRows m ++ rspRows m ++ [(0x0C, .hoOffer m), (0x0D, .hoRelease m), (0x0F, .nopMsg m)]

/-- A request that the tray answers on a port and has not executed before (R223, R232): its region record passes the
checks. -/
@[reducible] def TrayAsked (p msg : Nat) (m : FMsg) (t : TrayRegion) (s : State) : Prop :=
  FabArrives m msg s ∧ profile s = 2 ∧ pickPort s m.srcEp (fhdrOf m.hdr).tag false = some p ∧
  trayRegion s (addrRegion (fhdrOf m.hdr).addr) = some t ∧ trayCheck s m (fhdrOf m.hdr) = none

/-- What a replay set holds for a request, if anything (R232). -/
def replayed (s : State) (m : FMsg) : Option Replay :=
  ((tget s.fabric.tray.replay m.srcEp).getD []).find? fun e => e.tag == (fhdrOf m.hdr).tag && e.seq == (fhdrOf m.hdr).seq

/-- Sending two more groups on a port starts no re-key (R201), and nothing waits before them. -/
@[reducible] def NoRekey (p : Nat) (s : State) : Prop :=
  (linkAt s p).rekey = none ∧ (linkAt s p).queue = [] ∧
  ∀ e, txSeq (linkAt s p) = some e →
    e.txGroup + 2 + 2 ^ 20 < setting s 0x4000 1 ∧ e.txCtrl + 2 ^ 20 < setting s 0x4000 1

/-- The rows of the plait messages, with their types (R264). -/
def plRows (m : PMsg) : List (Nat × Instr) :=
  [(0x21, .plUp m), (0x22, .plDown m), (0x23, .plCredit m), (0x24, .plReady m), (0x25, .plGo m), (0x26, .plAbort m)]

/-- A plait message of a type for the running step of a record, from the right neighbour and in good form (R265). -/
@[reducible] def PlArrives (m : PMsg) (pm : Nat) (p : Plait) (x : PStep) (s : State) : Prop :=
  running s = true ∧ m.dstEp = ownEndpoint s ∧ (phdrOf m.hdr).pmsg = pm ∧ s.recovery.quarantined = false ∧
  plaitAt s (phdrOf m.hdr).id = some p ∧ p.run = some x ∧ x.step = (phdrOf m.hdr).step ∧
  x.join = (phdrOf m.hdr).join ∧ plDirection (plRec p.bytes) m = true ∧ plMsgOk (plRec p.bytes) m = true

/-- The command is one turn of a transfer: what the transfer now asks for is as `P` says, and it makes its next access. -/
def Turns (c : Instr) (job : Nat) (s : State) (P : XferRun → Prop) : Prop :=
  ∃ u y, exec c s = .next (nextAccess job u) ∧ tget u.host.xfers job = some y ∧ P y ∧ OnlyChanges [.host] s u

/-- An SPDM request has been answered: response code and the bytes from PARAM1 on; nothing but what every answer changes, and
some objects, has changed. -/
def SpdmAnswers (c : Instr) (path : OdPath) (code : Nat) (body : Bytes) (ks : List Nat) (s : State) : Prop :=
  ∃ t, exec c s = .next t ∧ Tells (.spdm path code body) s t ∧ OnlyChanges answerFields s t ∧ OdKept ks s t

/-- A secured request has been answered with a status and a body, `P` holds of the next state, and beside the listed fields
and objects only what every answer changes has changed. -/
def SecuredAnswers (c : Instr) (k st : Nat) (body : Bytes) (fs : List Field) (ks : List Nat) (s : State)
    (P : State → Prop) : Prop :=
  ∃ t, exec c s = .next t ∧ Tells (.secured k st body) s t ∧ P t ∧ OnlyChanges (fs ++ answerFields) s t ∧ OdKept ks s t

/-- A refused dictionary write: answered with an abort, and nothing but what every answer changes has changed (R414). -/
def WriteRefused (c : Instr) (s : State) (r : OdReq) (idx sub abort : Nat) : Prop :=
  ∃ t, exec c s = .next t ∧ Answers r 2 idx sub abort [] s t ∧ OnlyChanges answerFields s t ∧ OdKept answerObjs s t

/-- The form that every step keeps: tray memory is canonical (addresses rising, no cell with the unlisted value), and what has
a bound keeps it: the log 65,536 records (R474), CERT_STORE 16 (R363), the recovery records 8 (R465), message assemblies 8
(R419), the queues of the I3C and VL0 paths 16 (R426). -/
def KeepsForm (s : State) : Prop :=
  Memory.wf s.fabric.tray.mem = true ∧ s.log.recs.length ≤ 65536 ∧ s.domain.store.length ≤ 16 ∧
  s.recovery.records.length ≤ 8 ∧ s.dict.asm.length ≤ 8 ∧ s.dict.i3cQ.length ≤ 16 ∧ s.dict.vl0Q.length ≤ 16

end Sys2Proof
end

