-- ==== Sys2Proof/Certificates/Slice0/Obligations.lean ====
section
/-! DEFINITION. The statements about the model. Each names the rules of spec/ it rests on; what rests on a choice of the
model says so. -/

open Sys2Proof Sys2Proof.Machine

/-! ### The queue and time (log entry 40) -/

/-- A step carries out the command at the front of the queue on the block with the queue's rest. -/
def Obligations.StepRunsFront : Prop :=
  ∀ (c : Instr) (rest : List Instr) (s : State),
    step { s with pending := c :: rest } = exec c { s with pending := rest }

/-- On an empty queue one management tick passes: the model's choice (log entry 40). The lease of the shuttle lock runs
down unless the management island is in reset (R396, R434); nothing of the supply, the fuses, the flash window, the
firmware, the life cycle or the domain changes. -/
def Obligations.IdleTick : Prop :=
  ∀ s : State, s.pending = [] →
    ∃ t, step s = .next t ∧ t.tick = s.tick + 1 ∧
      Keeps [.cfg, .pins, .seq, .power, .tap, .fuses, .flash, .fw, .lc, .dumps, .sources, .domain, .gang, .interval,
             .pending] s t

/-- Every command is answered with a next state, but for one at a port, link, island or pillow that the configuration does
not have (R6, R51): no such pin exists, and that is the one fault. Nothing is refused. -/
def Obligations.EveryCommandAnswers : Prop :=
  ∀ (c : Instr) (s : State),
    (namesAbsent s c = true → exec c s = .fault .noSuchPort) ∧
    (namesAbsent s c = false → ∃ t, exec c s = .next t)

/-! ### Resets and start-up (R430 to R439) -/

/-- What reset leaves (R432, R434 and the Reset columns of the registers and objects): START_COUNT and LAST_RESET_CAUSE
read 1, start-up has not begun, the engines and every table are empty, and settings hold their defaults. -/
def Obligations.ResetState : Prop :=
  State.reset.always = { lastResetCause := 1, startCount := 1, failedStarts := 0, tamperEvents := 0, quarantined := false } ∧
  State.reset.seq.phase = 0 ∧ State.reset.seq.mgmtReset = true ∧ State.reset.power.puEn = 0x3F ∧
  State.reset.power.enabled = [] ∧ State.reset.parts = [] ∧ State.reset.host = HostCh.reset ∧
  State.reset.keys.pins = [] ∧ State.reset.tally.regions = [] ∧ State.reset.links.ports = [] ∧
  State.reset.pending = [] ∧ setting State.reset 0x7002 1 = 10000 ∧ setting State.reset 0x5000 2 = 20000 ∧
  setting State.reset 0x3000 1 = 4032 ∧ setting State.reset 0xA020 3 = 0x0F ∧ setting State.reset 0xB0A0 1 = 0

/-- Whole-block resets (R82, R83, R90, R430 to R433, R441, R452): power-on clears the always-on registers and begins the count
of ticks anew; every other source resets the whole block with its own cause; a tamper is counted and holds start-up; a reset
that is asked for during the blow of a life-cycle group waits for it. SOFT_RESET is not answered (log entry 29). -/
def Obligations.WholeResets : Prop :=
  (∀ s : State, ∃ t, exec .powerOn s = .next t ∧
     t.always = { lastResetCause := 1, startCount := 1, failedStarts := 0, tamperEvents := 0, quarantined := false } ∧
     t.seq.phase = 0 ∧ t.seq.held = !s.power.refclk ∧ t.tick = 0 ∧ t.tap.sel = 0 ∧ t.keys = Keys.reset ∧ t.parts = [] ∧
     t.host = HostCh.reset ∧ t.od = [] ∧ t.flash.user = s.flash.user ∧ t.flash.slots = s.flash.slots ∧
     t.power.holdupArmed = false ∧ (s.lc.progress ≠ 2 → t.fuses.words = s.fuses.words) ∧ Keeps [.cfg, .pending] s t) ∧
  (∀ s : State, s.lc.progress ≠ 2 →
     (∀ n, 4 ≤ n → ∃ t, exec (.resetPin n) s = .next t ∧ ResetBy 2 s t ∧ Keeps [.cfg, .tap, .tick, .out, .pending, .free] s t) ∧
     (∀ n, 2 ≤ n → s.seq.tamperHold = false → ∃ t, exec (.tamperPin n) s = .next t ∧ ResetBy 4 s t ∧
       t.seq.tamperHold = true ∧ t.always.tamperEvents = s.always.tamperEvents + 1 ∧
       Keeps [.cfg, .tap, .tick, .out, .pending, .free] s t) ∧
     (s.seq.tamperHold = false → ∃ t, exec .tamperSensor s = .next t ∧ ResetBy 5 s t ∧
       t.seq.tamperHold = true ∧ t.always.tamperEvents = s.always.tamperEvents + 1 ∧
       Keeps [.cfg, .tap, .tick, .out, .pending, .free] s t) ∧
     (∀ r, Accepts r 0x9001 1 (le 2 0x5253) s → (s.recovery.quarantined = false ∨ s.recovery.consent = true) →
       ∃ t, exec (.softReset r 0x5253) s = .next t ∧ ResetBy 3 s t ∧ Keeps [.cfg, .tap, .tick, .out, .pending, .free] s t)) ∧
  (∀ s : State, s.lc.progress = 2 →
     (∀ n, 4 ≤ n → Completes (.resetPin n) s [.seq] fun t => t.seq.deferred = s.seq.deferred.or (some 2)) ∧
     (s.seq.tamperHold = false → Completes .tamperSensor s [.seq] fun t => t.seq.deferred = s.seq.deferred.or (some 5)))

/-- A management reset ends every session and what the engine was doing; what is configured stays (R372, R425, R434). The
end of a tamper condition lets start-up begin (R441). -/
def Obligations.ManagementReset : Prop :=
  ∀ s : State,
    (∀ r, Accepts r 0x9001 2 (le 2 0x4D52) s → Completes (.mgmtReset r 0x4D52) s
        [.seq, .keys, .dict, .recovery, .tension, .parts, .domain, .tally, .links, .od, .out, .free] fun t =>
      t.seq.mgmtReset = (!basting s) ∧ t.seq.lastMgmtCause = 2 ∧ t.seq.phase = s.seq.phase ∧ t.domain.sessions = [] ∧
      t.dict.i3cQ = [] ∧ t.dict.mailQ = [] ∧ t.dict.mailbox.state = 0 ∧ t.recovery.hbRunning = false ∧
      t.domain.charter = s.domain.charter ∧ t.domain.state = s.domain.state) ∧
    (s.seq.mgmtReset = true → 8 ≤ s.seq.phase → s.fw.step = 0 → basting s = false → ∃ t,
      exec .mgmtFirmwareReady s = .next t ∧
      (imageMeasure (slotAt s s.fw.active).image = s.keys.fwMeasurement → t.seq.mgmtReset = false ∧
        t.recovery.hbRunning = true ∧ t.recovery.hbMisses = 0 ∧ OnlyChanges [.seq, .recovery] s t) ∧
      (imageMeasure (slotAt s s.fw.active).image ≠ s.keys.fwMeasurement → s.always.failedStarts < 2 →
        ResetBy 7 s t ∧ t.always.failedStarts = s.always.failedStarts + 1)) ∧
    Completes .tamperClear s [.seq] (fun t => t.seq.tamperHold = false ∧ t.seq.phase = s.seq.phase)

/-- Start-up (R80, R101, R136, R435): the release samples the static inputs and senses the fuses; a passed start-up test
makes the entropy source OK and both generators serve, a failed one makes it FAILED; the measured image runs; the
firmware's report opens the ports, or in a panel the exchange. -/
def Obligations.StartUp : Prop :=
  ∀ s : State,
    (∀ pins, s.seq.phase = 0 → s.seq.held = false → s.power.refclk = true → s.seq.tamperHold = false → ∃ t,
      exec (.startUpRelease pins) s = .next t ∧
      (pins.profile = 3 → t.seq.basting = 2) ∧
      (pins.profile ≠ 3 → (lcGroups (plainFuse s 6)).isNone = true → t.seq.basting = 4) ∧
      (pins.profile ≠ 3 → (lcGroups (plainFuse s 6)).isSome = true →
        (rootFinding { s with pins := pins } false ≤ 1 →
          t.pins = pins ∧ t.seq.phase = 4 ∧ t.fuses.lcWord = plainFuse s 6 ∧ t.fuses.root = sensedRoot s ∧
          (pinAt t 0).state = 1 ∧ t.power.puEn = 0x27 ∧ t.dict.i3cAddr = pins.i3cSa.toNat ∧
          OnlyChanges [.pins, .seq, .power, .fuses, .keys, .dict] s t) ∧
        (rootFinding { s with pins := pins } false = 4 → t.seq.basting = 3 ∧ t.fuses.rootState = 4 ∧ t.fuses.root = []) ∧
        (rootFinding { s with pins := pins } false = 2 → s.always.failedStarts < 2 →
          t.always.failedStarts = s.always.failedStarts + 1 ∧ t.always.lastResetCause = 7))) ∧
    (∀ raw, s.keys.entropy = 0 → 4 ≤ s.seq.phase → rctFails raw = false → aptFails raw = false →
      Completes (.entropyStartupTestEnd raw) s [.seq, .keys] fun t =>
        t.keys.entropy = 1 ∧ t.keys.keyDrbg.live = true ∧ t.keys.roundDrbg.live = true ∧ t.seq.phase = 5) ∧
    (∀ raw, s.keys.entropy = 0 → 4 ≤ s.seq.phase → rctFails raw = true →
      Completes (.entropyStartupTestEnd raw) s [.seq, .keys, .od] fun t =>
        t.keys.entropy = 2 ∧ setting t 0x2030 2 = setting s 0x2030 2 + 1) ∧
    (s.seq.phase = 5 → basting s = false → ∃ t, exec .firmwareMeasurementDone s = .next t ∧
      (∀ k rest, (slotOrder s).filter (fun k => !s.seq.tried.contains k) = k :: rest → slotPasses s k = true →
        t.seq.phase = 7 ∧ t.seq.measured = true ∧ t.fw.active = k ∧
        t.keys.fwMeasurement = imageMeasure (slotAt s k).image) ∧
      (∀ k rest, (slotOrder s).filter (fun k => !s.seq.tried.contains k) = k :: rest → slotPasses s k = false →
        rest ≠ [] → t.seq.phase = 5 ∧ t.seq.tried = s.seq.tried ++ [k] ∧ OnlyChanges [.seq, .fw] s t) ∧
      ((slotOrder s).filter (fun k => !s.seq.tried.contains k) = [] → s.always.failedStarts < 2 →
        ResetBy 7 s t ∧ t.always.failedStarts = s.always.failedStarts + 1)) ∧
    (s.seq.phase = 7 → basting s = false → Completes .firmwareReady s
        [.seq, .always, .power, .fw, .keys, .recovery, .log, .tension, .domain, .gang, .ports, .tally, .fabric, .links,
         .host, .od, .out, .free] fun t =>
      t.seq.mgmtReset = false ∧ t.fw.aliasIssued = true ∧ t.recovery.hbRunning = true ∧
      (panelSize s = 1 → t.seq.phase = 10 ∧ t.always.failedStarts = 0) ∧ (panelSize s ≠ 1 → t.seq.phase = 9))

/-- Power and clocks (R30, R87, R92 to R96): a droop, a throttle and a stopped clock change the named register; a glitch of
KZ_PFAIL_N is counted; a fall zeroises the caches and the sensed root and starts the quiesce, which ends with every port
disabled; 100,000 ticks high arm the hold-up; retention is entered only when the block is idle, and in it no port but a
panel's gang links is enabled. -/
def Obligations.PowerAndClocks : Prop :=
  (∀ s : State,
     (∀ n, 1 ≤ n → n < 3 → s.power.pfailLow = false → Completes (.pfailGlitch n) s [.power, .od] fun t =>
       setting t 0x9004 4 = setting s 0x9004 4 + 1 ∧ t.power.holdupArmed = s.power.holdupArmed ∧
       t.power.pfailLow = false ∧ OdKept [obj 0x9004 4] s t) ∧
     (s.power.pfailLow = false → s.power.quiescing = false → s.power.quiesced = false →
       Completes .pfailFall s [.power, .fuses, .flash, .lc, .keys, .tension, .tally, .od, .out] fun t =>
         t.power.pfailLow = true ∧ t.power.holdupArmed = false ∧ t.power.quiescing = true ∧ t.fuses.root = [] ∧
         t.keys.cache = [] ∧ t.tension.scratch = [] ∧ t.tension.roundKeys = [] ∧ t.tally.nodes = [] ∧
         t.tension.closed = true ∧ t.fuses.words = s.fuses.words ∧ t.flash.user = s.flash.user) ∧
     (s.power.quiescing = true → s.fuses.blow = none → s.lc.progress ≠ 2 → (∀ q ∈ s.flash.reqs, q.op ≠ 1) →
       Completes .quiesceComplete s [.power, .ports, .links] fun t =>
         t.power.quiesced = true ∧ t.power.quiescing = false ∧
         (∀ p, p < linkPortsOf s.cfg → (linkAt t p).state = 0 ∧ (linkAt t p).phyEn = false) ∧
         ∀ p, portExists s p = true → portUp t p = false) ∧
     (s.power.pfailLow = true → Completes .pfailRise s [.power] fun t =>
       t.power.pfailLow = false ∧ t.power.pfailHighSince = s.tick ∧ t.power.quiesced = s.power.quiesced) ∧
     (s.power.pfailLow = false → s.power.pfailHighSince + 100000 ≤ s.tick → Completes .holdupArmTimer s [.power] fun t =>
       t.power.holdupArmed = true)) ∧
  (∀ s : State,
     (∀ i v, i < islandsOf s.cfg → Completes (.islandDroop i v) s [.power] fun t =>
       tget t.power.period i = some (Nat.max 1000 (Nat.min 1250 v)) ∧ t.power.enabled = s.power.enabled) ∧
     (∀ p, portExists s p = true → Completes (.portClockStop p) s [.power] fun t =>
       p ∈ t.power.stopped ∧ t.power.enabled = s.power.enabled) ∧
     (∀ p, portExists s p = true → Completes (.portClockResume p) s
         [.power, .keys, .log, .tension, .ports, .tally, .fabric, .links, .host, .od, .out, .free] fun t =>
       p ∉ t.power.stopped ∧ t.power.enabled = s.power.enabled) ∧
     (∀ n, 4 ≤ n → Completes (.refclkLoss n) s [.power] fun t => t.power.refclk = false) ∧
     (Completes .refclkReturn s [.power, .seq] fun t => t.power.refclk = true ∧ t.seq.held = false ∧ t.seq.phase = s.seq.phase) ∧
     (s.power.refclk = true → Completes .refclkRecalibrate s [.power] fun t =>
       t.power.recalibrations = s.power.recalibrations + 1) ∧
     (∀ v, Completes (.throttleChange v) s [.power, .keys, .log, .tension, .tally, .fabric, .links, .od, .out, .free]
       fun t => t.power.throttle = v.toNat)) ∧
  (∀ (s : State) (r : OdReq), follower s = false →
     (Accepts r 0x9030 1 [1] s → (s.power.retention = true ∨ idleForRetention s = true) →
       Writes (.retentionEnter r) s r 0x9030 1
         [.power, .keys, .log, .tension, .gang, .shuttle, .tally, .fabric, .host] [obj 0xB090 1, obj 0xB090 3] fun t =>
         t.power.retention = true ∧
         (s.power.retention = false → t.tension.scratch = [] ∧ t.tally.nodes = [] ∧
           ∀ p, portExists s p = true → p ≠ .gangA → p ≠ .gangB → p ∉ t.power.enabled)) ∧
     (Accepts r 0x9030 1 [0] s → ∃ t, exec (.retentionExit r) s = .next t ∧ Answers r 2 0x9030 1 0 [] s t ∧
       t.power.retention = false ∧
       OnlyChanges ([.power, .keys, .log, .tension, .gang, .shuttle, .tally, .fabric, .host] ++ answerFields) s t))


/-! ### Contexts, queues, memory objects, events, descriptors (R278 to R315, R333, R346) -/

/-- Contexts and queues (R281, R288, R294 to R297, R299, R309, R312, R313): a creation takes the lowest free context of the
partition's allotment; a destroyed or released one is FREE; a faulted one resumes; the overflow ring gives its oldest slot;
queue settings change while the queue is IDLE; a HALTED queue restarts; a doorbell sets PRODUCER; a key import arms its
queue or takes a bounce key. -/
def Obligations.ContextsAndQueues : Prop :=
  ∀ s : State,
    (∀ (r : OdReq) (v : BitVec 128), Accepts r 0x7101 1 (le 16 v.toNat) s → fld v.toNat 6 2 = 0 → fld v.toNat 28 4 = 0 →
      fld v.toNat 64 64 = 0 → fld v.toNat 0 6 < partitionsOf s.cfg →
      (s.recovery.quarantined = true → WriteRefused (.contextCreate r v) s r 0x7101 1 abState) ∧
      (∀ pp x c, s.recovery.quarantined = false → partPin s (fld v.toNat 0 6) = some pp →
        tget s.parts (fld v.toNat 0 6) = some x → lowestSuch (fun c => ctxState s c == 0) x.ctxCount x.ctxBase = some c →
        Writes (.contextCreate r v) s r 0x7101 1 [.host] [] fun t =>
          ctxAt t c = some (newCtx (fld v.toNat 0 6) (fld v.toNat 8 20) (fld v.toNat 32 32)) ∧
          (∀ j, j ≠ c → ctxAt t j = ctxAt s j) ∧ t.host.queues = s.host.queues ∧ t.host.events = s.host.events)) ∧
    (∀ (r : OdReq) (v : BitVec 16), Accepts r 0x7101 2 (le 2 v.toNat) s → v.toNat < contextsOf s.cfg →
      (ctxState s v.toNat ≠ 1 → ctxState s v.toNat ≠ 2 → WriteRefused (.contextDestroy r v) s r 0x7101 2 abState) ∧
      (ctxState s v.toNat = 1 ∨ ctxState s v.toNat = 2 → ∃ t, exec (.contextDestroy r v) s = .next t ∧
        Answers r 2 0x7101 2 0 [] s t ∧ ctxAt t v.toNat = none ∧
        Keeps [.cfg, .pins, .seq, .always, .power, .fuses, .flash, .fw, .lc, .parts, .sources, .domain, .gang, .dumps] s t)) ∧
    (∀ (r : OdReq) (v : BitVec 32), Accepts r 0x7101 5 (le 4 v.toNat) s →
      ((∀ e ∈ s.host.ctxs, e.2.ownerProc ≠ v.toNat) → Writes (.processRelease r v) s r 0x7101 5 [] [] fun t =>
        t.host = s.host) ∧
      (∀ c x, s.host.ctxs = [(c, x)] → x.ownerProc = v.toNat → x.state ≠ 3 → ∃ t, exec (.processRelease r v) s = .next t ∧
        Answers r 2 0x7101 5 0 [] s t ∧ ctxAt t c = none)) ∧
    (∀ (r : OdReq) (v : BitVec 16) x, Accepts r 0x7101 4 (le 2 v.toNat) s → ctxAt s v.toNat = some x →
      (x.state ≠ 2 → WriteRefused (.contextResume r v) s r 0x7101 4 abState) ∧
      (x.state = 2 → x.overflow = [] → executingCtx s v.toNat = false →
        (∀ k, k < 4 → pendingOf (queueAt s (4 * v.toNat + k)) = 0) → Writes (.contextResume r v) s r 0x7101 4 [.host] []
          fun t => ctxAt t v.toNat = some { x with state := 1, faultReason := 0, spill := false } ∧
            (∀ j, j ≠ v.toNat → ctxAt t j = ctxAt s j) ∧ t.host.queues = s.host.queues)) ∧
    (∀ (r : OdReq) x, pathUp s r = true → readGate s r 0x7105 8 false = 0 → ctxAt s (selectedQueue s r / 4) = some x →
      (x.overflow = [] → ∃ t, exec (.overflowPop r) s = .next t ∧ Answers r 1 0x7105 8 abState [] s t ∧
        OnlyChanges answerFields s t ∧ OdKept answerObjs s t) ∧
      (∀ slot rest, x.overflow = slot :: rest → ∃ t, exec (.overflowPop r) s = .next t ∧
        Answers r 1 0x7105 8 0 slot s t ∧ ctxAt t (selectedQueue s r / 4) = some { x with overflow := rest } ∧
        OnlyChanges (.host :: answerFields) s t ∧ OdKept answerObjs s t)) ∧
    (∀ (r : OdReq) (sub : BitVec 8) (v : BitVec 64),
      Accepts r 0x7104 sub.toNat (le (queueObjLen sub.toNat) v.toNat) s →
      (sub = 3 ∨ sub = 4 ∨ sub = 5 ∨ sub = 6) →
      ((queueAt s (selectedQueue s r)).state ≠ 0 → WriteRefused (.queueConfigWrite r sub v) s r 0x7104 sub.toNat abState) ∧
      ((queueAt s (selectedQueue s r)).state = 0 → (ctxAt s (selectedQueue s r / 4)).isSome = true →
        (sub = 6 → doorbellTaken s (selectedQueue s r) v.toNat = false) →
        Writes (.queueConfigWrite r sub v) s r 0x7104 sub.toNat [.host] [] fun t =>
          queueAt t (selectedQueue s r) =
            { queueAt s (selectedQueue s r) with
              ringBase := if sub = 3 then v.toNat else (queueAt s (selectedQueue s r)).ringBase,
              ringLog2 := if sub = 4 then v.toNat else (queueAt s (selectedQueue s r)).ringLog2,
              complBase := if sub = 5 then v.toNat else (queueAt s (selectedQueue s r)).complBase,
              doorbell := if sub = 6 then v.toNat else (queueAt s (selectedQueue s r)).doorbell } ∧
          (∀ j, j ≠ selectedQueue s r → queueAt t j = queueAt s j) ∧ t.host.ctxs = s.host.ctxs)) ∧
    (∀ (r : OdReq) (v : BitVec 8), Accepts r 0x7104 0xA (le 1 v.toNat) s →
      ((queueAt s (selectedQueue s r)).state ≠ 2 → WriteRefused (.queueRestart r v) s r 0x7104 0xA abState) ∧
      ((queueAt s (selectedQueue s r)).state = 2 → pendingOf (queueAt s (selectedQueue s r)) = 0 →
        Writes (.queueRestart r v) s r 0x7104 0xA [.host] [] fun t =>
          (queueAt t (selectedQueue s r)).state =
            (if (queueAt s (selectedQueue s r)).aliveNext ≥ 0xFFFFFFFF then 3 else 1) ∧
          (queueAt t (selectedQueue s r)).consumer = (queueAt s (selectedQueue s r)).consumer ∧
          t.host.ctxs = s.host.ctxs)) ∧
    (∀ part slot (v : BitVec 64), windowUp s = true →
      (partitionsOf s.cfg ≤ part → Completes (.doorbell part slot v) s [.od] fun t =>
        setting t 0xB031 0xA = setting s 0xB031 0xA + 1 ∧ OdKept [obj 0xB031 0xA] s t) ∧
      (part < partitionsOf s.cfg → s.host.queues = [] → Completes (.doorbell part slot v) s [.od] fun t =>
        setting t 0xB070 3 = setting s 0xB070 3 + 1 ∧ OdKept [obj 0xB070 3] s t) ∧
      (∀ q x c, part < partitionsOf s.cfg → s.host.queues = [(q, x)] → x.doorbell = slot → x.state = 2 → slot < 4096 →
        ctxAt s (q / 4) = some c → c.partition = part → v.toNat < 2 ^ 32 →
        (v.toNat + 2 ^ 32 - x.consumer) % 2 ^ 32 ≤ 2 ^ x.ringLog2 → Completes (.doorbell part slot v) s [.host] fun t =>
          queueAt t q = { x with producer := v.toNat } ∧ t.host.ctxs = s.host.ctxs)) ∧
    (∀ (k : Nat) (b : Bytes), securedUp s k = true →
      ∀ c ∈ [Instr.keyImportQueue k b, .keyImportBounce k b],
      (boundPart s k = none → ∃ t, exec c s = .next t ∧ Tells (.secured k stDenied []) s t ∧
        OnlyChanges answerFields s t ∧ OdKept [] s t) ∧
      (∀ part, boundPart s k = some part → s.recovery.quarantined = false → importForm s b = false →
        ∃ t, exec c s = .next t ∧ Tells (.secured k stMalformed []) s t ∧ OnlyChanges answerFields s t ∧ OdKept [] s t) ∧
      (∀ part x pp, boundPart s k = some part → s.recovery.quarantined = false → importForm s b = true →
        ctxAt s (num b 2 2) = some x → x.state = 1 → x.partition = part → partPin s part = some pp →
        heldRoom s part = true → (freePin s).isSome = true → (pinAt s (pinIdx pp)).childSerial < 0xFFFFFFFF → Calm s →
        (num b 0 1 = puQueue → (queueAt s (4 * num b 2 2 + num b 1 1)).keyPin = 0 →
          pendingOf (queueAt s (4 * num b 2 2 + num b 1 1)) = 0 → ∃ t h, exec c s = .next t ∧
            Tells (.secured k stDone (le 4 h)) s t ∧ OnlyChanges ([.keys, .host] ++ answerFields) s t ∧
            queueAt t (4 * num b 2 2 + num b 1 1) =
              { queueAt s (4 * num b 2 2 + num b 1 1) with
                state := 1, keyPin := h, key := slice b 12 32, aliveNext := num b 4 4, rejects := 0, refused := false }) ∧
        (num b 0 1 = puBounce → x.bouncePins = [0, 0] → ∃ t h, exec c s = .next t ∧
            Tells (.secured k stDone (le 4 h)) s t ∧ OnlyChanges ([.keys, .host] ++ answerFields) s t ∧
            ctxAt t (num b 2 2) = some { x with
              bouncePins := setNth x.bouncePins (num b 1 1) h, floors := setNth x.floors (num b 1 1) 0,
              patFloor := if num b 1 1 = 0 then 0 else x.patFloor })))

/-- Memory objects and events (R284 to R287, R289 to R291, R311): a creation takes the lowest free entry with one host
reference; a host reference is added and dropped, and the last one frees an object that nothing else holds; a window signal,
a SIGNAL and a WAIT act on the event they name and on no other; a WAIT times out. -/
def Obligations.ObjectsAndEvents : Prop :=
  ∀ s : State,
    (∀ (r : OdReq) (v : BitVec 256), Accepts r 0x7106 1 (le 32 v.toNat) s →
      (fld v.toNat 16 2 = 3 → WriteRefused (.memobjCreate r v) s r 0x7106 1 abRange) ∧
      (∀ i x, fld v.toNat 10 6 = 0 → fld v.toNat 20 12 = 0 → fld v.toNat 44 20 = 0 → fld v.toNat 192 64 = 0 →
        fld v.toNat 16 2 = 0 → fld v.toNat 32 12 = 0 → 0 < fld v.toNat 128 64 → fld v.toNat 128 64 < 2 ^ 47 →
        fld v.toNat 64 64 + fld v.toNat 128 64 ≤ 2 ^ 64 → fld v.toNat 0 10 < contextsOf s.cfg →
        ctxAt s (fld v.toNat 0 10) = some x → ctxReady s (fld v.toNat 0 10) = true →
        lowestSuch (fun i => (objAt s i).state == 0) 262143 1 = some i →
        Writes (.memobjCreate r v) s r 0x7106 1 [.host] [] fun t =>
          objAt t i = { state := 1, kind := 0, read := tbit v.toNat 18, write := tbit v.toNat 19, ctx := fld v.toNat 0 10,
                        partition := x.partition, gen := (objAt s i).gen, base := fld v.toNat 64 64,
                        length := fld v.toNat 128 64, kidx := 0, dev := 0, host := 1 } ∧
          (∀ j, j ≠ i → objAt t j = objAt s j) ∧ t.host.events = s.host.events ∧ t.host.ctxs = s.host.ctxs)) ∧
    (∀ (r : OdReq) (v : BitVec 32), Accepts r 0x7106 3 (le 4 v.toNat) s →
      (objNamed s v.toNat = false → WriteRefused (.memobjFree r v) s r 0x7106 3 abState) ∧
      (objNamed s v.toNat = true → (objAt s (hIdx v.toNat)).host = 1 → (objAt s (hIdx v.toNat)).dev = 0 →
        Writes (.memobjFree r v) s r 0x7106 3 [.host] [] fun t =>
          objAt t (hIdx v.toNat) = { noObj with gen := ((objAt s (hIdx v.toNat)).gen + 1) % 2 ^ 14 } ∧
          (∀ j, j ≠ hIdx v.toNat → objAt t j = objAt s j))) ∧
    (∀ (r : OdReq) (v : BitVec 32), Accepts r 0x7106 4 (le 4 v.toNat) s →
      (objFresh s v.toNat = false → WriteRefused (.memobjHostRef r v) s r 0x7106 4 abState) ∧
      (objFresh s v.toNat = true → (objAt s (hIdx v.toNat)).host < 0xFFFF →
        Writes (.memobjHostRef r v) s r 0x7106 4 [.host] [] fun t =>
          objAt t (hIdx v.toNat) =
            { objAt s (hIdx v.toNat) with host := (objAt s (hIdx v.toNat)).host + 1 } ∧
          (∀ j, j ≠ hIdx v.toNat → objAt t j = objAt s j))) ∧
    (∀ (r : OdReq) (v : BitVec 128) i x, Accepts r 0x7107 1 (le 16 v.toNat) s → fld v.toNat 10 6 = 0 →
      fld v.toNat 20 44 = 0 → fld v.toNat 0 10 < contextsOf s.cfg → s.recovery.quarantined = false →
      ctxAt s (fld v.toNat 0 10) = some x → ctxReady s (fld v.toNat 0 10) = true →
      lowestSuch (fun i => (eventAt s i).state == 0) 65535 1 = some i →
      Writes (.eventCreate r v) s r 0x7107 1 [.host] [] fun t =>
        (eventAt t i).state = (if tbit v.toNat 19 = true then 2 else 1) ∧ (eventAt t i).ctx = fld v.toNat 0 10 ∧
        (eventAt t i).hostSignal = tbit v.toNat 16 ∧ (eventAt t i).shared = tbit v.toNat 17 ∧
        (eventAt t i).intr = tbit v.toNat 18 ∧ (eventAt t i).host = 1 ∧ (eventAt t i).dev = 0 ∧
        (eventAt t i).cookie = fld v.toNat 64 64 ∧ (eventAt t i).gen = (eventAt s i).gen ∧
        (∀ j, j ≠ i → eventAt t j = eventAt s j) ∧ t.host.objs = s.host.objs) ∧
    (∀ (r : OdReq) (v : BitVec 32), Accepts r 0x7107 3 (le 4 v.toNat) s →
      (eventAt s (hIdx v.toNat)).state ≠ 0 → (eventAt s (hIdx v.toNat)).gen = hGen v.toNat →
      (eventAt s (hIdx v.toNat)).host = 1 → (eventAt s (hIdx v.toNat)).dev = 0 →
      Writes (.eventFree r v) s r 0x7107 3 [.host] [] fun t =>
        eventAt t (hIdx v.toNat) = { noEvent with gen := ((eventAt s (hIdx v.toNat)).gen + 1) % 2 ^ 14 } ∧
        (∀ j, j ≠ hIdx v.toNat → eventAt t j = eventAt s j)) ∧
    (∀ (r : OdReq) (v : BitVec 32), Accepts r 0x7107 4 (le 4 v.toNat) s → eventFresh s v.toNat = true →
      (eventAt s (hIdx v.toNat)).host < 0xFFFF → Writes (.eventHostRef r v) s r 0x7107 4 [.host] [] fun t =>
        eventAt t (hIdx v.toNat) = { eventAt s (hIdx v.toNat) with host := (eventAt s (hIdx v.toNat)).host + 1 } ∧
        (∀ j, j ≠ hIdx v.toNat → eventAt t j = eventAt s j)) ∧
    (∀ part (v : BitVec 64), windowUp s = true → part < partitionsOf s.cfg → partLive s part = true →
      (eventFresh s (fld v.toNat 0 32) = false → ∀ c ∈ [Instr.windowSignal part v, .windowReset part v],
        Completes c s [.od] fun t => setting t 0xB070 4 = setting s 0xB070 4 + 1 ∧ OdKept [obj 0xB070 4] s t) ∧
      (eventFresh s (fld v.toNat 0 32) = true → (eventAt s (hIdx (fld v.toNat 0 32))).partition = part →
        (eventAt s (hIdx (fld v.toNat 0 32))).hostSignal = true → 0 < (eventAt s (hIdx (fld v.toNat 0 32))).host →
        (fld v.toNat 32 2 = 1 → (eventAt s (hIdx (fld v.toNat 0 32))).state = 1 →
          (eventAt s (hIdx (fld v.toNat 0 32))).intr = false → (eventAt s (hIdx (fld v.toNat 0 32))).orphan = false →
          (∀ e ∈ s.host.descs, waitsOn (hIdx (fld v.toNat 0 32)) e.2 = false) →
          Completes (.windowSignal part v) s [.host, .log, .od] fun t =>
            (eventAt t (hIdx (fld v.toNat 0 32))).state = 2 ∧ (eventAt t (hIdx (fld v.toNat 0 32))).sigStatus = stDone ∧
            (∀ j, j ≠ hIdx (fld v.toNat 0 32) → eventAt t j = eventAt s j)) ∧
        (fld v.toNat 32 2 = 2 → (eventAt s (hIdx (fld v.toNat 0 32))).state = 2 →
          (eventAt s (hIdx (fld v.toNat 0 32))).sigStatus ≠ stAbandoned → Completes (.windowReset part v) s [.host] fun t =>
            eventAt t (hIdx (fld v.toNat 0 32)) =
              { eventAt s (hIdx (fld v.toNat 0 32)) with state := 1, sigStatus := 0 } ∧
            (∀ j, j ≠ hIdx (fld v.toNat 0 32) → eventAt t j = eventAt s j)))) ∧
    (∀ (r : OdReq) (v : BitVec 32) x, Accepts r 0x7105 5 (le 4 v.toNat) s → ctxAt s (selectedQueue s r / 4) = some x →
      x.faultEvent = 0 →
      (v ≠ 0 → eventFresh s v.toNat = false → WriteRefused (.faultEventWrite r v) s r 0x7105 5 abState) ∧
      (eventFresh s v.toNat = true → (eventAt s (hIdx v.toNat)).ctx = selectedQueue s r / 4 →
        0 < (eventAt s (hIdx v.toNat)).host → Writes (.faultEventWrite r v) s r 0x7105 5 [.host] [] fun t =>
          ctxAt t (selectedQueue s r / 4) = some { x with faultEvent := v.toNat } ∧
          (eventAt t (hIdx v.toNat)).dev = (eventAt s (hIdx v.toNat)).dev + 1)) ∧
    (∀ d x, descFor s d 8 = some x → isFence x = false →
      ((eventAt s (hIdx (num x.bytes 8 4))).state ≠ 1 → Completes (.signal d) s [.host] fun t =>
        tget t.host.descs d = some { x with
          outcome := some ((if (eventAt s (hIdx (num x.bytes 8 4))).sigStatus = stAbandoned then stAbandoned else stDone),
                           0, 0, 0) } ∧
        t.host.events = s.host.events) ∧
      ((eventAt s (hIdx (num x.bytes 8 4))).state = 1 → (eventAt s (hIdx (num x.bytes 8 4))).intr = false →
        (eventAt s (hIdx (num x.bytes 8 4))).orphan = false → 0 < (eventAt s (hIdx (num x.bytes 8 4))).host →
        (∀ e ∈ s.host.descs, waitsOn (hIdx (num x.bytes 8 4)) e.2 = false) →
        Completes (.signal d) s [.host, .log, .od] fun t =>
          tget t.host.descs d = some { x with outcome := some (stDone, 0, 0, 0) } ∧
          (eventAt t (hIdx (num x.bytes 8 4))).state = 2 ∧ (eventAt t (hIdx (num x.bytes 8 4))).sigStatus = stDone)) ∧
    (∀ d x, descFor s d 9 = some x → isFence x = false →
      ((eventAt s (hIdx (num x.bytes 8 4))).state = 1 → exec (.wait d) s = .next s) ∧
      ((eventAt s (hIdx (num x.bytes 8 4))).state = 2 → 0 < (eventAt s (hIdx (num x.bytes 8 4))).host →
        (eventAt s (hIdx (num x.bytes 8 4))).sigStatus ≠ stAbandoned → Completes (.wait d) s [.host, .log, .od] fun t =>
          tget t.host.descs d = some { x with
            outcome := some ((eventAt s (hIdx (num x.bytes 8 4))).sigStatus,
                             (eventAt s (hIdx (num x.bytes 8 4))).cookie, 0, 0) } ∧
          (eventAt t (hIdx (num x.bytes 8 4))).state = (if fConsume x = true then 1 else 2)) ∧
      (num x.bytes 12 4 = 0 ∨ s.tick < x.startTick + num x.bytes 12 4 → exec (.waitTimeout d) s = .next s) ∧
      (num x.bytes 12 4 ≠ 0 → x.startTick + num x.bytes 12 4 ≤ s.tick → Completes (.waitTimeout d) s [.host] fun t =>
        tget t.host.descs d = some { x with
          outcome := some (stTimeout, (eventAt s (hIdx (num x.bytes 8 4))).cookie, 0, 0) } ∧ t.host.events = s.host.events))

/-- Descriptors (R299, R301, R303, R306, R308 to R310, R478): the scheduler starts the chosen one, MALFORMED when its
fields break the rules; a COPY reads its next piece and writes what it has read; a sealed chunk that fails its tag ends with
INTEGRITY, one that opens is handed over; transfers end DONE when all is done; an ATOMIC answers OLD; a NOP is DONE; a DUMP
without a match does nothing. -/
def Obligations.Descriptors : Prop :=
  ∀ s : State,
    (queueCands s = [] → chainCands s = [] → exec .descriptorStart s = .next s) ∧
    (∀ c sc k d, choose s (queueCands s ++ chainCands s) = some (c, sc) → c.desc = some k → tget s.host.descs k = some d →
      d.outcome = none →
      (fieldsOk d = false → Completes .descriptorStart s [.host] fun t =>
        tget t.host.descs k = some { d with started := true, startTick := s.tick, order := s.host.starts + 1,
                                            outcome := some (stMalformed, 0, 0, 0) } ∧ t.host.sched = sc) ∧
      (fieldsOk d = true → opc d = 0x0E → Completes .descriptorStart s [.host] fun t =>
        tget t.host.descs k = some { d with started := true, startTick := s.tick, order := s.host.starts + 1 } ∧
        t.host.sched = sc ∧ ∀ j, j ≠ k → tget t.host.descs j = tget s.host.descs j)) ∧
    (∀ d x, descFor s d 1 = some x →
      (thas s.host.xfers d = false → 0 < num x.bytes 32 8 → Turns (.copy d) d s fun y =>
        y.reads = [(num x.bytes 8 4, num x.bytes 16 8, Nat.min 4096 (num x.bytes 32 8))] ∧ y.writes = [] ∧ y.pos = 0 ∧
        y.src = ctxSource (descCtx x)) ∧
      (∀ r, tget s.host.xfers d = some r → xferIdle r = true → r.wfail = none → r.rfail = none →
        (r.buf ≠ [] → Turns (.copy d) d s fun y =>
          y.writes = [(num x.bytes 12 4, num x.bytes 24 8 + r.pos, r.buf)] ∧ y.buf = [] ∧ y.reads = [] ∧
          y.pos = r.pos + r.buf.length) ∧
        (r.buf = [] → num x.bytes 32 8 ≤ r.pos → Completes (.copy d) s [.host] fun t =>
          tget t.host.descs d = some { x with outcome := some (stDone, num x.bytes 32 8, 0, 0) }))) ∧
    (∀ c d x r, c ∈ [(3, Instr.sealChunks d), (4, .unsealChunks d), (0x10, .bounceIn d), (0x11, .bounceOut d)] →
      descFor s d c.1 = some x → tget s.host.xfers d = some r → xferIdle r = true → r.wfail = none → r.rfail = none →
      (chunksOf (num x.bytes 28 4) ≤ r.pos → Completes c.2 s [.host] fun t =>
        tget t.host.descs d = some { x with outcome := some (stDone, num x.bytes 28 4, 0, 0) }) ∧
      (r.pos < chunksOf (num x.bytes 28 4) → live s x.pin = false → Completes c.2 s [.host, .od] fun t =>
        tget t.host.descs d = some { x with outcome := some (stKeyGone, 4096 * r.pos, 0, 0) }) ∧
      (r.pos < chunksOf (num x.bytes 28 4) → live s x.pin = true → r.buf = [] →
        ((c.1 = 4 ∨ c.1 = 0x10) → Turns c.2 d s fun y =>
          y.reads = [(num x.bytes 8 4, (chunkedOf d x s).dataAt r.pos, (chunkedOf d x s).len r.pos),
                     (num x.bytes 8 4, (chunkedOf d x s).tagAt r.pos, 16)]) ∧
        ((c.1 = 3 ∨ c.1 = 0x11) → Turns c.2 d s fun y =>
          y.reads = [(num x.bytes 12 4, num x.bytes 20 8 + 4096 * r.pos, (chunkedOf d x s).len r.pos)])) ∧
      (r.pos < chunksOf (num x.bytes 28 4) → live s x.pin = true → r.buf ≠ [] →
        ((c.1 = 4 ∨ c.1 = 0x10) → ∃ t, exec c.2 s = .next t ∧
          (Config.gcmOpen (keyOf s x.pin) ((chunkedOf d x s).iv r.pos) [] (slice r.buf 0 ((chunkedOf d x s).len r.pos))
              (slice r.buf ((chunkedOf d x s).len r.pos) 16) = none →
            tget t.host.descs d = some { x with
              outcome := some (stIntegrity, 4096 * r.pos, num x.bytes 8 4, 4096 * num x.bytes 16 4 + 4096 * r.pos) } ∧
            setting t 0xB070 5 = setting s 0xB070 5 + 1 ∧ OnlyChanges [.host, .od] s t) ∧
          (∀ pt, Config.gcmOpen (keyOf s x.pin) ((chunkedOf d x s).iv r.pos) []
              (slice r.buf 0 ((chunkedOf d x s).len r.pos)) (slice r.buf ((chunkedOf d x s).len r.pos) 16) = some pt →
            pt ≠ [] → Turns c.2 d s fun y =>
              y.writes = [(num x.bytes 12 4, num x.bytes 20 8 + 4096 * r.pos, pt)] ∧ y.pos = r.pos + 1)) ∧
        ((c.1 = 3 ∨ c.1 = 0x11) → 0 < (chunkedOf d x s).len r.pos → Turns c.2 d s fun y =>
          y.pos = r.pos + 1 ∧
          y.writes.map (fun w => (w.1, w.2.1, w.2.2.length)) =
            [(num x.bytes 8 4, (chunkedOf d x s).dataAt r.pos, (chunkedOf d x s).len r.pos),
             (num x.bytes 8 4, (chunkedOf d x s).tagAt r.pos, 16)]))) ∧
    (∀ d x, descFor s d 6 = some x →
      (thas s.host.xfers d = false → ∃ y u, exec (.atomic d) s =
          .next (present (atomicReq d x y (objAt s (hIdx (num x.bytes 8 4))).kidx) u) ∧
        tget u.host.xfers d = some y ∧ y.key = num x.bytes 40 4 ∧
        y.acc = some { handle := num x.bytes 8 4, off := num x.bytes 12 8, len := 8, write := true, lead := 0,
                       got := none } ∧ OnlyChanges [.host] s u) ∧
      (∀ r a g, tget s.host.xfers d = some r → r.acc = some a → a.got = some g → g.st = stDone →
        Completes (.atomic d) s [.host] fun t =>
          tget t.host.descs d = some { x with outcome := some (stDone, num g.data 0 8, 0, 0) })) ∧
    (∀ d x, descFor s d 0x0E = some x → Completes (.nop d) s [.host] fun t =>
      tget t.host.descs d = some { x with outcome := some (stDone, 0, 0, 0) } ∧
      (∀ j, j ≠ d → tget t.host.descs j = tget s.host.descs j) ∧ t.host.xfers = s.host.xfers) ∧
    (∀ d x, descFor s d 0x0D = some x →
      (thas s.host.xfers d = false → dumpMatch s (descPart s x) x = none → Completes (.dump d) s [.host] fun t =>
        tget t.host.descs d = some { x with outcome := some (stDone, 0, 0, 0) }) ∧
      (∀ r, tget s.host.xfers d = some r → xferIdle r = true → r.wfail = none → r.rfail = none →
        dumpParts (num x.bytes 24 4) ≤ r.pos → Completes (.dump d) s [.host, .od] fun t =>
          tget t.host.descs d = some { x with
            outcome := some (stDone, dumpBytes (num x.bytes 24 4) r.pos, 0, 0) } ∧
          setting t 0xB000 0xC = setting s 0xB000 0xC + 1 ∧ OdKept [obj 0xB000 0xC] s t))

/-- Completion (R306, R331, R332, R455): a descriptor that has ended goes, its queue's hang timer is cleared, one that
failed without CONT halts its queue and leaves a completion slot; a completed node goes, and with the last node its launch
ends and gives the LAUNCH its outcome. -/
def Obligations.Completions : Prop :=
  ∀ (s : State) (d : Nat) (x : Desc) (st result fh fo : Nat), tget s.host.descs d = some x →
    x.outcome = some (st, result, fh, fo) → writeDue s d = false → x.objs = [] → x.evs = [] →
    (x.node = none → pendingOf (queueAt s x.queue) = 0 →
      (st = stDone → fComplete x = false →
        Completes (.descriptorComplete d) s [.host, .ports, .recovery, .parts] fun t =>
          thas t.host.descs d = false ∧ (∀ j, j ≠ d → tget t.host.descs j = tget s.host.descs j) ∧
          tget t.recovery.hang x.queue = some 0 ∧ t.host.queues = s.host.queues ∧
          t.ports.outReqs = s.ports.outReqs ∧ thas t.host.xfers d = false) ∧
      (∀ c, st ≠ stDone → st ≠ stSaturated → fCont x = false → (queueAt s x.queue).state = 1 →
        ctxAt s (x.queue / 4) = some c → c.spill = false → s.ports.outReqs = [] →
        Completes (.descriptorComplete d) s [.host, .ports, .recovery, .parts, .od, .out] fun t =>
          thas t.host.descs d = false ∧ (queueAt t x.queue).state = 2 ∧
          setting t 0xB000 7 = setting s 0xB000 7 + 1 ∧
          (∃ y slot, tget t.ports.outReqs 0 = some y ∧ y.purpose = .completion (x.queue / 4) (x.queue % 4) slot ∧
            y.addr = (queueAt s x.queue).complBase + 64 * (x.seq % 2 ^ (queueAt s x.queue).ringLog2) ∧ y.write = true))) ∧
    (∀ k n c l p, x.node = some (k, n, c) → tget s.patterns.launches k = some l →
      patternAt s (launchPattern k) = some p → l.state = 1 → st = stDone → (∀ e ∈ s.host.descs, opc e.2 ≠ 9) →
      (∀ e ∈ s.host.descs, e.1 ≠ d → e.2.node = none) →
      (l.chains.all (·.isNone) = false → Completes (.nodeComplete d) s [.host, .ports, .recovery, .parts, .patterns]
        fun t => thas t.host.descs d = false ∧ tget t.patterns.launches k = some l ∧
          tget t.recovery.hang l.qid = some 0) ∧
      (∀ y, l.chains.all (·.isNone) = true → p.event = 0 → l.first = none → l.satSeen = false → s.patterns.waiting = [] →
        l.desc ≠ d → tget s.host.descs l.desc = some y → y.outcome = none →
        Completes (.nodeComplete d) s [.host, .ports, .recovery, .parts, .patterns] fun t =>
          thas t.host.descs d = false ∧ tget t.patterns.launches k = none ∧
          tget t.host.descs l.desc = some { y with outcome := some (stDone, l.paramSeq, l.faultHandle, l.faultOffset) }))

/-! ### Patterns (R316 to R332) -/

/-- Patterns (R322, R323, R326, R327, R329): a load enters LOADING and fetches its header; a number that is in no use
cannot be deleted, a READY one is; a patch of another form is MALFORMED and one of no pattern DENIED, and one that verifies
advances the floor; a LAUNCH takes the lowest free record, or is DENIED, or PATTERN_BUSY when all are in use. -/
def Obligations.PatternsAndLaunches : Prop :=
  ∀ s : State,
    (∀ (r : OdReq) (v : BitVec 128), Accepts r 0x7201 1 (le 16 v.toNat) s → fld v.toNat 8 56 = 0 →
      fld v.toNat 64 64 % 64 = 0 →
      (s.recovery.quarantined = true → WriteRefused (.patternLoad r v) s r 0x7201 1 abState) ∧
      (s.recovery.quarantined = false → patternTorn s (fld v.toNat 0 8) = false →
        patternAt s (fld v.toNat 0 8) = none → liveLaunches s (fld v.toNat 0 8) = 0 → s.patterns.loads.length < 4 →
        Writes (.patternLoad r v) s r 0x7201 1 [.patterns] [obj 0xB071 1] fun t =>
          patternAt t (fld v.toNat 0 8) = some loadingPattern ∧
          (∃ l, tget t.patterns.loads s.patterns.nextLoad = some l ∧ l.pattern = fld v.toNat 0 8 ∧
            l.addr = fld v.toNat 64 64 ∧ l.got = []) ∧ t.patterns.nextLoad = s.patterns.nextLoad + 1 ∧
          t.patterns.launches = s.patterns.launches ∧ setting t 0xB071 1 = setting s 0xB071 1 + 1)) ∧
    (∀ (r : OdReq) (v : BitVec 8), Accepts r 0x7201 2 (le 1 v.toNat) s →
      (patternAt s v.toNat = none → WriteRefused (.patternDelete r v) s r 0x7201 2 abState) ∧
      (∀ p, patternAt s v.toNat = some p → p.state = 2 → liveLaunches s v.toNat = 0 → p.objs = [] → p.evs = [] →
        p.sigs = [] → s.patterns.waiting = [] → Writes (.patternDelete r v) s r 0x7201 2 [.patterns] [] fun t =>
          patternAt t v.toNat = none ∧ (∀ j, j ≠ v.toNat → patternAt t j = patternAt s j) ∧
          t.patterns.loads = s.patterns.loads)) ∧
    (∀ (r : OdReq) (v : Bytes), Accepts r 0x7201 3 v s →
      (num v 0 1 ≠ 2 → Writes (.patternPatch r v) s r 0x7201 3 [] [obj 0xB071 3, obj 0xB071 4] fun t =>
        (∀ k, sessOf r = some k → perSession t k 0x7201 4 = stMalformed) ∧
        setting t 0xB071 3 = setting s 0xB071 3 + 1 ∧ setting t 0xB071 4 = setting s 0xB071 4 + 1) ∧
      (num v 0 1 = 2 → zeros v 10 6 = true → patternAt s (num v 1 1) = none →
        Writes (.patternPatch r v) s r 0x7201 3 [] [obj 0xB071 3, obj 0xB071 4] fun t =>
          ∀ k, sessOf r = some k → perSession t k 0x7201 4 = stDenied) ∧
      (∀ p x, num v 0 1 = 2 → zeros v 10 6 = true → patternAt s (num v 1 1) = some p → p.state = 2 →
        p.ctx = num v 2 2 → ctxAt s (num v 2 2) = some x → patternPin s (num v 2 2) ≠ 0 →
        live s (patternPin s (num v 2 2)) = true → patternFloor s (num v 2 2) ≤ num v 4 6 →
        ∃ t, exec (.patternPatch r v) s = .next t ∧ Answers r 2 0x7201 3 0 [] s t ∧
          ∀ b, Config.gcmOpen (keyOf s (patternPin s (num v 2 2))) (patternIv 6 (num v 2 2) (num v 4 6)) (slice v 0 16)
              (slice v 16 136) (slice v 152 16) = some b →
            ctxAt t (num v 2 2) = some { x with patFloor := num v 4 6 + 1 } ∧
            (∀ slot, maskSlots (num b 0 8) = [slot] → zeros b 16 120 = true →
              patternAt t (num v 1 1) = some { p with params := setNth p.params slot (num b 8 8), paramSeq := num v 4 6 })
        )) ∧
    (∀ d x, descFor s d 0x0A = some x → x.launch = none → launchOk x = true →
      (patternAt s (num x.bytes 8 1) = none → Completes (.launch d) s [.host, .patterns] fun t =>
        tget t.host.descs d = some { x with outcome := some (stDenied, 0, 0, 0) } ∧
        t.patterns.launches = s.patterns.launches) ∧
      (∀ p, patternAt s (num x.bytes 8 1) = some p → p.state = 2 → p.ctx = descCtx x →
        (∀ rec_, freeLaunch s (num x.bytes 8 1) = some rec_ → Completes (.launch d) s [.host, .patterns, .od] fun t =>
          (∃ l, tget t.patterns.launches (num x.bytes 8 1 * 16 + rec_) = some l ∧ l.state = 1 ∧ l.qid = x.queue ∧
            l.desc = d ∧ l.launchNo = (p.launches + 1) % 2 ^ 32 ∧ l.fences = 0 ∧ l.paramSeq = p.paramSeq ∧
            l.params = (overrides x).foldl (fun ps o => setNth ps o.1 o.2) p.params ∧
            l.chains = (List.range (p.chainsM1 + 1)).map fun c => some (nth p.entry c 0)) ∧
          tget t.host.descs d = some { x with launch := some (num x.bytes 8 1 * 16 + rec_) } ∧
          (patternAt t (num x.bytes 8 1)).map (·.launches) = some ((p.launches + 1) % 2 ^ 32) ∧
          setting t 0xB071 5 = setting s 0xB071 5 + 1 ∧ OdKept [obj 0xB071 5] s t) ∧
        (freeLaunch s (num x.bytes 8 1) = none → fBusyWait x = false →
          Completes (.launch d) s [.host, .patterns, .od] fun t =>
            tget t.host.descs d = some { x with outcome := some (stPatternBusy, 0, 0, 0) } ∧
            setting t 0xB071 6 = setting s 0xB071 6 + 1 ∧ t.patterns.launches = s.patterns.launches)))

/-! ### Partitions (R336 to R358) -/

/-- Partitions (R338 to R340, R349 to R352, R355): a creation is checked against the ranges, the seed and what others hold,
and derives the partition's pin; a reset or removal unbinds its session and starts the teardown; the teardown ends the
partition's pin, and a reset one gets a new pin; a snapshot latches what its page shows. -/
def Obligations.PartitionLifetimes : Prop :=
  ∀ s : State,
    (∀ (r : OdReq) (v : Bytes), Accepts r 0x7301 1 v s →
      (createRange s v = true → WriteRefused (.partitionCreate r v) s r 0x7301 1 abRange) ∧
      (createRange s v = false → (thas s.parts (num v 0 1) = true ∨ seedPin s = none ∨ s.recovery.quarantined = true) →
        WriteRefused (.partitionCreate r v) s r 0x7301 1 abState) ∧
      (∀ seed i, createRange s v = false → thas s.parts (num v 0 1) = false → seedPin s = some seed →
        s.recovery.quarantined = false →
        (createBusy s (partOfBytes v) = true → WriteRefused (.partitionCreate r v) s r 0x7301 1 abBusy) ∧
        (createBusy s (partOfBytes v) = false → freePin s = some i →
          (pinAt s (pinIdx seed)).childSerial < 0xFFFFFFFF →
          Writes (.partitionCreate r v) s r 0x7301 1 [.keys, .parts] [] fun t =>
            tget t.parts (num v 0 1) = some { partOfBytes v with
              pin := i, pinGen := pinGen (pinHandle i (pinAt s i).gen),
              serial := (pinAt s (pinIdx seed)).childSerial + 1 } ∧
            (∀ j, j ≠ num v 0 1 → tget t.parts j = tget s.parts j) ∧ (pinAt t i).state = 1 ∧
            (pinAt t i).purpose = 0x40 ∧ (pinAt t i).level = 4 ∧ (pinAt t i).kind = 1 ∧
            (pinAt t i).objA = num v 0 1 ∧ (pinAt t i).parent = pinIdx seed ∧ t.keys.held = s.keys.held))) ∧
    (∀ (r : OdReq) (v : BitVec 8) (state : Nat) (c : Instr),
      (state, c) ∈ [(2, Instr.partitionReset r v), (3, .partitionRemove r v)] → Accepts r 0x7301 state (le 1 v.toNat) s →
      (partitionsOf s.cfg ≤ v.toNat → WriteRefused c s r 0x7301 state abRange) ∧
      (v.toNat < partitionsOf s.cfg → partLive s v.toNat = false → WriteRefused c s r 0x7301 state abState) ∧
      (∀ p, v.toNat < partitionsOf s.cfg → tget s.parts v.toNat = some p → p.state = 1 → s.shuttle.owner = none →
        Writes c s r 0x7301 state [.parts] [] fun t =>
          tget t.parts v.toNat = some { p with state := state, bound := none, step := 1,
                                               drainUntil := if setting s 0x7301 4 = 1 then s.tick else s.tick + 2 } ∧
          (∀ j, j ≠ v.toNat → tget t.parts j = tget s.parts j))) ∧
    (∀ part, tget s.parts part = none → exec (.teardownSquash part) s = .next s ∧ exec (.teardownReseed part) s = .next s) ∧
    (∀ part p, tget s.parts part = some p →
      (p.step ≠ 1 → exec (.teardownSquash part) s = .next s) ∧
      (partUnits s part = true → s.tick < p.drainUntil → exec (.teardownSquash part) s = .next s) ∧
      (p.step = 1 → part < 64 → s.tension.units = [] → s.host.ctxs = [] → s.tally.regions = [] → s.keys.inval = [] →
        s.keys.invalWaiting = [] → Calm s → ∃ t, exec (.teardownSquash part) s = .next t ∧
          live t (pinHandle p.pin p.pinGen) = false ∧
          (p.state = 3 → tget t.parts part = none ∧ setting t 0x7400 (part + 1) = 0 ∧ setting t 0x5002 (part + 1) = 0 ∧
            setting t 0x7401 (part + 1) = 16 ∧ setting t 0xB072 2 = setting s 0xB072 2 + 1 ∧
            (∀ k e, tget t.sources k = some e → e.partition = part → e.valid = false)) ∧
          (p.state ≠ 3 → tget t.parts part = some { p with step := 6 }) ∧
          (∀ j, j ≠ part → tget t.parts j = tget s.parts j) ∧
          (∀ k e, tget t.sources k = some e → e.partition = part → e.confirmed = false) ∧
          (∀ k e, (k, e) ∈ t.dumps → e.partition ≠ part) ∧ thas t.purl.parts part = false ∧
          Keeps [.cfg, .pins, .seq, .always, .power, .tap, .fuses, .flash, .fw, .lc, .recovery, .domain, .gang, .interval,
                 .tick, .pending] s t) ∧
      (p.state ≠ 2 ∨ p.step ≠ 6 ∨ seedPin s = none → exec (.teardownReseed part) s = .next s) ∧
      (∀ seed i, p.state = 2 → p.step = 6 → seedPin s = some seed → freePin s = some i →
        (pinAt s (pinIdx seed)).childSerial < 0xFFFFFFFF →
        Completes (.teardownReseed part) s [.keys, .parts, .od] fun t =>
          tget t.parts part = some { p with
            pin := i, pinGen := pinGen (pinHandle i (pinAt s i).gen), serial := (pinAt s (pinIdx seed)).childSerial + 1,
            state := 1, step := 0, resets := p.resets + 1, live := List.replicate 7 0, snap := List.replicate 7 0,
            thrOwn := 0, intervals := 0, power10w := 0 } ∧
          (∀ j, j ≠ part → tget t.parts j = tget s.parts j) ∧ (pinAt t i).state = 1 ∧ (pinAt t i).purpose = 0x40 ∧
          setting t 0xB072 1 = setting s 0xB072 1 + 1 ∧ setting t 0x8000 7 = setting s 0x8000 7 + 1 ∧
          OdKept [obj 0xB072 1, obj 0x8000 7] s t)) ∧
    (profile s = 0 → running s = true → s.interval + 100000 ≤ s.tick →
      Completes .statusSnapshot s [.tension, .parts, .interval, .od] fun t =>
        t.interval = s.tick ∧ OdKept [obj 0xB072 6] s t ∧
        ∀ k p, tget s.parts k = some p → ∃ x, tget t.parts k = some x ∧ x.snap = p.live ∧ x.live = p.live ∧
          x.intervals = p.intervals + 1 ∧ x.state = p.state ∧ x.bound = p.bound) ∧
    (profile s ≠ 0 ∨ running s = false ∨ s.tick < s.interval + 100000 → exec .statusSnapshot s = .next s)

/-- Tenants and the source map (R345, R347, R348, R352, R468): an entry of the map is written UNCONFIRMED, for a LIVE
partition and a SRC_ID that no other VALID entry holds; a session binds to the partition whose tenant key it proves; only the
session bound to an entry's partition confirms or withdraws it. -/
def Obligations.TenantsAndSources : Prop :=
  ∀ s : State,
    (∀ (r : OdReq) (v : BitVec 64), Accepts r 0x7303 1 (le 8 v.toNat) s →
      (fld v.toNat 10 6 ≠ 0 ∨ fld v.toNat 39 25 ≠ 0 ∨ partitionsOf s.cfg ≤ fld v.toNat 32 6 →
        WriteRefused (.sourceWrite r v) s r 0x7303 1 abRange) ∧
      (fld v.toNat 10 6 = 0 → fld v.toNat 39 25 = 0 → fld v.toNat 32 6 < partitionsOf s.cfg →
        (tbit v.toNat 38 = true → partLive s (fld v.toNat 32 6) = false → WriteRefused (.sourceWrite r v) s r 0x7303 1 abState) ∧
        (∀ k e, tbit v.toNat 38 = true → (k, e) ∈ s.sources → k ≠ fld v.toNat 0 10 → e.valid = true →
          e.srcId = fld v.toNat 16 16 → WriteRefused (.sourceWrite r v) s r 0x7303 1 abState) ∧
        ((∀ p, tget s.parts (fld v.toNat 32 6) = some p → p.state < 2) →
          (tbit v.toNat 38 = true → partLive s (fld v.toNat 32 6) = true ∧
            ∀ e ∈ s.sources, e.2.valid = true → e.2.srcId = fld v.toNat 16 16 → e.1 = fld v.toNat 0 10) →
          Writes (.sourceWrite r v) s r 0x7303 1 [.sources] [] fun t =>
            tget t.sources (fld v.toNat 0 10) =
              some { srcId := fld v.toNat 16 16, partition := fld v.toNat 32 6, valid := tbit v.toNat 38,
                     confirmed := false } ∧
            (∀ j, j ≠ fld v.toNat 0 10 → tget t.sources j = tget s.sources j)))) ∧
    (∀ k b, securedUp s k = true →
      (s.recovery.quarantined = true → ∃ t, exec (.partitionBind k b) s = .next t ∧ Tells (.secured k stDenied []) s t ∧
        OnlyChanges answerFields s t ∧ OdKept [] s t) ∧
      (s.recovery.quarantined = false → (b.length ≠ 4 ∨ zeros b 1 3 = false) → ∃ t,
        exec (.partitionBind k b) s = .next t ∧ Tells (.secured k stMalformed []) s t ∧ OnlyChanges answerFields s t ∧
        OdKept [] s t) ∧
      (s.recovery.quarantined = false → b.length = 4 → zeros b 1 3 = true → bindOk s k (num b 0 1) = false → ∃ t,
        exec (.partitionBind k b) s = .next t ∧ Tells (.secured k stDenied []) s t ∧
        setting t 0xB072 3 = setting s 0xB072 3 + 1 ∧ OnlyChanges answerFields s t ∧ OdKept [obj 0xB072 3] s t) ∧
      (∀ p x, s.recovery.quarantined = false → b.length = 4 → zeros b 1 3 = true → tget s.parts (num b 0 1) = some p →
        tget s.domain.sessions k = some x → p.state = 1 → x.digest = p.hash →
        (boundPart s k = none ∨ boundPart s k = some (num b 0 1)) → ∃ t, exec (.partitionBind k b) s = .next t ∧
          Tells (.secured k stDone (le 4 p.serial ++ le 4 p.resets)) s t ∧
          tget t.parts (num b 0 1) = some { p with bound := some k } ∧
          (∀ j, j ≠ num b 0 1 → tget t.parts j = tget s.parts j) ∧ OnlyChanges (.parts :: answerFields) s t ∧
          OdKept [] s t)) ∧
    (∀ k b on c, (on, c) ∈ [(true, Instr.sourceConfirm k b), (false, .sourceWithdraw k b)] → securedUp s k = true → Calm s →
      (boundPart s k = none → ∃ t, exec c s = .next t ∧ Tells (.secured k stDenied []) s t ∧
        OnlyChanges answerFields s t ∧ OdKept [] s t) ∧
      (∀ part, boundPart s k = some part →
        (b.length ≠ 4 → ∃ t, exec c s = .next t ∧ Tells (.secured k stMalformed []) s t ∧ OnlyChanges answerFields s t ∧
          OdKept [] s t) ∧
        (b.length = 4 → (∀ e, tget s.sources (num b 0 2) = some e → e.valid = false ∨ e.partition ≠ part ∨
            e.srcId ≠ num b 2 2) → ∃ t, exec c s = .next t ∧ Tells (.secured k stDenied []) s t ∧
          setting t 0xB072 5 = setting s 0xB072 5 + 1 ∧ OnlyChanges answerFields s t ∧ OdKept [obj 0xB072 5] s t) ∧
        (∀ e, b.length = 4 → tget s.sources (num b 0 2) = some e → e.valid = true → e.partition = part →
          e.srcId = num b 2 2 → ∃ t, exec c s = .next t ∧ Tells (.secured k stDone []) s t ∧
            tget t.sources (num b 0 2) = some { e with confirmed := on } ∧
            (∀ j, j ≠ num b 0 2 → tget t.sources j = tget s.sources j) ∧ OnlyChanges (.sources :: answerFields) s t ∧
            OdKept [] s t)))

/-! ### The domain (R361 to R388) -/

/-- Sampling, ownership and the charter (R363, R373, R376 to R388): what each write is refused for, what it leaves when it is
accepted, and how the check of a staged charter ends: with the status of the check that fails, or with the charter
installed. -/
def Obligations.OwnershipAndCharter : Prop :=
  ∀ (s : State) (r : OdReq),
    (∀ v : Bytes, Accepts r 0x8010 1 v s →
      (s.domain.sampleState = 1 ∨ s.domain.state = 3 → WriteRefused (.sampleNonce r v) s r 0x8010 1 abBusy) ∧
      (s.domain.sampleState ≠ 1 → s.domain.state ≠ 3 →
        (basting s = false → 2 ≤ s.fuses.rootState → WriteRefused (.sampleNonce r v) s r 0x8010 1 abState) ∧
        (basting s = true ∨ s.fuses.rootState < 2 →
          (leads s = true ∨ panelUp s = false → Writes (.sampleNonce r v) s r 0x8010 1 [.domain] [] fun t =>
            t.domain = { s.domain with sampleState := 1, nonce := v,
                                       sampleNo := (s.domain.sampleNo + 1) % 2 ^ 32 }) ∧
          (leads s = false → panelUp s = true → Writes (.sampleNonce r v) s r 0x8010 1 [.domain, .gang] [] fun t =>
            t.domain = { s.domain with sampleState := 1, nonce := v })))) ∧
    (s.domain.sampleState ≠ 1 ∨ firmwareUp s = false ∨ memberSeed s = none ∨ s.keys.inc = none →
      exec .sampleReady s = .next s) ∧
    (∀ seed n, s.domain.sampleState = 1 → firmwareUp s = true → memberSeed s = some seed → s.keys.inc = some n →
      panelUp s = false → Completes .sampleReady s [.domain, .od] fun t =>
        t.domain = { s.domain with
          store := ((s.domain.sampleNo, Config.makeCert 2 (aliasSeed s) (samplerFields s seed)) :: s.domain.store).take 16,
          sampleState := 2 } ∧
        setting t 0xB080 1 = setting s 0xB080 1 + 1 ∧ OdKept [obj 0xB080 1] s t) ∧
    (∀ v : Bytes, Accepts r 0x8001 1 v s →
      ((readRecord s recOwner).isSome = true ∨ powerGood s = false →
        WriteRefused (.ownerClaim r v) s r 0x8001 1 abState) ∧
      (tget s.flash.user recOwner = none → powerGood s = true → (storageKey s).isSome = true → drbgServes s = true →
        Writes (.ownerClaim r v) s r 0x8001 1 [.keys, .flash] [obj 0x2030 4] fun t =>
          (∃ x, tget t.flash.user recOwner = some x ∧ Tells (.flash 1 (0xA40000 + 4096 * recOwner) x.length) s t) ∧
          (∀ k, k ≠ recOwner → tget t.flash.user k = tget s.flash.user k) ∧ t.keys.pins = s.keys.pins ∧
          t.flash.slots = s.flash.slots)) ∧
    (∀ v : BitVec 32, Accepts r 0x8020 1 (le 4 v.toNat) s →
      (v.toNat < 7979 ∨ 794363 < v.toNat → WriteRefused (.charterBegin r v) s r 0x8020 1 abRange) ∧
      (7979 ≤ v.toNat → v.toNat ≤ 794363 → s.domain.pending ≠ 0 →
        WriteRefused (.charterBegin r v) s r 0x8020 1 abBusy) ∧
      (7979 ≤ v.toNat → v.toNat ≤ 794363 → s.domain.pending = 0 →
        Writes (.charterBegin r v) s r 0x8020 1 [.domain, .flash] [] fun t =>
          t.domain = { s.domain with stagedTotal := v.toNat, staged := [] } ∧ t.flash.user = s.flash.user ∧
          t.flash.slots = s.flash.slots ∧ tget t.flash.banks 1 = tget s.flash.banks 1)) ∧
    (∀ v : Bytes, Accepts r 0x8020 2 v s →
      (v.length ≠ 8 + num v 4 2 → WriteRefused (.charterChunk r v) s r 0x8020 2 abType) ∧
      (v.length = 8 + num v 4 2 →
        (num v 0 4 ≠ s.domain.staged.length ∨ num v 4 2 = 0 ∨ 1024 < num v 4 2 ∨
          s.domain.stagedTotal < num v 0 4 + num v 4 2 ∨ zeros v 6 2 = false →
          WriteRefused (.charterChunk r v) s r 0x8020 2 abRange) ∧
        (num v 0 4 = s.domain.staged.length → 0 < num v 4 2 → num v 4 2 ≤ 1024 →
          num v 0 4 + num v 4 2 ≤ s.domain.stagedTotal → zeros v 6 2 = true → powerGood s = true →
          s.domain.pending = 0 → (storageKey s).isSome = true → drbgServes s = true →
          Writes (.charterChunk r v) s r 0x8020 2 [.domain, .flash, .keys] [obj 0x2030 4] fun t =>
            t.domain = { s.domain with staged := s.domain.staged ++ slice v 8 (num v 4 2) } ∧
            t.flash.user = s.flash.user ∧ t.flash.slots = s.flash.slots ∧
            tget t.flash.banks 1 = tget s.flash.banks 1 ∧ t.keys.pins = s.keys.pins))) ∧
    (∀ v : BitVec 8, Accepts r 0x8020 3 (le 1 v.toNat) s →
      (s.domain.staged.length < s.domain.stagedTotal ∨ s.domain.state = 3 →
        WriteRefused (.charterCommit r v) s r 0x8020 3 abState) ∧
      (s.domain.stagedTotal ≤ s.domain.staged.length → s.domain.state ≠ 3 →
        (s.domain.pending ≠ 0 → WriteRefused (.charterCommit r v) s r 0x8020 3 abBusy) ∧
        (s.domain.pending = 0 → Writes (.charterCommit r v) s r 0x8020 3 [.domain] [] fun t =>
          t.domain = { s.domain with pending := 1, status := 0xFF }))) ∧
    (s.domain.pending ≠ 1 ∨ firmwareUp s = false → exec .charterCheckDone s = .next s) ∧
    (s.domain.pending = 1 → firmwareUp s = true → s.domain.activationWaits = false → s.links.ports = [] → Calm s →
      match charterCheck s s.domain.staged with
      | .error st => Completes .charterCheckDone s [.domain, .od] fun t =>
          t.domain = { s.domain with pending := 0, status := st } ∧
          setting t 0xB080 3 = setting s 0xB080 3 + 1 ∧ OdKept [obj 0xB080 3] s t
      | .ok (cert, rel) => ∃ t, exec .charterCheckDone s = .next t ∧ t.domain.charter = some s.domain.staged ∧
          t.domain.memberCert = cert ∧ t.domain.status = stDone ∧ t.domain.staged = [] ∧ t.domain.pending ≠ 1 ∧
          thas t.flash.banks 0 = false ∧ t.flash.user = s.flash.user ∧
          (rel = .composition → t.domain.state = s.domain.state ∧ t.domain.sessions = s.domain.sessions ∧
            t.keys.pins = s.keys.pins) ∧
          (rel = .join ∨ rel = .dissolve → t.domain.state = 1 ∨ t.domain.state = 2) ∧
          (rel = .dissolve → t.domain.sessions = []) ∧
          Keeps [.cfg, .pins, .seq, .always, .power, .tap, .fuses, .fw, .lc, .interval, .tick, .pending] s t) ∧
    (∀ v : BitVec 8, Accepts r 0x8020 6 (le 1 v.toNat) s →
      (s.domain.state = 0 ∨ s.domain.state = 3 → WriteRefused (.dissolve r v) s r 0x8020 6 abState) ∧
      (s.domain.state ≠ 0 → s.domain.state ≠ 3 → s.domain.pending ≠ 0 →
        WriteRefused (.dissolve r v) s r 0x8020 6 abBusy) ∧
      (s.domain.state ≠ 0 → s.domain.state ≠ 3 → s.domain.pending = 0 → Calm s → ∃ t, exec (.dissolve r v) s = .next t ∧
        Answers r 2 0x8020 6 0 [] s t ∧ t.domain.state = 0 ∧ t.domain.charter = none ∧ t.domain.memberCert = [] ∧
        t.domain.memberIndex = 0xFFFF ∧ t.domain.sessions = [] ∧ t.domain.carries = [] ∧
        thas t.flash.banks 1 = false ∧ t.flash.user = s.flash.user ∧ t.domain.store = s.domain.store ∧
        Keeps [.cfg, .pins, .seq, .always, .power, .tap, .fuses, .fw, .lc, .interval, .tick, .pending] s t))

/-- SPDM (R368 to R370, R372, R386): a version is always answered; every other request is Busy during an update; one that
needs the identity is Unspecified without it; an unserved one is UnsupportedRequest; a session opens with FINISH, and ends
with END_SESSION, a failed FINISH or a message that does not decrypt. Codes and layouts are those of log entry 28. -/
def Obligations.SpdmRequests : Prop :=
  ∀ s : State,
    (∀ path, spdmUp s path = true →
      SpdmAnswers (.getVersion path) path 0x04 [0, 0, 0, 1, 0, 0x13] [] s ∧
      (s.domain.state ≠ 3 → SpdmAnswers (.getCapabilities path) path 0x61
        ([0, 0, 0, 14, 0, 0] ++ le 4 0x3C2 ++ le 4 16384 ++ le 4 16384) [] s) ∧
      (∀ o : SpdmOffer, s.domain.state ≠ 3 →
        (o = ⟨false, false, false, false, false, false⟩ →
          SpdmAnswers (.negotiateAlgorithms path o) path 0x7F [1, 0] [obj 0xB080 6] s) ∧
        (o ≠ ⟨false, false, false, false, false, false⟩ →
          SpdmAnswers (.negotiateAlgorithms path o) path 0x63 (algorithmsBody o) [] s)) ∧
      (s.domain.state = 3 → ∀ o, ∀ c ∈ [Instr.getCapabilities path, .negotiateAlgorithms path o],
        SpdmAnswers c path 0x7F [3, 0] [obj 0xB080 6] s) ∧
      (∀ slot off len (dhe elem : Bytes) (code : BitVec 8),
        ∀ c ∈ [Instr.getDigests path, .getCertificate path slot off len, .keyExchange path slot dhe elem,
               .spdmUnsupported path code],
        (identityUp s = false → SpdmAnswers c path 0x7F [5, 0] [obj 0xB080 6] s) ∧
        (identityUp s = true → s.domain.state = 3 → SpdmAnswers c path 0x7F [3, 0] [obj 0xB080 6] s)) ∧
      (identityUp s = true → s.domain.state ≠ 3 →
        (∀ code : BitVec 8, SpdmAnswers (.spdmUnsupported path code) path 0x7F ([7] ++ le 1 code.toNat)
          [obj 0xB080 6] s) ∧
        (slotLeaf s 0 = none → slotLeaf s 1 = none → SpdmAnswers (.getDigests path) path 0x01 [3, 0] [] s) ∧
        (∀ a, slotLeaf s 0 = some a → slotLeaf s 1 = none →
          SpdmAnswers (.getDigests path) path 0x01 ([3, 1] ++ hash48 (certChain s a)) [] s) ∧
        (∀ b, slotLeaf s 0 = none → slotLeaf s 1 = some b →
          SpdmAnswers (.getDigests path) path 0x01 ([3, 2] ++ hash48 (certChain s b)) [] s) ∧
        (∀ a b, slotLeaf s 0 = some a → slotLeaf s 1 = some b → SpdmAnswers (.getDigests path) path 0x01
          ([3, 3] ++ hash48 (certChain s a) ++ hash48 (certChain s b)) [] s) ∧
        (∀ slot off len, slotLeaf s slot = none →
          SpdmAnswers (.getCertificate path slot off len) path 0x7F [1, 0] [obj 0xB080 6] s) ∧
        (∀ slot off len a, slotLeaf s slot = some a →
          ((certChain s a).length ≤ off →
            SpdmAnswers (.getCertificate path slot off len) path 0x7F [1, 0] [obj 0xB080 6] s) ∧
          (off < (certChain s a).length → ∃ n, n ≤ len ∧ n ≤ 16376 ∧ off + n ≤ (certChain s a).length ∧
            (n = len ∨ n = 16376 ∨ off + n = (certChain s a).length) ∧
            SpdmAnswers (.getCertificate path slot off len) path 0x02
              (le 1 slot ++ [0] ++ le 2 n ++ le 2 ((certChain s a).length - off - n) ++ slice (certChain s a) off n)
              [] s)) ∧
        (∀ slot dhe elem,
          (kzhRequest elem = none → SpdmAnswers (.keyExchange path slot dhe elem) path 0x7F [1, 0] [obj 0xB080 6] s) ∧
          (∀ x, kzhRequest elem = some x → freeSession s = none →
            SpdmAnswers (.keyExchange path slot dhe elem) path 0x7F [0x0A, 0] [obj 0xB080 6] s) ∧
          (∀ ek leaf k seed, kzhRequest elem = some (ek, leaf) → freeSession s = some k → memberSeed s = some seed →
            drbgServes s = true → ∃ t, exec (.keyExchange path slot dhe elem) s = .next t ∧
              OnlyChanges (.keys :: .domain :: answerFields) s t ∧ t.keys.pins = s.keys.pins ∧
              t.keys.held = s.keys.held ∧
              ((Tells (.spdm path 0x7F [1, 0]) s t ∧ t.domain = s.domain) ∨
                ((∃ b, Tells (.spdm path 0x64 b) s t) ∧ t.domain.nextSession = s.domain.nextSession + 1 ∧
                  (∃ x, tget t.domain.sessions k = some x ∧ x.opened = false ∧ x.path = path ∧ x.leaf = leaf ∧
                    x.digest = hash48 (certSpki leaf) ∧ x.id = s.domain.nextSession) ∧
                  (∀ j, j ≠ k → tget t.domain.sessions j = tget s.domain.sessions j) ∧
                  t.domain.charter = s.domain.charter ∧ t.domain.store = s.domain.store)))))) ∧
    (∀ k sig mac, sessionUp s k = none → ∀ c ∈ [Instr.spdmFinish k sig mac, .endSession k, .securedDecryptFail k],
      exec c s = .next s) ∧
    (∀ k x, sessionUp s k = some x →
      (∀ sig mac, x.opened = true → SpdmAnswers (.spdmFinish k sig mac) x.path 0x7F [1, 0] [obj 0xB080 6] s) ∧
      (∀ sig mac, x.opened = false → ∃ t, exec (.spdmFinish k sig mac) s = .next t ∧
        OnlyChanges ([.domain, .parts] ++ answerFields) s t ∧
        (if Config.sigOk 0 (certEc x.leaf) (hash48 x.transcript) sig &&
            verifyData x.secret (x.transcript ++ sig) 1 == mac then
          Tells (.spdm x.path 0x65 [0, 0]) s t ∧ t.parts = s.parts ∧
            (∃ y, tget t.domain.sessions k = some y ∧ y.opened = true ∧ y.digest = x.digest ∧ y.secret = x.secret) ∧
            setting t 0xB080 7 = setting s 0xB080 7 + 1
        else Tells (.spdm x.path 0x7F [6, 0]) s t ∧ thas t.domain.sessions k = false)) ∧
      (x.opened = false → SpdmAnswers (.endSession k) x.path 0x7F [1, 0] [obj 0xB080 6] s) ∧
      (∀ c code body, (c, code, body) ∈ [(Instr.endSession k, 0x6C, [0, 0]), (.securedDecryptFail k, 0x7F, [6, 0])] →
        (x.opened = true ∨ code = 0x7F) → ∃ t, exec c s = .next t ∧ Tells (.spdm x.path code body) s t ∧
          OnlyChanges ([.domain, .parts] ++ answerFields) s t ∧ thas t.domain.sessions k = false ∧
          (∀ j, j ≠ k → tget t.domain.sessions j = tget s.domain.sessions j) ∧
          (∀ e ∈ t.parts, e.2.bound ≠ some k) ∧ (∀ e ∈ t.dict.perSession, e.1 / 2 ^ 24 ≠ k + 1) ∧
          t.domain.charter = s.domain.charter))

/-- Secured requests and the seed's carry (R346, R370, R371, R379, R380): a request without its right is DENIED, then one of
another form MALFORMED; the confirmation is signed with the member key; an imported seal key becomes the SEAL pin of its
number; the carry asks the partner for its chain, and each answer that it waits for takes it on or drops it; a seed that
unwraps is installed. -/
def Obligations.SecuredServices : Prop :=
  ∀ s : State,
    (∀ k b, securedUp s k = true →
      (b ≠ [] → SecuredAnswers (.hybridConfirm k b) k stMalformed [] [] [] s fun _ => True) ∧
      (memberSeed s = none → SecuredAnswers (.hybridConfirm k []) k stDenied [] [] [] s fun _ => True) ∧
      (∀ x seed, tget s.domain.sessions k = some x → memberSeed s = some seed →
        SecuredAnswers (.hybridConfirm k []) k stDone
          (mlSign seed (hash48 (text "KZ-HYBRID-CONFIRM" 17 ++ hash48 x.transcript))) [] [] s fun _ => True) ∧
      (oprRight s k = false → SecuredAnswers (.sealImport k b) k stDenied [] [] [] s fun _ => True) ∧
      (oprRight s k = true → (b.length ≠ 36 ∨ 15 < num b 0 2 ∨ zeros b 2 2 = false) →
        SecuredAnswers (.sealImport k b) k stMalformed [] [] [] s fun _ => True) ∧
      (∀ op i slot, oprRight s k = true → b.length = 36 → num b 0 2 ≤ 15 → zeros b 2 2 = true →
        findPin s puOperator (fun _ => true) = some op → sealPinOf s (num b 0 2) = none → freePin s = some i →
        freeSlot s = some slot → (pinAt s (pinIdx op)).childSerial < 0xFFFFFFFF → Calm s →
        SecuredAnswers (.sealImport k b) k stDone [] [.keys] [] s fun t =>
          (pinAt t i).state = 1 ∧ (pinAt t i).purpose = 0x55 ∧ (pinAt t i).level = 5 ∧ (pinAt t i).kind = 2 ∧
          (pinAt t i).objA = num b 0 2 ∧ (pinAt t i).parent = pinIdx op ∧ (pinAt t i).heldSlot = slot ∧
          tget t.keys.held slot = some (slice b 4 32) ∧
          (∀ j, j ≠ slot → tget t.keys.held j = tget s.keys.held j)) ∧
      (∀ x, tget s.domain.sessions k = some x →
        if isMemberCert s x.leaf then
          (b.length ≠ 4675 → SecuredAnswers (.seedGet k b) k stMalformed [] [] [] s fun _ => True) ∧
          (b.length = 4675 → (s.domain.state ≠ 2 ∨ hasDomain s = false) →
            SecuredAnswers (.seedGet k b) k stDenied [] [] [] s fun _ => True) ∧
          (∀ h ch, b.length = 4675 → s.domain.state = 2 → findPin s puDomain (fun _ => true) = some h →
            s.domain.charter = some ch → leads s = true → drbgServes s = true →
            if slice b 0 48 == chHash ch &&
                Config.sigOk 1 (certMl x.leaf) (hash48 (text "KZ-SEED-GET" 11 ++ hash48 x.transcript)) (slice b 48 4627)
            then ∃ body, SecuredAnswers (.seedGet k b) k stDone body [.keys] [obj 0xB080 4, obj 0x2030 4] s fun t =>
              t.keys.pins = s.keys.pins ∧ setting t 0xB080 4 = setting s 0xB080 4 + 1
            else SecuredAnswers (.seedGet k b) k stDenied [] [] [] s fun _ => True)
        else SecuredAnswers (.seedGet k b) k stDenied [] [] [] s fun _ => True)) ∧
    (∀ p, p < linkPortsOf s.cfg →
      (carries s = false ∨ (linkAt s p).state ≠ 2 → exec (.seedCarryAttempt p) s = .next s) ∧
      (∀ n, tget s.domain.lastCarry p = some n → s.tick < n + setting s 0x8020 7 →
        exec (.seedCarryAttempt p) s = .next s) ∧
      (carries s = true → (linkAt s p).state = 2 →
        (∀ n, tget s.domain.lastCarry p = some n → n + setting s 0x8020 7 ≤ s.tick) →
        Completes (.seedCarryAttempt p) s (.domain :: sendFields) fun t =>
          carryOn t p = some { port := p, await := 1, transcript := [], secret := [], leaf := [], startTick := s.tick } ∧
          tget t.domain.lastCarry p = some s.tick ∧ (∃ m, Tells (.linkMsg p 0x10 m) s t) ∧
          t.domain.sessions = s.domain.sessions ∧ t.domain.charter = s.domain.charter) ∧
      (∀ b, carryOn s p = none → ∀ c ∈ [Instr.spdmRequesterResponse p b, .seedGetResponse p b], exec c s = .next s) ∧
      (∀ b x, carryOn s p = some x → carries s = true →
        (x.await = 1 → b.length < 6 → Completes (.spdmRequesterResponse p b) s [.domain] fun t => carryOn t p = none) ∧
        (x.await = 1 → 6 ≤ b.length → num b 0 1 % 16 = 1 → 0 < num b 2 2 → 0 < num b 4 2 →
          Completes (.spdmRequesterResponse p b) s (.domain :: sendFields) fun t =>
            carryOn t p = some { x with leaf := x.leaf ++ slice b 6 (num b 2 2) } ∧
            ∃ m, Tells (.linkMsg p 0x10 m) s t) ∧
        (x.await = 1 → 6 ≤ b.length → num b 4 2 = 0 →
          Completes (.spdmRequesterResponse p b) s (.domain :: sendFields) fun t =>
            carryOn t p = none ∨ ∃ y, carryOn t p = some y ∧ y.await = 2) ∧
        (x.await = 2 → Completes (.spdmRequesterResponse p b) s (.domain :: sendFields) fun t =>
          carryOn t p = none ∨ ∃ y, carryOn t p = some y ∧ y.await = 3 ∧ y.leaf = x.leaf) ∧
        (x.await = 3 → Completes (.spdmRequesterResponse p b) s (.domain :: sendFields) fun t =>
          carryOn t p = some { x with await := 4 } ∧ ∃ m, Tells (.linkMsg p 0x10 m) s t) ∧
        (x.await = 4 → Completes (.spdmRequesterResponse p b) s (.domain :: sendFields) fun t =>
          carryOn t p = none ∨ carryOn t p = some { x with await := 5 })) ∧
      (∀ b x, carryOn s p = some x → x.await ≠ 5 → exec (.seedGetResponse p b) s = .next s) ∧
      (∀ b x, carryOn s p = some x → x.await = 5 →
        (num b 0 1 ≠ stDone → Completes (.seedGetResponse p b) s [.domain] fun t =>
          carryOn t p = none ∧ t.domain.state = s.domain.state) ∧
        (num b 0 1 = stDone → s.domain.state = 1 → leads s = true → Calm s →
          match carriedSeed s x b with
          | none => Completes (.seedGetResponse p b) s [.domain, .od] fun t =>
              carryOn t p = none ∧ t.domain.state = 1 ∧ setting t 0x2000 9 = setting s 0x2000 9 + 1 ∧
              OdKept [obj 0x2000 9] s t
          | some _ => ∃ t, exec (.seedGetResponse p b) s = .next t ∧ carryOn t p = none ∧ t.domain.state = 2 ∧
              t.domain.charter = s.domain.charter ∧ t.keys.seedPending = 0)))

/-! ### The service units (R390 to R406) -/

/-- The shuttle lock and its jobs (R10, R390, R394 to R399): a request is discarded, granted or kept pending; the lock is
freed by its owner, by the end of its lease and by a revocation, and passes on; GO checks the job and starts it, or ends it
with a status; ABORT ends the running job. -/
def Obligations.ShuttleLockAndJobs : Prop :=
  ∀ s : State,
    (∀ part v, serviceUp s = false → ∀ c ∈ [Instr.shuttleLockRequest part v, .shuttleRelease part v, .shuttleGo part v,
        .shuttleAbort part v, .purlSubmit part v, .purlGoAbort part v], exec c s = .next s) ∧
    (∀ part v, serviceUp s = true → servicePages s ≤ part → ∀ c ∈ [Instr.shuttleLockRequest part v,
        .shuttleRelease part v, .shuttleGo part v, .shuttleAbort part v, .purlSubmit part v, .purlGoAbort part v],
      Completes c s [.od] fun t => setting t 0xB031 0xA = setting s 0xB031 0xA + 1 ∧ OdKept [obj 0xB031 0xA] s t) ∧
    (∀ part (v : BitVec 64), serviceUp s = true → part < servicePages s →
      (∀ c ∈ [Instr.shuttleLockRequest part v, .shuttleRelease part v],
        let lease := fld v.toNat 32 16
        let ctx := fld v.toNat 16 10
        (tbit v.toNat 63 = false →
          (fld v.toNat 26 6 ≠ 0 ∨ fld v.toNat 48 15 ≠ 0 ∨ lease < 1000 ∨ setting s 0xC000 1 < lease ∨
            lockable s part ctx = false → Completes c s [.od] fun t =>
              setting t 0xB090 9 = setting s 0xB090 9 + 1 ∧ OdKept [obj 0xB090 9] s t) ∧
          (fld v.toNat 26 6 = 0 → fld v.toNat 48 15 = 0 → 1000 ≤ lease → lease ≤ setting s 0xC000 1 →
            lockable s part ctx = true →
            (s.shuttle.owner = none → Completes c s [.shuttle, .od] fun t =>
              t.shuttle = { Shuttle.reset with
                owner := some (part, ctx), ticket := fld v.toNat 0 16, leaseLeft := lease,
                waiting := tdel s.shuttle.waiting part, lastHolder := part } ∧
              setting t 0xB090 1 = setting s 0xB090 1 + 1 ∧ OdKept [obj 0xB090 1] s t) ∧
            (s.shuttle.owner ≠ none → Completes c s [.shuttle] fun t =>
              t.shuttle.owner = s.shuttle.owner ∧
              tget t.shuttle.waiting part = some (fld v.toNat 0 16, ctx, lease) ∧
              (∀ j, j ≠ part → tget t.shuttle.waiting j = tget s.shuttle.waiting j) ∧
              t.shuttle.regs = s.shuttle.regs ∧ t.shuttle.state = s.shuttle.state))) ∧
        (tbit v.toNat 63 = true →
          (ownsShuttle s part = false ∨ s.shuttle.ticket ≠ fld v.toNat 0 16 ∨
              (profile s = 0 ∧ s.shuttle.owner ≠ some (part, ctx)) → Completes c s [.od] fun t =>
            setting t 0xB090 9 = setting s 0xB090 9 + 1 ∧ OdKept [obj 0xB090 9] s t) ∧
          (s.shuttle.owner = some (part, ctx) → s.shuttle.ticket = fld v.toNat 0 16 → s.shuttle.state ≠ 1 →
            s.shuttle.refs = [] →
            (s.shuttle.waiting = [] → Completes c s [.shuttle] fun t =>
              t.shuttle = { Shuttle.reset with lastHolder := part }) ∧
            (∀ q tk cx ls, s.shuttle.waiting = [(q, tk, cx, ls)] → q < partitionsOf s.cfg → lockable s q cx = true →
              Completes c s [.shuttle, .od] fun t =>
                t.shuttle = { Shuttle.reset with
                  owner := some (q, cx), ticket := tk, leaseLeft := ls, lastHolder := q } ∧
                setting t 0xB090 1 = setting s 0xB090 1 + 1 ∧ OdKept [obj 0xB090 1] s t)))) ∧
      (∀ c ∈ [Instr.shuttleGo part v, .shuttleAbort part v],
        (ownsShuttle s part = false → Completes c s [.od] fun t =>
          setting t 0xB090 9 = setting s 0xB090 9 + 1 ∧ OdKept [obj 0xB090 9] s t) ∧
        (ownsShuttle s part = true → tbit v.toNat 1 = true →
          (s.shuttle.state ≠ 1 → exec c s = .next s) ∧
          (s.shuttle.state = 1 → Completes c s [.shuttle, .ports, .host, .od] fun t =>
            t.shuttle.state = 2 ∧ t.shuttle.status = stAborted ∧ t.shuttle.owner = s.shuttle.owner ∧
            t.shuttle.refs = [] ∧ thas t.host.xfers s.shuttle.job = false ∧
            setting t 0xB090 5 = setting s 0xB090 5 + 1 ∧ OdKept [obj 0xB090 5] s t)) ∧
        (ownsShuttle s part = true → tbit v.toNat 1 = false → tbit v.toNat 0 = false → exec c s = .next s) ∧
        (ownsShuttle s part = true → tbit v.toNat 1 = false → tbit v.toNat 0 = true →
          (s.shuttle.state = 1 → Completes c s [.od] fun t =>
            setting t 0xB090 9 = setting s 0xB090 9 + 1 ∧ OdKept [obj 0xB090 9] s t) ∧
          (∀ ctx, s.shuttle.owner = some (part, ctx) → s.shuttle.state ≠ 1 → s.shuttle.refs = [] →
            (∀ st, (if shMalformed s v.toNat then stMalformed else reachesCheck s part ctx (shReaches s)) = st →
              st ≠ stDone → Completes c s [.shuttle, .ports, .host, .od] fun t =>
                t.shuttle.state = 2 ∧ t.shuttle.status = st ∧ t.shuttle.owner = s.shuttle.owner ∧ shReg t 0x100 = 0 ∧
                t.host.objs = s.host.objs ∧ setting t 0xB090 4 = setting s 0xB090 4 + 1 ∧
                setting t 0xB090 5 = setting s 0xB090 5 + 1 ∧ OdKept [obj 0xB090 4, obj 0xB090 5] s t) ∧
            (shMalformed s v.toNat = false → reachesCheck s part ctx (shReaches s) = stDone → ∃ u y,
              exec c s = .next (nextAccess s.host.nextDesc u) ∧ OnlyChanges [.shuttle, .host, .od] s u ∧
              u.shuttle.state = 1 ∧ u.shuttle.job = s.host.nextDesc ∧ u.shuttle.owner = s.shuttle.owner ∧
              tget u.host.xfers s.host.nextDesc = some y ∧
              y.reads = [(fld (shReg s 0x70) 0 32, shReg s 0x78, shAad s + shLen s)] ∧ y.writes = [] ∧ y.buf = [] ∧
              setting u 0xB090 4 = setting s 0xB090 4 + 1 ∧ OdKept [obj 0xB090 4] s u))))) ∧
    (s.shuttle.owner = none ∨ s.shuttle.leaseLeft ≠ 0 → exec .shuttleLeaseExpiry s = .next s) ∧
    (s.shuttle.owner ≠ none → s.shuttle.waiting = [] → s.shuttle.state ≠ 1 → s.shuttle.refs = [] →
      (s.shuttle.leaseLeft = 0 → Completes .shuttleLeaseExpiry s [.shuttle, .od] fun t =>
        t.shuttle.owner = none ∧ t.shuttle.regs = [] ∧ t.shuttle.state = 0 ∧
        setting t 0xB090 2 = setting s 0xB090 2 + 1 ∧ OdKept [obj 0xB090 2] s t) ∧
      (∀ r (v : BitVec 8), Accepts r 0xC000 3 (le 1 v.toNat) s →
        Writes (.shuttleRevoke r v) s r 0xC000 3 [.shuttle] [obj 0xB090 3] fun t =>
          t.shuttle.owner = none ∧ t.shuttle.regs = [] ∧ t.shuttle.state = 0 ∧
          setting t 0xB090 3 = setting s 0xB090 3 + 1)) ∧
    (∀ r (v : BitVec 8), Accepts r 0xC000 3 (le 1 v.toNat) s → s.shuttle.owner = none →
      Writes (.shuttleRevoke r v) s r 0xC000 3 [] [] fun t => t.shuttle = s.shuttle) ∧
    (s.shuttle.state ≠ 1 → exec .shuttleJobEnd s = .next s) ∧
    (∀ x, s.shuttle.state = 1 → tget s.host.xfers s.shuttle.job = some x → xferIdle x = true →
      (∀ st h off, x.wfail = some (st, h, off) → Completes .shuttleJobEnd s [.shuttle, .ports, .host, .od] fun t =>
        t.shuttle.state = 2 ∧ t.shuttle.status = st ∧ t.shuttle.owner = s.shuttle.owner) ∧
      (x.wfail = none → x.rfail = none → (x.pos ≠ 0 ∨ shuttleText s x = []) →
        Completes .shuttleJobEnd s [.shuttle, .ports, .host, .od] fun t =>
          t.shuttle.state = 2 ∧ t.shuttle.owner = s.shuttle.owner ∧
          t.shuttle.status = (if (shuttleResult s x.buf).isSome then stDone else stIntegrity) ∧
          ((shuttleResult s x.buf).isSome = true → shReg t 0x100 = shLen s)) ∧
      (∀ st h off, x.wfail = none → x.rfail = some (st, h, off) → (x.pos ≠ 0 ∨ shuttleText s x = []) →
        Completes .shuttleJobEnd s [.shuttle, .ports, .host, .od] fun t =>
          t.shuttle.state = 2 ∧ t.shuttle.status = st ∧ t.shuttle.owner = s.shuttle.owner) ∧
      (x.wfail = none → x.pos = 0 → shuttleText s x ≠ [] → Turns .shuttleJobEnd s.shuttle.job s fun y =>
        y = { x with pos := (shuttleText s x).length,
                     writes := [(fld (shReg s 0x70) 32 32, shReg s 0x80, shuttleText s x)] }))

/-- The purl (R400 to R403, R406): a submission that is not the next one, or that finds the unit busy, is counted; an
accepted one takes its number and runs, or ends at once with the status of the check that it fails; its CRC, an abort and the
time limit end it. What RESULT holds after a job without a result is a free value. -/
def Obligations.PurlJobs : Prop :=
  ∀ s : State,
    (∀ part (v : BitVec 64), serviceUp s = true → part < servicePages s →
      ∀ c ∈ [Instr.purlSubmit part v, .purlGoAbort part v],
      (tbit v.toNat 32 = false →
        (s.purl.running ≠ none ∨ fld v.toNat 0 32 ≠ (purlAt s part).nextAlive ∨ fld v.toNat 33 31 ≠ 0 →
          Completes c s [.od] fun t => setting t 0xB090 7 = setting s 0xB090 7 + 1 ∧ OdKept [obj 0xB090 7] s t) ∧
        (s.purl.running = none → fld v.toNat 0 32 = (purlAt s part).nextAlive → fld v.toNat 33 31 = 0 →
          let j := { s with purl.job := (purlAt s part).regs }
          let st := if purlMalformed j || reachMalformed j (purlReach j) then stMalformed
            else if !lockable s part (purlCtx j) then stDenied else reachCheck j part (purlCtx j) (purlReach j)
          (st ≠ stDone → Completes c s [.purl, .ports, .host, .od, .free] fun t =>
            t.purl.running = none ∧ (purlAt t part).rstate = 2 ∧ (purlAt t part).rstatus = st ∧
            (purlAt t part).bytesDone = 0 ∧ (purlAt t part).resultAlive = (purlAt s part).nextAlive ∧
            (purlAt t part).nextAlive =
              (if (purlAt s part).nextAlive = 0xFFFFFFFF then 1 else (purlAt s part).nextAlive + 1) ∧
            (∀ q, q ≠ part → purlAt t q = purlAt s q) ∧ t.host.objs = s.host.objs ∧
            setting t 0xB090 6 = setting s 0xB090 6 + 1 ∧ OdKept [obj 0xB090 6] s t) ∧
          (st = stDone → ∃ u y, exec c s = .next (nextAccess s.host.nextDesc u) ∧
            OnlyChanges [.purl, .host, .od] s u ∧ u.purl.running = some part ∧ u.purl.startTick = s.tick ∧
            u.purl.job = (purlAt s part).regs ∧ u.purl.xfer = s.host.nextDesc ∧ (purlAt u part).rstate = 1 ∧
            (purlAt u part).resultAlive = (purlAt s part).nextAlive ∧ tget u.host.xfers s.host.nextDesc = some y ∧
            y.reads = [((purlReach j).handle, (purlReach j).off, purlLen j)] ∧ y.buf = [] ∧
            setting u 0xB090 6 = setting s 0xB090 6 + 1 ∧ OdKept [obj 0xB090 6] s u))) ∧
      (tbit v.toNat 32 = true →
        (s.purl.running ≠ some part ∨ fld v.toNat 0 32 ≠ (purlAt s part).resultAlive → Completes c s [.od] fun t =>
          setting t 0xB090 9 = setting s 0xB090 9 + 1 ∧ OdKept [obj 0xB090 9] s t) ∧
        (s.purl.running = some part → fld v.toNat 0 32 = (purlAt s part).resultAlive →
          Completes c s [.purl, .ports, .host, .free] fun t =>
            t.purl.running = none ∧ (purlAt t part).rstate = 2 ∧ (purlAt t part).rstatus = stAborted ∧
            (∀ q, q ≠ part → purlAt t q = purlAt s q)))) ∧
    (∀ r (v : BitVec 8), Accepts r 0xC010 3 (le 1 v.toNat) s →
      (partitionsOf s.cfg ≤ v.toNat → WriteRefused (.purlAbort r v) s r 0xC010 3 abRange) ∧
      (v.toNat < partitionsOf s.cfg → s.purl.running ≠ some v.toNat →
        WriteRefused (.purlAbort r v) s r 0xC010 3 abState) ∧
      (v.toNat < partitionsOf s.cfg → s.purl.running = some v.toNat →
        Writes (.purlAbort r v) s r 0xC010 3 [.purl, .host] [] fun t =>
          t.purl.running = none ∧ (purlAt t v.toNat).rstate = 2 ∧ (purlAt t v.toNat).rstatus = stAborted)) ∧
    (s.purl.running = none ∨ s.tick < s.purl.startTick + setting s 0xC010 1 → exec .purlTimeout s = .next s) ∧
    (s.purl.running = none → exec .purlJobEnd s = .next s) ∧
    (∀ part, s.purl.running = some part →
      (s.purl.startTick + setting s 0xC010 1 ≤ s.tick → Completes .purlTimeout s [.purl, .ports, .host, .od, .free] fun t =>
        t.purl.running = none ∧ (purlAt t part).rstate = 2 ∧ (purlAt t part).rstatus = stTimeout ∧
        setting t 0xB090 8 = setting s 0xB090 8 + 1 ∧ OdKept [obj 0xB090 8] s t) ∧
      (∀ x, tget s.host.xfers s.purl.xfer = some x → xferIdle x = true →
        (x.rfail = none → Completes .purlJobEnd s [.purl, .ports, .host] fun t =>
          t.purl.running = none ∧ purlAt t part = { purlAt s part with
            rstate := 2, rstatus := stDone, result := purlCrc (purlWide s) (purlFrom s) x.buf, bytesDone := purlLen s } ∧
          thas t.host.xfers s.purl.xfer = false) ∧
        (∀ st h off, x.rfail = some (st, h, off) → Completes .purlJobEnd s [.purl, .ports, .host, .free] fun t =>
          t.purl.running = none ∧ (purlAt t part).rstate = 2 ∧ (purlAt t part).rstatus = st ∧
          (purlAt t part).bytesDone = x.buf.length)) ∧
      (∀ x, tget s.host.xfers s.purl.xfer = some x → x.acc = none → x.reads ≠ [] →
        Turns .purlJobEnd s.purl.xfer s fun y => y = x))

/-! ### The dictionary and its transports (R407 to R428) -/

/-- Every WRITE row is checked first (R414, R424, R426): on a path that no engine serves the request is lost; one that a
check before those of the owning rule refuses is answered with that check's abort, and changes nothing else. -/
def Obligations.WritesAreChecked : Prop :=
  ∀ (s : State) (r : OdReq) (a : BitVec 8) (b : BitVec 16) (c : BitVec 32) (d : BitVec 64) (e : BitVec 96)
    (f : BitVec 128) (g : BitVec 256) (x : Bytes) (n : Nat) (row : Instr) (idx sub : Nat) (data : Bytes),
    (row, idx, sub, data) ∈ ([
      (.sampleNonce r x, 0x8010, 1, x), (.ownerClaim r x, 0x8001, 1, x),
      (.charterBegin r c, 0x8020, 1, le 4 c.toNat), (.charterChunk r x, 0x8020, 2, x),
      (.charterCommit r a, 0x8020, 3, le 1 a.toNat), (.dissolve r a, 0x8020, 6, le 1 a.toNat),
      (.contextCreate r f, 0x7101, 1, le 16 f.toNat), (.contextDestroy r b, 0x7101, 2, le 2 b.toNat),
      (.processRelease r c, 0x7101, 5, le 4 c.toNat), (.contextResume r b, 0x7101, 4, le 2 b.toNat),
      (.memobjCreate r g, 0x7106, 1, le 32 g.toNat), (.memobjFree r c, 0x7106, 3, le 4 c.toNat),
      (.memobjHostRef r c, 0x7106, 4, le 4 c.toNat), (.eventCreate r f, 0x7107, 1, le 16 f.toNat),
      (.eventFree r c, 0x7107, 3, le 4 c.toNat), (.eventHostRef r c, 0x7107, 4, le 4 c.toNat),
      (.faultEventWrite r c, 0x7105, 5, le 4 c.toNat), (.queueRestart r a, 0x7104, 0xA, le 1 a.toNat),
      (.queueConfigWrite r a d, 0x7104, a.toNat, le (queueObjLen a.toNat) d.toNat),
      (.tallyFlush r a, 0x3000, 8, le 1 a.toNat), (.memInterleaveWrite r a, 0x3000, 6, le 1 a.toNat),
      (.endpointIdWrite r b, 0x5000, 1, le 2 b.toNat), (.routeWrite r e, 0x5011, 1, le 12 e.toNat),
      (.kidxBind r c, 0x2101, 1, le 4 c.toNat), (.raiseEpochFloor r a, 0x2003, 2, le 1 a.toNat),
      (.userFlashWipe r b, 0x2003, 1, le 2 b.toNat), (.fwStageBegin r c, 0x9020, 2, le 4 c.toNat),
      (.fwStageChunk r x, 0x9020, 3, x), (.fwStageCommit r a, 0x9020, 5, le 1 a.toNat),
      (.fwActivate r a, 0x9020, 6, le 1 a.toNat), (.lcRequestClosed r c, 0x9010, 4, le 4 c.toNat),
      (.lcRequestOpen r c, 0x9010, 4, le 4 c.toNat), (.linkAdminDown r n, 0x4004, n + 1, [0]),
      (.linkAdminUp r n, 0x4004, n + 1, [1]), (.linkRelease r a, 0x4003, 1, le 1 a.toNat),
      (.rekeyNow r a, 0x4006, 1, le 1 a.toNat), (.regionCreate r f, 0x3101, 1, le 16 f.toNat),
      (.partitionCreate r x, 0x7301, 1, x), (.partitionReset r a, 0x7301, 2, le 1 a.toNat),
      (.partitionRemove r a, 0x7301, 3, le 1 a.toNat), (.sourceWrite r d, 0x7303, 1, le 8 d.toNat),
      (.patternLoad r f, 0x7201, 1, le 16 f.toNat), (.patternDelete r a, 0x7201, 2, le 1 a.toNat),
      (.patternPatch r x, 0x7201, 3, x), (.plaitCreate r x, 0x6011, 1, x),
      (.plaitDelete r b, 0x6011, 2, le 2 b.toNat), (.contextReset r b, 0xA011, 1, le 2 b.toNat),
      (.quarantineConsent r b, 0xA000, 6, le 2 b.toNat), (.logModeWrite r a, 0xA020, 2, le 1 a.toNat),
      (.logClear r a, 0xA020, 0xB, le 1 a.toNat), (.triggerNow r a, 0xA020, 7, le 1 a.toNat),
      (.dumpArm r f, 0xA030, 1, le 16 f.toNat), (.dumpDisarm r a, 0xA030, 2, le 1 a.toNat),
      (.shuttleRevoke r a, 0xC000, 3, le 1 a.toNat), (.purlAbort r a, 0xC010, 3, le 1 a.toNat),
      (.softReset r b, 0x9001, 1, le 2 b.toNat), (.mgmtReset r b, 0x9001, 2, le 2 b.toNat),
      (.retentionEnter r, 0x9030, 1, [1]), (.retentionExit r, 0x9030, 1, [0]),
      (.reservedSlotsWrite r n a, 0x7400, n + 1, le 1 a.toNat),
      (.trayRegionProvision r f, 0x5101, 1, le 16 f.toNat), (.trayRegionReset r b, 0x5101, 2, le 2 b.toNat)] : List (Instr × Nat × Nat × Bytes)) →
    (pathUp s r = false → exec row s = .next s) ∧
    (pathUp s r = true → writeGate s r idx sub data ≠ 0 →
      WriteRefused row s r idx sub (writeGate s r idx sub data))

/-- Dictionary messages (R408, R414 to R417, R424): the operation in the header decides; a header that breaks its rules is
answered TYPE; a READ gives what the machine holds, a WRITE of a plain setting stores it, a TABLE_READ gives rows of its
table; the body of an OD_REQUEST is such a message at the session's class. -/
def Obligations.DictionaryMessages : Prop :=
  ∀ s : State,
    (∀ (q : OdReq) (h : BitVec 128) (d : Bytes) (r : OdReq), r = { q with txn := BitVec.ofNat 16 (fld h.toNat 16 16) } →
      let op := fld h.toNat 0 8
      let idx := fld h.toNat 32 16
      let sub := fld h.toNat 48 8
      (pathUp s r = false → ∀ c ∈ [Instr.odRead q h, .odWrite q h d, .odTableRead q h], exec c s = .next s) ∧
      (pathUp s r = true → headerValid h.toNat = false →
        ∀ c ∈ [Instr.odRead q h, .odWrite q h d, .odTableRead q h], ∃ t, exec c s = .next t ∧
          Answers r (op % 128) idx sub abType [] s t ∧ OnlyChanges answerFields s t ∧ OdKept answerObjs s t) ∧
      (pathUp s r = true → headerValid h.toNat = true → op = 1 → idx ≠ 0x7105 → idx ≠ 0x2030 →
        (readGate s r idx sub false ≠ 0 → ∃ t, exec (.odRead q h) s = .next t ∧
          Answers r 1 idx sub (readGate s r idx sub false) [] s t ∧ OnlyChanges answerFields s t ∧
          OdKept answerObjs s t) ∧
        (readGate s r idx sub false = 0 →
          ∀ v ∈ [(0x1011, 0, le 1 (if profile s = 3 then 0xFF else profile s)), (0x2000, 5, le 8 (setting s 0x2000 5)),
            (0x2001, 2, le 8 s.fuses.serial), (0x3101, 4, le 2 (2048 - s.tally.regions.length)),
            (0x4001, 1, le 1 (linkAt s 0).state), (0x6000, 3, le 2 s.plaits.length), (0x7000, 5, le 2 s.host.ctxs.length),
            (0x7104, 9, le 4 (queueAt s (selectedQueue s r)).producer), (0x8000, 1, le 1 s.domain.state),
            (0x9000, 1, le 1 s.always.lastResetCause), (0x9000, 2, le 4 s.always.startCount),
            (0x9010, 1, le 1 (lcState s)), (0x9010, 3, le 8 s.fuses.lcWord), (0xA000, 8, le 8 s.tick),
            (0xA020, 8, le 1 s.log.state), (0xC010, 2, le 1 (s.purl.running.getD 0xFF))],
          idx = v.1 → sub = v.2.1 → ∃ t, exec (.odRead q h) s = .next t ∧ Answers r 1 idx sub 0 v.2.2 s t ∧
            OnlyChanges answerFields s t ∧ OdKept answerObjs s t)) ∧
      (headerValid h.toNat = true → op = 2 →
        (pathUp s r = true → writeGate s r idx sub d ≠ 0 → idx ≠ 0x2002 → idx ≠ 0x2101 → idx ≠ 0x3101 →
          WriteRefused (.odWrite q h d) s r idx sub (writeGate s r idx sub d)) ∧
        (Accepts r idx sub d s →
          (idx = 0x3000 ∧ sub ≤ 5 ∨ idx = 0x4000 ∨ idx = 0x4007 ∨ idx = 0x6000 ∨ idx = 0x7002 ∨ idx = 0x7301 ∧ sub = 4 ∨
            idx = 0x8020 ∧ sub = 7 ∨ idx = 0xA000 ∧ sub ≤ 3 ∨ idx = 0xA020 ∧ 3 ≤ sub ∧ sub ≤ 6 ∨ idx = 0xC000 ∧ sub = 1 ∨
            idx = 0xC010 ∧ sub = 1) →
          Writes (.odWrite q h d) s r idx sub [] [obj idx sub] fun t => setting t idx sub = ofLe d)) ∧
      (pathUp s r = true → headerValid h.toNat = true → op = 3 → idx ≠ 0xA021 →
        (readGate s r idx sub true ≠ 0 → ∃ t, exec (.odTableRead q h) s = .next t ∧
          Answers r 3 idx sub (readGate s r idx sub true) [] s t ∧ OnlyChanges answerFields s t ∧ OdKept answerObjs s t) ∧
        (readGate s r idx sub true = 0 →
          (tableTotal s idx ≤ fld h.toNat 64 16 → ∃ t, exec (.odTableRead q h) s = .next t ∧
            Answers r 3 idx sub abRange [] s t ∧ OnlyChanges answerFields s t ∧ OdKept answerObjs s t) ∧
          (fld h.toNat 64 16 < tableTotal s idx → ∃ t m bytes more, exec (.odTableRead q h) s = .next t ∧ 1 ≤ m ∧
            bytes = le 4 ((tableRow s idx (fld h.toNat 64 16)).length % 65536) ++ tableRow s idx (fld h.toNat 64 16) ++ more ∧
            Tells (.od r 0x83 (typeOf s idx sub) idx sub 0 m (tableTotal s idx) bytes) s t ∧
            OnlyChanges answerFields s t ∧ OdKept answerObjs s t)))) ∧
    (∀ path k b, pathUp s { path := path, sess := some k, txn := 0 } = false → exec (.odRequest path k b) s = .next s) ∧
    (∀ path k b, pathUp s { path := path, sess := some k, txn := 0 } = true →
      (b.length < 16 → (tget s.domain.sessions k).isSome = true ∧
        SecuredAnswers (.odRequest path k b) k stMalformed [] [] [] s fun _ => True) ∧
      (16 ≤ b.length → exec (.odRequest path k b) s =
        exec (.odWrite { path := path, sess := some k, txn := 0 } (BitVec.ofNat 128 (num b 0 16)) (b.drop 16)) s))

/-- MCTP (R418 to R420, R426): packets are put together by source and tag in order, a message that is complete and handled
waits in its path's queue, another is discarded and counted; a VL0 message for the block is queued; control requests on the
sideband are answered. Codes and bodies of control answers are those of log entry 38. -/
def Obligations.MctpMessages : Prop :=
  ∀ s : State,
    (∀ p : MctpPacket,
      (engineUp s = false ∨ (p.dst ≠ 0 ∧ p.dst ≠ 0xFF ∧ p.dst ≠ s.dict.i3cEid) →
        exec (.mctpPacketReceive p) s = .next s) ∧
      (engineUp s = true → (p.dst = 0 ∨ p.dst = 0xFF ∨ p.dst = s.dict.i3cEid) →
        (p.som = true → asmOf s p.src p.tag = none → s.dict.asm.length < 8 → p.body.length ≤ 16384 →
          (p.eom = false → Completes (.mctpPacketReceive p) s [.dict] fun t =>
            t.dict = { s.dict with asm := s.dict.asm ++
              [{ path := .i3c, src := p.src, tag := p.tag, seq := (p.seq + 1) % 4, bytes := p.body,
                 startTick := s.tick }] }) ∧
          (p.eom = true → handled .i3c p.body = true → s.dict.i3cQ.length < 16 →
            Completes (.mctpPacketReceive p) s [.dict] fun t =>
              t.dict = { s.dict with i3cQ := s.dict.i3cQ ++
                [{ port := 0, srcEp := 0, src := p.src, tag := p.tag, bytes := p.body }] }) ∧
          (p.eom = true → handled .i3c p.body = false → Completes (.mctpPacketReceive p) s [.od] fun t =>
            setting t 0xB0A0 5 = setting s 0xB0A0 5 + 1 ∧ OdKept [obj 0xB0A0 5] s t)) ∧
        (p.som = true → asmOf s p.src p.tag = none → 8 ≤ s.dict.asm.length →
          Completes (.mctpPacketReceive p) s [.od] fun t =>
            setting t 0xB0A0 5 = setting s 0xB0A0 5 + 1 ∧ OdKept [obj 0xB0A0 5] s t) ∧
        (p.som = false → asmOf s p.src p.tag = none → Completes (.mctpPacketReceive p) s [.od] fun t =>
          setting t 0xB0A0 5 = setting s 0xB0A0 5 + 1 ∧ OdKept [obj 0xB0A0 5] s t) ∧
        (∀ a, p.som = false → asmOf s p.src p.tag = some a →
          (a.seq ≠ p.seq % 4 → Completes (.mctpPacketReceive p) s [.dict, .od] fun t =>
            asmOf t p.src p.tag = none ∧ t.dict.i3cQ = s.dict.i3cQ ∧
            setting t 0xB0A0 5 = setting s 0xB0A0 5 + 1 ∧ OdKept [obj 0xB0A0 5] s t) ∧
          (a.seq = p.seq % 4 → p.eom = false → a.bytes.length + p.body.length ≤ 16384 →
            Completes (.mctpPacketReceive p) s [.dict] fun t =>
              asmOf t p.src p.tag = some { a with seq := (p.seq + 1) % 4, bytes := a.bytes ++ p.body } ∧
              t.dict.i3cQ = s.dict.i3cQ) ∧
          (a.seq = p.seq % 4 → p.eom = true → a.bytes.length + p.body.length ≤ 16384 →
            handled .i3c (a.bytes ++ p.body) = true → s.dict.i3cQ.length < 16 →
            Completes (.mctpPacketReceive p) s [.dict] fun t =>
              asmOf t p.src p.tag = none ∧ t.dict.i3cQ = s.dict.i3cQ ++
                [{ port := 0, srcEp := 0, src := p.src, tag := p.tag, bytes := a.bytes ++ p.body }])))) ∧
    (∀ src tag, asmOf s src tag = none → exec (.mctpAssemblyTimeout src tag) s = .next s) ∧
    (∀ src tag a, asmOf s src tag = some a →
      (s.tick < a.startTick + 10000 → exec (.mctpAssemblyTimeout src tag) s = .next s) ∧
      (a.startTick + 10000 ≤ s.tick → Completes (.mctpAssemblyTimeout src tag) s [.dict, .od] fun t =>
        asmOf t src tag = none ∧ t.dict.i3cQ = s.dict.i3cQ ∧ setting t 0xB0A0 5 = setting s 0xB0A0 5 + 1 ∧
        OdKept [obj 0xB0A0 5] s t)) ∧
    (∀ port src dst m, port < linkPortsOf s.cfg →
      ((linkAt s port).state < 2 ∨ 4 < (linkAt s port).state → exec (.vl0MctpMessage port src dst m) s = .next s) ∧
      (2 ≤ (linkAt s port).state → (linkAt s port).state ≤ 4 → (dst = 0xFFFF ∨ dst = ownEndpoint s) →
        pathUp s { path := .vl0, sess := none, txn := 0 } = true →
        (m.length < 5 → Completes (.vl0MctpMessage port src dst m) s [.od] fun t =>
          setting t 0xB0A0 5 = setting s 0xB0A0 5 + 1 ∧ OdKept [obj 0xB0A0 5] s t) ∧
        (5 ≤ m.length → zeros m 3 1 = true → fld (num m 2 1) 4 4 = 0 → num m 0 1 ≠ 0 →
          num m 0 1 ≠ setting s 0x1001 5 → exec (.vl0MctpMessage port src dst m) s = .next s) ∧
        (5 ≤ m.length → zeros m 3 1 = true → fld (num m 2 1) 4 4 = 0 →
          (num m 0 1 = 0 ∨ num m 0 1 = setting s 0x1001 5) → tbit (num m 2 1) 3 = true →
          handled .vl0 (m.drop 4) = true → s.dict.vl0Q.length < 16 →
          Completes (.vl0MctpMessage port src dst m) s [.dict] fun t =>
            t.dict = { s.dict with vl0Q := s.dict.vl0Q ++
              [{ port := port, srcEp := src, src := num m 1 1, tag := fld (num m 2 1) 0 3, bytes := m.drop 4 }] })) ∧
      ((linkAt s port).state = 4 → dst ≠ 0xFFFF → dst ≠ ownEndpoint s → profile s ≠ 1 →
        exec (.vl0MctpMessage port src dst m) s = .next s)) ∧
    (∀ path c8 b8 cc, controlUp s path = false → ∀ c ∈ [Instr.setEndpointId path cc b8, .getEndpointId path,
        .getMctpVersionSupport path c8, .getMessageTypeSupport path, .mctpUnsupportedCmd path c8], exec c s = .next s) ∧
    (∀ path, controlUp s path = true →
      (∀ (c : Instr) (cmd code : Nat) (body : Bytes) (eid mt un : BitVec 8) (ctl : Bool),
        (c, cmd, code, body) ∈ [(Instr.getEndpointId path, 2, 0, le 1 s.dict.i3cEid ++ [0, 0]),
          (.getMctpVersionSupport path 0, 4, 0, [1, 0xF1, 0xF3, 0xFF, 0]),
          (.getMctpVersionSupport path 0xFF, 4, 0, [1, 0xF1, 0xF3, 0xFF, 0]),
          (.getMessageTypeSupport path, 5, 0, [3, 5, 6, 0x7F]), (.mctpUnsupportedCmd path un, un.toNat, 5, []),
          (.setEndpointId path ctl 0, 1, 2, []), (.setEndpointId path ctl 0xFF, 1, 2, [])] ∨
        (c = .getMctpVersionSupport path mt ∧ mt ≠ 0 ∧ mt ≠ 0xFF ∧ mt ≠ 5 ∧ mt ≠ 6 ∧ cmd = 4 ∧ code = 0x80 ∧ body = []) ∨
        (c = .setEndpointId path false eid ∧ eid ≠ 0 ∧ eid ≠ 0xFF ∧ cmd = 1 ∧ code = 0 ∧
          body = [0x10] ++ le 1 s.dict.i3cEid ++ [0]) →
        ∃ t, exec c s = .next t ∧ Tells (.mctp path cmd code body) s t ∧ OnlyChanges answerFields s t ∧ OdKept [] s t ∧
          t.dict.i3cEid = s.dict.i3cEid ∧ t.dict.i3cQ = s.dict.i3cQ.drop 1) ∧
      (∀ mt : BitVec 8, (mt = 5 ∨ mt = 6) → ∃ t b, exec (.getMctpVersionSupport path mt) s = .next t ∧ b.length = 4 ∧
        Tells (.mctp path 4 0 ([1] ++ b)) s t ∧ OnlyChanges answerFields s t ∧ OdKept [] s t) ∧
      (∀ eid : BitVec 8, eid ≠ 0 → eid ≠ 0xFF → ∃ t, exec (.setEndpointId path true eid) s = .next t ∧
        Tells (.mctp path 1 0 ([0] ++ le 1 eid.toNat ++ [0])) s t ∧ t.dict.i3cEid = eid.toNat ∧
        OnlyChanges answerFields s t ∧ OdKept [] s t))

/-! ### Recovery, the tacking log, dumps (R454 to R479) -/

/-- Recovery, the log and armed dumps (R454, R455, R457 to R459, R463, R466, R469, R474 to R477): a missed heartbeat is
counted and the third resets the management island; a hung queue and a CONTEXT_RESET start a context reset, with its record;
consent is taken in quarantine only; the log's mode changes while it is off, a trigger freezes it, LOG_CLEAR empties it, and
LOG_SEALED returns it sealed; a dump is armed under a live partition and seal key. -/
def Obligations.RecoveryAndLog : Prop :=
  ∀ (s : State) (r : OdReq),
    (s.recovery.hbRunning = false ∨ s.seq.halted = true → exec .heartbeatWrite s = .next s) ∧
    (s.recovery.hbRunning = true → s.seq.halted = false → Completes .heartbeatWrite s [.recovery] fun t =>
      t.recovery = { s.recovery with hbWritten := true }) ∧
    (s.recovery.hbRunning = false ∨ s.tick / 1000 = s.recovery.hbSince / 1000 →
      exec .heartbeatIntervalEnd s = .next s) ∧
    (s.recovery.hbRunning = true → s.tick / 1000 ≠ s.recovery.hbSince / 1000 →
      (s.recovery.hbWritten = true → Completes .heartbeatIntervalEnd s [.recovery] fun t =>
        t.recovery = { s.recovery with hbSince := s.tick, hbWritten := false, hbMisses := 0 }) ∧
      (s.recovery.hbWritten = false → s.recovery.hbMisses + 1 < 3 →
        Completes .heartbeatIntervalEnd s [.recovery, .log, .od] fun t =>
          t.recovery = { s.recovery with hbSince := s.tick, hbMisses := s.recovery.hbMisses + 1 } ∧
          setting t 0xB000 9 = setting s 0xB000 9 + 1 ∧ OdKept [obj 0xB000 9, obj 0xA020 0xA] s t) ∧
      (s.recovery.hbWritten = false → 3 ≤ s.recovery.hbMisses + 1 → s.links.ports = [] → ∃ t,
        exec .heartbeatIntervalEnd s = .next t ∧ t.seq.mgmtReset = true ∧ t.seq.lastMgmtCause = 1 ∧
        t.seq.phase = s.seq.phase ∧ t.recovery.hbRunning = false ∧ t.domain.sessions = [] ∧ t.dict.i3cQ = [] ∧
        t.domain.charter = s.domain.charter ∧ setting t 0xB000 9 = setting s 0xB000 9 + 1 ∧
        setting t 0xB000 0xA = setting s 0xB000 0xA + 1 ∧
        Keeps [.cfg, .pins, .always, .power, .tap, .fuses, .flash, .fw, .lc, .keys, .tension, .sources, .shuttle, .purl,
               .ports, .tally, .fabric, .plaits, .host, .patterns, .interval, .tick, .pending] s t)) ∧
    (∀ c q, (4 ≤ q ∨ hung s c q = false) → exec (.hangTimerExpiry c q) s = .next s) ∧
    (∀ v : BitVec 16, Accepts r 0xA011 1 (le 2 v.toNat) s →
      (contextsOf s.cfg ≤ v.toNat → WriteRefused (.contextReset r v) s r 0xA011 1 abRange) ∧
      (v.toNat < contextsOf s.cfg → (ctxState s v.toNat ≠ 1 ∧ ctxState s v.toNat ≠ 2 ∨ s.recovery.quarantined = true) →
        WriteRefused (.contextReset r v) s r 0xA011 1 abState) ∧
      (v.toNat < contextsOf s.cfg → (ctxState s v.toNat = 1 ∨ ctxState s v.toNat = 2) → s.recovery.quarantined = false →
        4 ≤ s.recovery.runs.length → WriteRefused (.contextReset r v) s r 0xA011 1 abBusy)) ∧
    (∀ (row : Instr) (c cause queue : Nat) (x : Ctx) (v : BitVec 16), ctxAt s c = some x → Calm s → s.tension.units = [] →
      s.patterns.launches = [] → s.patterns.loads = [] →
      (row = .hangTimerExpiry c queue ∧ queue < 4 ∧ hung s c queue = true ∧ cause = 1 ∨
        row = .contextReset r v ∧ v.toNat = c ∧ queue = 0xFF ∧ cause = 2 ∧ c < contextsOf s.cfg ∧
          Accepts r 0xA011 1 (le 2 v.toNat) s ∧ (x.state = 1 ∨ x.state = 2) ∧ s.recovery.quarantined = false ∧ s.recovery.runs.length < 4) →
      ∃ t, exec row s = .next t ∧ ctxAt t c = some { x with state := 3 } ∧ (∀ j, j ≠ c → ctxAt t j = ctxAt s j) ∧
        (∃ run, tget t.recovery.runs c = some run ∧ run.cause = cause ∧ run.queue = queue ∧ run.event = s.tick) ∧
        t.recovery.ticks = s.recovery.ticks ++ [s.tick] ∧
        t.recovery.inWindow =
          ((s.recovery.ticks ++ [s.tick]).filter fun n => decide (s.tick < n + setting s 0xA000 3)).length ∧
        t.recovery.records = s.recovery.records ∧ (row = .contextReset r v → Answers r 2 0xA011 1 0 [] s t) ∧
        Keeps [.cfg, .pins, .seq, .always, .power, .tap, .fuses, .flash, .fw, .lc, .parts, .sources, .domain, .gang, .dumps,
               .interval, .tick, .pending] s t) ∧
    (∀ v : BitVec 16, Accepts r 0xA000 6 (le 2 v.toNat) s →
      (v.toNat ≠ 0x5153 → WriteRefused (.quarantineConsent r v) s r 0xA000 6 abRange) ∧
      (v.toNat = 0x5153 → s.recovery.quarantined = false → WriteRefused (.quarantineConsent r v) s r 0xA000 6 abState) ∧
      (v.toNat = 0x5153 → s.recovery.quarantined = true → Writes (.quarantineConsent r v) s r 0xA000 6 [.recovery] []
        fun t => t.recovery = { s.recovery with consent := true })) ∧
    (∀ v : BitVec 8, Accepts r 0xA020 2 (le 1 v.toNat) s →
      (setting s 0xA020 1 ≠ 0 → WriteRefused (.logModeWrite r v) s r 0xA020 2 abState) ∧
      (setting s 0xA020 1 = 0 → Writes (.logModeWrite r v) s r 0xA020 2 [] [obj 0xA020 2] fun t =>
        setting t 0xA020 2 = v.toNat)) ∧
    (∀ v : BitVec 8, Accepts r 0xA020 0xB (le 1 v.toNat) s → Writes (.logClear r v) s r 0xA020 0xB [.log] [] fun t =>
      t.log = { s.log with recs := [], state := setting s 0xA020 1, triggerIndex := 0, postLeft := 0 }) ∧
    (∀ v : BitVec 8, Accepts r 0xA020 7 (le 1 v.toNat) s →
      (setting s 0xA020 1 = 1 → setting s 0xA020 2 = 2 → s.log.state = 1 → tbit (setting s 0xA020 4) 0 = true →
        Writes (.triggerNow r v) s r 0xA020 7 [.log] [obj 0xA020 0xA] fun t =>
          t.log.state = (if setting s 0xA020 6 = 0 then 4 else 3) ∧ t.log.postLeft = setting s 0xA020 6 ∧
          t.log.triggerIndex = t.log.recs.length - 1) ∧
      (setting s 0xA020 1 ≠ 1 ∨ setting s 0xA020 2 ≠ 2 ∨ s.log.state ≠ 1 ∨ tbit (setting s 0xA020 4) 0 = false →
        Writes (.triggerNow r v) s r 0xA020 7 [] [] fun t => t.log = s.log)) ∧
    (∀ first n : BitVec 16, pathUp s r = false → exec (.logSealedRead r first n) s = .next s) ∧
    (∀ first n : BitVec 16, pathUp s r = true →
      (∀ g, (if readGate s r 0xA021 0 true ≠ 0 then readGate s r 0xA021 0 true
          else if sealPin s 0 = none ∨ drbgServes s = false then abState
          else if logBlocks s ≤ first.toNat then abRange else 0) = g → g ≠ 0 →
        ∃ t, exec (.logSealedRead r first n) s = .next t ∧ Answers r 3 0xA021 0 g [] s t ∧
          OnlyChanges answerFields s t ∧ OdKept answerObjs s t) ∧
      (∀ pin, readGate s r 0xA021 0 true = 0 → sealPin s 0 = some pin → drbgServes s = true →
        first.toNat < logBlocks s → 0 < n.toNat → ∃ t m rows, exec (.logSealedRead r first n) s = .next t ∧ 1 ≤ m ∧
          Tells (.od r 0x83 (typeOf s 0xA021 0) 0xA021 0 0 m (logBlocks s) rows) s t ∧
          OnlyChanges (.keys :: answerFields) s t ∧ OdKept (obj 0x2030 4 :: answerObjs) s t ∧
          t.keys.pins = s.keys.pins ∧ t.keys.held = s.keys.held)) ∧
    (∀ v : BitVec 128, Accepts r 0xA030 1 (le 16 v.toNat) s →
      (fld v.toNat 104 4 = 0 ∨ partitionsOf s.cfg ≤ fld v.toNat 96 6 →
        WriteRefused (.dumpArm r v) s r 0xA030 1 abRange) ∧
      (fld v.toNat 102 2 = 0 → fld v.toNat 108 4 = 0 → fld v.toNat 113 15 = 0 → fld v.toNat 104 4 ≠ 0 →
        fld v.toNat 96 6 < partitionsOf s.cfg →
        (partLive s (fld v.toNat 96 6) = false ∨ sealPin s (fld v.toNat 104 4) = none →
          WriteRefused (.dumpArm r v) s r 0xA030 1 abState) ∧
        (∀ pin, partLive s (fld v.toNat 96 6) = true → sealPin s (fld v.toNat 104 4) = some pin →
          (lowestFree s.dumps 16 0 = none → WriteRefused (.dumpArm r v) s r 0xA030 1 abBusy) ∧
          (∀ k, lowestFree s.dumps 16 0 = some k → Writes (.dumpArm r v) s r 0xA030 1 [.dumps] [] fun t =>
            (∃ e, tget t.dumps k = some e ∧ e.nameHash = fld v.toNat 0 64 ∧ e.step = fld v.toNat 64 32 ∧
              e.partition = fld v.toNat 96 6 ∧ e.sealNo = fld v.toNat 104 4 ∧ e.oneShot = tbit v.toNat 112) ∧
            (∀ j, j ≠ k → tget t.dumps j = tget s.dumps j))))) ∧
    (∀ v : BitVec 8, Accepts r 0xA030 2 (le 1 v.toNat) s →
      (tget s.dumps v.toNat = none → WriteRefused (.dumpDisarm r v) s r 0xA030 2 abState) ∧
      (∀ e, tget s.dumps v.toNat = some e → Writes (.dumpDisarm r v) s r 0xA030 2 [.dumps] [] fun t =>
        tget t.dumps v.toNat = none ∧ ∀ j, j ≠ v.toNat → tget t.dumps j = tget s.dumps j))

/-! ### Headers, and what every step keeps -/

/-- The headers of flits, fabric messages and plait messages (R176, R210, R264): writing out the fields of a header that was
read gives the bits that were read, and reading what was written gives the fields. -/
def Obligations.HeadersRoundTrip : Prop :=
  (∀ b : Bytes, b.length = 16 → hdrBytes (hdrOf b) = b) ∧
  (∀ h : Hdr, h.ftype < 16 → h.vl < 8 → h.keymode < 4 → h.glen < 4 → h.gidx < 4 → h.epar < 2 → h.cmark < 2 →
    h.cecho < 2 → h.gseq < 2 ^ 24 → h.ack < 2 ^ 24 → h.nak < 2 → h.crdVl < 8 → h.crdCnt < 256 → h.dst < 65536 →
    h.src < 65536 → h.slotV < 8 → h.resv < 2 ^ 17 → ∀ body, hdrOf (hdrBytes h ++ body) = h) ∧
  (∀ v : BitVec 256, fhdrWord (fhdrOf v) = v) ∧
  (∀ v : BitVec 256, phdrReserved v = true → phdrWord (phdrOf v) = v)

/-- What every command keeps, whatever the state: the configuration, the queue but for the command taken, tray memory in its
canonical form, and the bounds of the log, the certificate store, the recovery records, the assemblies and the queues (R363,
R419, R426, R465, R474). -/
def Obligations.EveryStepKeepsForm : Prop :=
  ∀ s t, KeepsForm s → step s = .next t → t.cfg = s.cfg ∧ t.pending = s.pending.drop 1 ∧ KeepsForm t

/-- The state after reset has that form. -/
def Obligations.ResetHasForm : Prop := KeepsForm State.reset

/-! ### Rules stated by themselves -/

/-- R103: a thermometer word decodes to one plus the index of its highest blown bit, or to 0 when no bit is blown, whatever
lies below; the largest value is 64. -/
def Obligations.ThermometerWords : Prop :=
  ∀ w, w < 2 ^ 64 →
    (w = 0 → thermometer w = 0) ∧
    (w ≠ 0 → ∃ i, i < 64 ∧ tbit w i = true ∧ (∀ j, i < j → tbit w j = false) ∧ thermometer w = i + 1) ∧
    (∀ v i, v < 2 ^ 64 → tbit w i = true → tbit v i = true → (∀ j, i < j → tbit w j = false ∧ tbit v j = false) →
      thermometer w = thermometer v) ∧
    thermometer w ≤ 64 ∧ thermometer (2 ^ 64 - 1) = 64

/-- R9: a write to any object of CONFIG_SIZES, on a path that is served, ends with abort 0x0203 READ_ONLY, and changes
nothing. -/
def Obligations.ConfigSizesAreReadOnly : Prop :=
  ∀ (s : State) (q : OdReq) (h : BitVec 128) (d : Bytes) (r : OdReq) (sub : Nat),
    r = { q with txn := BitVec.ofNat 16 (fld h.toNat 16 16) } → headerValid h.toNat = true → fld h.toNat 0 8 = 2 →
    fld h.toNat 32 16 = 0x1010 → fld h.toNat 48 8 = sub → sub ≤ 14 → (findIndex s 0x1010).isSome = true →
    pathUp s r = true → WriteRefused (.odWrite q h d) s r 0x1010 sub 0x0203

/-- R446: LC_WORD decodes to OPEN for an even number of whole groups blown from the lowest, to CLOSED for an odd number, to
LOCKED for any other value; with six groups blown no further transition is possible. -/
def Obligations.LifeCycleWord : Prop :=
  ∀ s : State, s.fuses.lcWord < 2 ^ 64 →
    (∀ n, n ≤ 6 → s.fuses.lcWord = 2 ^ (8 * n) - 1 →
      lcGroups s.fuses.lcWord = some n ∧ lcState s = (if n % 2 = 0 then 0 else 1)) ∧
    ((∀ n, n ≤ 6 → s.fuses.lcWord ≠ 2 ^ (8 * n) - 1) → lcGroups s.fuses.lcWord = none ∧ lcState s = 2) ∧
    ((∃ i, 48 ≤ i ∧ tbit s.fuses.lcWord i = true) → lcState s = 2) ∧
    ((∃ g, g < 6 ∧ fld s.fuses.lcWord (8 * g) 8 ≠ 0 ∧ fld s.fuses.lcWord (8 * g) 8 ≠ 255) → lcState s = 2) ∧
    ((∃ g, g < 5 ∧ fld s.fuses.lcWord (8 * g) 8 = 0 ∧ fld s.fuses.lcWord (8 * (g + 1)) 8 = 255) → lcState s = 2) ∧
    (lcGroups s.fuses.lcWord = some 6 → ∀ target, lcGoal s.fuses.lcWord target = none)

/-! ### Tension (R22 to R50) -/

/-- Admission (R38, R39, R44, R49, R95): while tension is closed a unit waits; one whose key is gone completes with
KEY_GONE; one that some condition holds back waits, and each such condition is counted once; one that nothing holds back
is admitted under the next number, in its stream's order. -/
def Obligations.UnitsAreAdmitted : Prop :=
  ∀ (u : UnitDesc) (s : State), unitPorts s u = true → running s = true → u.cost ≤ 32 → u.cls ≤ 5 →
    (s.tension.closed = true →
      Completes (.unitAdmit u) s [.tension] fun t => t.tension.held = s.tension.held ++ [(u, [])]) ∧
    (s.tension.closed = false → s.tension.held = [] →
      (∀ st, unitEnds s u = some st → st = stKeyGone ∧ Completes (.unitAdmit u) s [.tension, .od, .out] fun t =>
        t.out = .unit 0 stKeyGone :: s.out ∧ t.tension.held = [] ∧ t.tension.units = s.tension.units ∧
        setting t 0x2000 5 = setting s 0x2000 5 + 1 ∧ OdKept [obj 0x2000 5] s t) ∧
      (unitEnds s u = none → unitBars s u = [] → Completes (.unitAdmit u) s [.keys, .tension, .tally, .od] fun t =>
        t.tension.held = [] ∧ t.tension.nextUnit = s.tension.nextUnit + 1 ∧
        tget t.tension.units s.tension.nextUnit =
          some { desc := u, cls := effClass s u, pillow := nextPillow s,
                 bobbin := if effClass s u = 0 then (positions s (nextPillow s) (u.partition.getD 0)).headD 0 / 4
                   else leastBobbin s (nextPillow s),
                 seq := (streamOf s u).give % 65536, issued := false } ∧
        t.tension.bookedNodes = s.tension.bookedNodes + u.booked ∧
        OdKept [obj 0xB000 1, obj 0xB000 2] s t) ∧
      (unitEnds s u = none → unitBars s u ≠ [] → u.path = none → Completes (.unitAdmit u) s [.keys, .tension, .od] fun t =>
        t.tension.held = [(u, unitBars s u)] ∧ t.tension.units = s.tension.units ∧
        ∀ b ∈ unitBars s u, setting t 0xB030 b = setting s 0xB030 b + 1))

/-- Tickets, issue, egress and reserved positions (R23, R26, R35, R40, R45, R46, R352): an unused grant returns after four
frames; an issued unit gives back its tickets, or its cycles of the backlog; a unit leaves in its stream's order; more
positions than a pillow has are RANGE; a change takes effect at a frame boundary. -/
def Obligations.TicketsAndPositions : Prop :=
  (∀ s : State, s.tension.held = [] →
     (∀ i p k g, k < pillowsOf s.cfg →
       (s.tension.grants.find? fun g => g.island == i && g.partition == p && g.pillow == k) = some g →
       ((pillowAt s k).frames < g.lastFrame + 4 → exec (.ticketGrantExpiry i p k) s = .next s) ∧
       (g.lastFrame + 4 ≤ (pillowAt s k).frames → Completes (.ticketGrantExpiry i p k) s [.tension] fun t =>
         t.tension.grants = s.tension.grants.erase g ∧ ticketsOut t k p = ticketsOut s k p - g.left ∧
         t.tension.units = s.tension.units ∧ t.tension.backlog = s.tension.backlog)) ∧
     (∀ n u, tget s.tension.units n = some u → u.issued = false →
       (issuesNext s n u = false → exec (.unitIssue n) s = .next s) ∧
       (issuesNext s n u = true → Completes (.unitIssue n) s [.tension, .od] fun t =>
         tget t.tension.units n = some { u with issued := true } ∧
         (u.cls = 0 → ticketsOut t u.pillow (u.desc.partition.getD 0) =
             ticketsOut s u.pillow (u.desc.partition.getD 0) - u.desc.cost ∧ t.tension.backlog = s.tension.backlog) ∧
         (u.cls ≠ 0 → backlogOf t u.bobbin = backlogOf s u.bobbin - u.desc.cost ∧
           t.tension.ticketsOut = s.tension.ticketsOut) ∧
         setting t 0xB000 3 = setting s 0xB000 3 + u.desc.cost ∧
         setting t 0xB001 (u.pillow + 1) = setting s 0xB001 (u.pillow + 1) + u.desc.cost ∧
         t.tension.grants = s.tension.grants ∧ t.tension.streams = s.tension.streams ∧
         OdKept [obj 0xB000 3, obj 0xB001 (u.pillow + 1)] s t)) ∧
     (∀ n u, tget s.tension.units n = some u → u.issued = true →
       ((s.tension.units.any fun e => decide (e.1 < n) && streamOf s e.2.desc == streamOf s u.desc) = true →
         exec (.unitEgress n) s = .next s) ∧
       ((s.tension.units.any fun e => decide (e.1 < n) && streamOf s e.2.desc == streamOf s u.desc) = false →
         Completes (.unitEgress n) s [.tension, .out] fun t =>
           thas t.tension.units n = false ∧ t.out = .unit n 0 :: s.out ∧
           t.tension.bookedNodes = s.tension.bookedNodes - u.desc.booked ∧ t.tension.grants = s.tension.grants ∧
           t.tension.backlog = s.tension.backlog ∧ t.tension.ticketsOut = s.tension.ticketsOut))) ∧
  (∀ s : State,
     (∀ (r : OdReq) (part : Nat) (v : BitVec 8), Accepts r 0x7400 (part + 1) [v] s →
       let sum := ((List.range (partitionsOf s.cfg)).map fun p => if p = part then v.toNat else reservedSlots s p).sum
       (2 * lastPillowOf s.cfg < sum → WriteRefused (.reservedSlotsWrite r part v) s r 0x7400 (part + 1) abRange) ∧
       (sum ≤ 2 * lastPillowOf s.cfg → (∀ p, tget s.parts part = some p → p.state < 2) →
         Writes (.reservedSlotsWrite r part v) s r 0x7400 (part + 1) [] [obj 0x7400 (part + 1)] fun t =>
           reservedSlots t part = v.toNat)) ∧
     (∀ k, k < pillowsOf s.cfg → s.tension.held = [] → Completes (.frameBoundaryApply k) s [.tension] fun t =>
       (pillowAt t k).frames = (pillowAt s k).frames + 1 ∧
       (∀ q, q < partitionsOf s.cfg → reservedSlots s q ≤ (positions s k q).length →
         (positions t k q).length ≤ reservedSlots s q) ∧
       t.tension.units = s.tension.units ∧ t.tension.ticketsOut = s.tension.ticketsOut ∧
       ∀ j, j ≠ k → pillowAt t j = pillowAt s j))

/-- Credits and controllers (R53, R54, R65, R67, R68): returned credits add to those held, and return nothing while the
port is not enabled; a beat without a credit is counted and nothing else; a controller that is not ready voids the credits
of its port, one that turns ready grants between 1 and 256. -/
def Obligations.CreditsAndControllers : Prop :=
  ∀ s : State,
    (∀ p c n, portExists s p = true → portUp s p = false → exec (.creditReturn p c n) s = .next s) ∧
    (∀ m c n, m < meshPortsOf s.cfg → c ≤ 1 → portUp s (.mesh m) = true → Calm s →
      Completes (.creditReturn (.mesh m) c n) s [.ports] fun t =>
        creditOf t.ports.owned (.mesh m) c = creditOf s.ports.owned (.mesh m) c + n ∧
        t.ports.granted = s.ports.granted ∧ t.ports.memReads = s.ports.memReads ∧ t.ports.outReqs = s.ports.outReqs) ∧
    (∀ m n, m < memPortsOf s.cfg → portUp s (.mem m) = true → Calm s →
      Completes (.creditReturn (.mem m) 0 n) s [.ports] fun t =>
        creditOf t.ports.owned (.mem m) 0 = creditOf s.ports.owned (.mem m) 0 + n ∧
        t.ports.granted = s.ports.granted ∧ t.ports.memReads = s.ports.memReads) ∧
    (∀ m c, m < meshPortsOf s.cfg → c ≤ 5 → portUp s (.mesh m) = true → creditOf s.ports.granted (.mesh m) c = 0 →
      Completes (.beatWithoutCredit (.mesh m) c) s [.od] fun t =>
        setting t 0xB031 1 = setting s 0xB031 1 + 1 ∧ OdKept [obj 0xB031 1] s t) ∧
    (∀ p c, portExists s p = true → (portUp s p = false ∨ 0 < creditOf s.ports.granted p c) →
      exec (.beatWithoutCredit p c) s = .next s) ∧
    (∀ m, m < memPortsOf s.cfg → Completes (.memCtlRdyFall m) s [.power, .ports] fun t =>
      m ∉ t.power.ctlRdy ∧ portUp t (.mem m) = false ∧ creditOf t.ports.owned (.mem m) 0 = 0 ∧
      (∀ w ∈ t.ports.waitOut, w.1 ≠ .mem m) ∧ (∀ p, p ≠ .mem m → portUp t p = portUp s p) ∧
      t.ports.memReads = s.ports.memReads ∧ t.ports.inReqs = s.ports.inReqs) ∧
    (∀ m c, m < memPortsOf s.cfg → m ∉ s.power.ctlRdy → profile s ≠ 2 → running s = false →
      Completes (.memCtlRdyRise m c) s [.power, .ports] fun t =>
        m ∈ t.power.ctlRdy ∧ t.power.enabled = s.power.enabled ∧
        creditOf t.ports.owned (.mem m) 0 = Nat.max 1 (Nat.min 256 c)) ∧
    (∀ m c, m < memPortsOf s.cfg → m ∉ s.power.ctlRdy → profile s ≠ 2 → running s = true → s.power.retention = false →
      s.power.quiesced = false → Calm s → Completes (.memCtlRdyRise m c) s [.power, .ports] fun t =>
        m ∈ t.power.ctlRdy ∧ .mem m ∈ t.power.enabled ∧
        creditOf t.ports.owned (.mem m) 0 = Nat.max 1 (Nat.min 256 c)) ∧
    (∀ m c, m < memPortsOf s.cfg → profile s = 2 → exec (.memCtlRdyRise m c) s = .next s)

/-! ### The pricking (R106 to R140) -/

/-- The pin cache and invalidation (R124, R125, R127 to R129): the oldest miss is filled while there is room; a handle that is
not live is refused with STATE; an accepted one takes the pin out of use at once, with a new GEN, and its sweep, once nothing
admitted uses the subtree, frees the record. -/
def Obligations.PinsCachedAndInvalidated : Prop :=
  (∀ (s : State) (h : Nat) (rest : List Nat), s.ports.inReqs = [] → s.ports.heldReqs = [] →
     s.keys.missQueue = h :: rest →
     (live s h = false → Completes .pinCacheFillDone s [.keys] fun t =>
       t.keys.missQueue = rest ∧ t.keys.cache = s.keys.cache ∧ t.keys.pins = s.keys.pins) ∧
     (live s h = true → s.keys.cache.length < cacheRoom s → Completes .pinCacheFillDone s [.keys, .od] fun t =>
       t.keys.missQueue = rest ∧
       tget t.keys.cache (pinIdx h) = some { gen := pinGen h, orphaned := false, lastUse := s.keys.useClock + 1 } ∧
       (∀ j, j ≠ pinIdx h → tget t.keys.cache j = tget s.keys.cache j) ∧ t.keys.pins = s.keys.pins ∧
       t.keys.held = s.keys.held ∧ OdKept [obj 0x2000 4] s t)) ∧
  (∀ s : State,
     (∀ (r : OdReq) (v : BitVec 32), Accepts r 0x2002 1 (le 4 v.toNat) s →
       let i := pinIdx v.toNat
       (5 ≤ (pinAt s i).level → live s v.toNat = false → s.plaits = [] → s.fabric.out = [] → s.ports.inReqs = [] →
         s.ports.merge = [] → s.fabric.offers = [] → s.fabric.offerTable = [] →
         WriteRefused (.pinInvalidate r v) s r 0x2002 1 abState) ∧
       (5 ≤ (pinAt s i).level → live s v.toNat = true → s.keys.inval.length < 16 → s.keys.inval = [] → Calm s →
         s.tension.units = [] →
         Writes (.pinInvalidate r v) s r 0x2002 1 [.keys, .tension, .tally] [] fun t =>
           (pinAt t i).state = 2 ∧ live t v.toNat = false ∧ thas t.keys.inval i = true ∧
           (pinGen v.toNat < 0xFFFF → (pinAt t i).gen = pinGen v.toNat + 1) ∧
           (∀ j, j ≠ i → pinAt t j = pinAt s j) ∧ t.keys.held = s.keys.held ∧ t.tension.units = [] ∧
           t.tally.regions = s.tally.regions)) ∧
     (∀ i, thas s.keys.inval i = true → subtreeInUse s i = true → exec (.invalidationSweep i) s = .next s) ∧
     (∀ i, thas s.keys.inval i = true → subtreeInUse s i = false → s.keys.invalWaiting = [] → s.tally.regions = [] →
       Calm s → thas s.keys.pins i = true → (pinAt s i).state = 2 → below s i i = true →
       Completes (.invalidationSweep i) s [.keys, .od] fun t =>
         thas t.keys.inval i = false ∧ ((pinAt s i).gen < 0xFFFF → (pinAt t i).state = 0) ∧
         (pinAt t i).gen = (pinAt s i).gen ∧ thas t.keys.cache i = false ∧
         (∀ j, below s i j = false → pinAt t j = pinAt s j) ∧ OdKept [obj 0x2000 6] s t))

/-- Key indices and the entropy source (R120, R122, R136 to R139): a bind takes the lowest free index of the partition under a
new key, an unbind marks its entry UNBINDING and invalidates its pin; a health test that fails makes the source FAILED, a
later test that passes makes it OK and reseeds both generators, the third failure in a row makes it DEAD; raw samples are
read in the open state only. -/
def Obligations.KeyIndicesAndEntropy : Prop :=
  (∀ (s : State) (r : OdReq),
     (∀ (v : BitVec 32) part p k i, v.toNat = part → part < 64 → part < partitionsOf s.cfg →
       Accepts r 0x2101 1 (le 4 v.toNat) s → tget s.parts part = some p → p.state = 1 →
       live s (pinHandle p.pin p.pinGen) = true → freeKidx s part false = some k → freePin s = some i →
       (pinAt s (pinIdx (pinHandle p.pin p.pinGen))).childSerial < 0xFFFFFFFF →
       Writes (.kidxBind r v) s r 0x2101 1 [.keys, .dict] [] fun t =>
         tget t.keys.kidx k = some { pin := pinIdx (pinHandle i (pinAt s i).gen),
                                     gen := pinGen (pinHandle i (pinAt s i).gen), partition := part, infra := false,
                                     kind := 1, state := 1, orphaned := false } ∧
         (pinAt t i).state = 1 ∧ (pinAt t i).purpose = 0x50 ∧ (pinAt t i).level = 5 ∧
         (∀ j, j ≠ k → tget t.keys.kidx j = tget s.keys.kidx j) ∧
         (∀ x, sessOf r = some x → perSession t x 0x2101 3 = k) ∧ t.keys.held = s.keys.held) ∧
     (∀ v : BitVec 16, Accepts r 0x2101 2 (le 2 v.toNat) s → (v.toNat = 0 ∨ 0xFFF < v.toNat) →
       (v.toNat = 0 ∨ kidxAt s v.toNat = none) → Calm s →
       WriteRefused (.kidxUnbind r v) s r 0x2101 2 abRange) ∧
     (∀ (v : BitVec 16) (e : Kidx), Accepts r 0x2101 2 (le 2 v.toNat) s → 0 < v.toNat → kidxAt s v.toNat = some e →
       e.state = 1 → e.kind = 1 → e.orphaned = false → s.keys.inval = [] → Calm s → s.tension.units = [] →
       (pinAt s (pinIdx (pinHandle e.pin e.gen))).state = 1 →
       (pinAt s (pinIdx (pinHandle e.pin e.gen))).gen = pinGen (pinHandle e.pin e.gen) →
       Writes (.kidxUnbind r v) s r 0x2101 2 [.keys, .tension, .tally] [] fun t =>
         (∃ x, kidxAt t v.toNat = some x ∧ x.state = 2) ∧
         (pinAt t (pinIdx (pinHandle e.pin e.gen))).state = 2 ∧ t.keys.held = s.keys.held)) ∧
  (∀ s : State,
     (∀ raw, s.keys.entropy = 1 → (rctFails raw = true ∨ aptFails raw = true) →
       Completes (.entropyHealthFail raw) s [.keys, .od] fun t =>
         t.keys.entropy = 2 ∧ t.keys.entropyFails = 1 ∧ t.keys.pins = s.keys.pins ∧
         (rctFails raw = true → setting t 0x2030 2 = setting s 0x2030 2 + 1) ∧
         (aptFails raw = true → setting t 0x2030 3 = setting s 0x2030 3 + 1) ∧
         OdKept [obj 0x2030 2, obj 0x2030 3] s t) ∧
     (∀ raw, s.keys.entropy = 2 → s.keys.entropyFailTick + 1000 ≤ s.tick →
       (rctFails raw = true ∨ aptFails raw = true) → ∃ t, exec (.entropyRetest raw) s = .next t ∧
         t.keys.entropy = (if 2 ≤ s.keys.entropyFails then 3 else 2) ∧ t.keys.entropyFails = s.keys.entropyFails + 1) ∧
     (∀ raw, s.keys.entropy = 2 → s.keys.entropyFailTick + 1000 ≤ s.tick → rctFails raw = false → aptFails raw = false →
       s.keys.seedPending = 0 → s.seq.phase = 5 → s.domain.activationWaits = false → s.links.ports = [] → Calm s →
       ∃ t, exec (.entropyRetest raw) s = .next t ∧ t.keys.entropy = 1 ∧ t.keys.keyDrbg.live = true ∧
         t.keys.roundDrbg.live = true ∧ t.keys.entropyFails = 0 ∧ setting t 0x2030 4 = setting s 0x2030 4 + 2) ∧
     (∀ r, pathUp s r = true → readGate s r 0x2030 5 false = 0 → isOpen s = false →
       ∃ t, exec (.rawSampleRead r) s = .next t ∧ Answers r 1 0x2030 5 abState [] s t ∧ OnlyChanges answerFields s t ∧
         OdKept answerObjs s t) ∧
     (∀ r, pathUp s r = true → readGate s r 0x2030 5 false = 0 → isOpen s = true →
       ∃ t raw, exec (.rawSampleRead r) s = .next t ∧ raw.length = 128 ∧ Answers r 1 0x2030 5 0 raw s t ∧
         OnlyChanges answerFields s t ∧ OdKept answerObjs s t))


/-! ### Mesh requests to package memory (R56 to R68, R141 to R148) -/

/-- What arrives at a mesh port against the rules (R52, R54, R57 to R59): nothing happens while the port is not enabled;
beats without credits are discarded and counted; a request that breaks the header's rules is answered
MALFORMED and changes nothing else. -/
def Obligations.MeshRequestsAreChecked : Prop :=
  ∀ (q : MeshReq) (s : State), q.port < meshPortsOf s.cfg → ((mhdrOf q).tgt = 1 ∨ (mhdrOf q).tgt = 2) →
    ∀ c ∈ [Instr.meshPkgRead q, .meshPkgWrite q, .meshFabricRead q, .meshFabricWrite q, .meshFabricAtomic q,
           .meshFabricFence q],
    (portUp s (.mesh q.port) = false → exec c s = .next s) ∧
    (meshWellFormed q = false → portUp s (.mesh q.port) = true →
      creditOf s.ports.granted (.mesh q.port) q.vch < meshBeats (mhdrOf q) → Completes c s [.od] fun t =>
        setting t 0xB031 1 = setting s 0xB031 1 + meshBeats (mhdrOf q) ∧ OdKept [obj 0xB031 1] s t) ∧
    (meshWellFormed q = false → underCredit s q = true → AnswerGoes q.port 32 s →
      Completes c s [.ports, .out] fun t =>
        (∃ data, Tells (.meshRsp q.port (((mhdrOf q).opc + 0x80) % 256) (fld q.hdr.toNat 96 16) (fld q.hdr.toNat 16 16)
          stMalformed ((mhdrOf q).opc == 1 || (mhdrOf q).tgt == 1) data) s t) ∧
        t.ports.inReqs = s.ports.inReqs ∧ t.ports.heldReqs = s.ports.heldReqs ∧ t.ports.outReqs = s.ports.outReqs ∧
        creditOf t.ports.granted (.mesh q.port) q.vch = creditOf s.ports.granted (.mesh q.port) q.vch)

/-- Package memory (R63, R65, R123, R141 to R147): a request whose key index bars it is answered with that status; an
accepted READ issues read commands for its lines and waits for them; a WRITE of full lines is written and answered; a
single partial line is merged under an entry of its own and waits there. -/
def Obligations.PackageMemory : Prop :=
  ∀ (q : MeshReq) (s : State), Arrives q s → (mhdrOf q).tgt = 1 →
    (∀ c, (c = .meshPkgRead q ∧ (mhdrOf q).opc = 1) ∨ (c = .meshPkgWrite q ∧ (mhdrOf q).opc = 2) →
      pkgBar s q ≠ stDone → AnswerGoes q.port (beatsOf (128 * (mhdrOf q).beats)) s →
      Completes c s [.ports, .od, .out] fun t =>
        (∃ data, Tells (.meshRsp q.port ((mhdrOf q).opc + 0x80) (mhdrOf q).src (mhdrOf q).tag (pkgBar s q) true data) s t) ∧
        t.ports.inReqs = s.ports.inReqs ∧ t.ports.merge = s.ports.merge ∧ t.ports.memReads = s.ports.memReads ∧
        OdKept [obj 0x2000 5, obj 0xB072 4] s t) ∧
    (pkgBar s q = stDone → keyReady s (kidxPin s (mhdrOf q).kidx) = true → memReady s q = true → portFull s q = false →
      s.ports.merge = [] → thas s.ports.inReqs s.ports.nextIn = false →
      ((mhdrOf q).opc = 1 → Completes (.meshPkgRead q) s [.ports, .keys, .od, .out] fun t =>
        (∃ r, tget t.ports.inReqs s.ports.nextIn = some r ∧ r.q = q ∧ r.waiting = List.range (reqLines q) ∧ r.done = [] ∧
          r.partition = attributed s (mhdrOf q).src (mhdrOf q).pasidV) ∧
        t.ports.nextIn = s.ports.nextIn + 1 ∧ setting t 0xB000 4 = setting s 0xB000 4 + reqLines q ∧
        (∃ k m, tget t.ports.memReads k = some m ∧ tget s.ports.memReads k = none ∧ m.laddr = firstLine q ∧
          m.req = some s.ports.nextIn ∧ m.firstLine = 0 ∧ m.entry = none ∧ m.issueTick = s.tick) ∧
        t.keys.pins = s.keys.pins ∧ t.keys.kidx = s.keys.kidx ∧ OdKept [obj 0xB000 4] s t) ∧
      ((mhdrOf q).opc = 2 → (∀ i, i < reqLines q → fullLine q i = true) → AnswerGoes q.port 1 s →
        Completes (.meshPkgWrite q) s [.ports, .keys, .fabric, .od, .out] fun t =>
          Tells (.meshRsp q.port 0x82 (mhdrOf q).src (mhdrOf q).tag stDone false []) s t ∧
          thas t.ports.inReqs s.ports.nextIn = false ∧ t.ports.merge = [] ∧ t.ports.memReads = s.ports.memReads ∧
          setting t 0xB000 4 = setting s 0xB000 4 + reqLines q ∧ t.keys.pins = s.keys.pins ∧ OdKept [obj 0xB000 4] s t) ∧
      ((mhdrOf q).opc = 2 → (∀ i, i < reqLines q → partLine q i = decide (i = 0)) →
        (∀ i, i < reqLines q → i ≠ 0 → noLine q i = true) →
        Completes (.meshPkgWrite q) s [.ports, .keys, .od, .out] fun t =>
          t.ports.merge = [(0, { laddr := firstLine q, kidx := (mhdrOf q).kidx,
                                 data := mergeBytes (zeroBytes 64) (lineData q 0) (lineMask q 0), mask := lineMask q 0,
                                 state := 0, writes := [(s.ports.nextIn, 0)], reads := [], superseded := false })] ∧
          (∃ r, tget t.ports.inReqs s.ports.nextIn = some r ∧ r.q = q ∧ r.waiting = [0] ∧ r.done = []) ∧
          t.ports.memReads = s.ports.memReads ∧ t.keys.pins = s.keys.pins))

/-- What a memory controller and the mesh answer (R53, R62, R65 to R67, R143, R146, R148): a full merge entry is written and
freed, a partial one is read first; a line that arrives is decrypted, one with an error is POISONED; a response ends the
block's own request, a late one is counted, and one that does not come ends it as TIMEOUT. -/
def Obligations.ControllerAndMeshAnswers : Prop :=
  (∀ s : State, s.ports.heldReqs = [] → (∀ e ∈ s.ports.inReqs, e.2.ready = []) →
     (∀ k m, tget s.ports.merge k = some m → s.ports.inReqs = [] →
       (m.state ≠ 0 → exec (.mergeWindowExpire k) s = .next s) ∧
       (m.state = 0 → m.mask.all id = true → Completes (.mergeWindowExpire k) s [.ports, .od, .out] fun t =>
         thas t.ports.merge k = false ∧ (∀ j, j ≠ k → tget t.ports.merge j = tget s.ports.merge j) ∧
         setting t 0xB033 1 = setting s 0xB033 1 + 1 ∧ setting t 0xB000 4 = setting s 0xB000 4 + 1 ∧
         OdKept [obj 0xB033 1, obj 0xB000 4] s t) ∧
       (∀ tag, m.state = 0 → m.mask.all id = false → freeMemTag s (memPortOf s m.laddr) = some tag →
         Completes (.mergeWindowExpire k) s [.ports, .od, .out] fun t =>
           tget t.ports.merge k = some { m with state := 1 } ∧ setting t 0xB033 2 = setting s 0xB033 2 + 1 ∧
           tget t.ports.memReads (memPortOf s m.laddr * 1024 + tag) =
             some { laddr := m.laddr, kidx := m.kidx, lines := 1, req := none, firstLine := 0, entry := some k,
                    issueTick := s.tick } ∧
           OdKept [obj 0xB033 2, obj 0xB000 4] s t)) ∧
     (∀ p (tag : BitVec 10) data lerr m n r x rest, p < memPortsOf s.cfg → profile s ≠ 2 → portUp s (.mem p) = true →
       tget s.ports.memReads (p * 1024 + tag.toNat) = some m → m.lines = 1 → m.entry = none → m.req = some n →
       tget s.ports.inReqs n = some r → r.waiting = m.firstLine :: x :: rest →
       Completes (.memReadData p tag data lerr) s [.ports] fun t =>
         thas t.ports.memReads (p * 1024 + tag.toNat) = false ∧
         tget t.ports.inReqs n = some { r with
           waiting := x :: rest,
           done := r.done ++ [if lerr.getLsbD (m.laddr % 8) then (m.firstLine, stPoisoned, [])
             else (m.firstLine, stDone, Config.xtsDec (kidxKey s m.kidx) (xtsUnit m.laddr m.kidx)
               (slice data (64 * (m.laddr % 8)) 64))] } ∧
         t.ports.merge = s.ports.merge ∧ t.ports.owned = s.ports.owned) ∧
     (∀ p (tag : BitVec 10) data lerr, p < memPortsOf s.cfg → profile s ≠ 2 → portUp s (.mem p) = true →
       tget s.ports.memReads (p * 1024 + tag.toNat) = none → Completes (.memReadData p tag data lerr) s [.od] fun t =>
         setting t 0xB031 2 = setting s 0xB031 2 + 1 ∧ OdKept [obj 0xB031 2] s t) ∧
     (∀ p (tag : BitVec 10) m, p < memPortsOf s.cfg → tget s.ports.memReads (p * 1024 + tag.toNat) = some m →
       (s.tick < m.issueTick + 1000 → exec (.memReadTimeout p tag) s = .next s) ∧
       (∀ n r x rest, m.issueTick + 1000 ≤ s.tick → m.lines = 1 → m.entry = none → m.req = some n →
         tget s.ports.inReqs n = some r → r.waiting = m.firstLine :: x :: rest →
         Completes (.memReadTimeout p tag) s [.ports, .od] fun t =>
           thas t.ports.memReads (p * 1024 + tag.toNat) = false ∧
           tget t.ports.inReqs n = some { r with waiting := x :: rest, done := r.done ++ [(m.firstLine, stPoisoned, [])] } ∧
           setting t 0xB031 3 = setting s 0xB031 3 + 1 ∧ OdKept [obj 0xB031 3] s t))) ∧
  (∀ (s : State) (tag : Nat),
     (∀ q (x : MeshRsp), tget s.ports.outReqs tag = some q → unsentReq s tag = false → q.purpose = .msi →
       portUp s (.mesh q.port) = true → beatsOf x.data.length ≤ creditOf s.ports.granted (.mesh q.port) 0 →
       Completes (.meshResponse tag x) s [.ports, .out] fun t =>
         thas t.ports.outReqs tag = false ∧ (∀ j, j ≠ tag → tget t.ports.outReqs j = tget s.ports.outReqs j) ∧
         t.out = .credit (.mesh q.port) 0 (beatsOf x.data.length) :: s.out ∧ t.ports.inReqs = s.ports.inReqs ∧
         t.ports.owned = s.ports.owned ∧ t.ports.waitOut = s.ports.waitOut) ∧
     (∀ q x c k slot, tget s.ports.outReqs tag = some q → unsentReq s tag = false → q.purpose = .completion c k slot →
       x.status = stDone → portUp s (.mesh q.port) = true →
       beatsOf x.data.length ≤ creditOf s.ports.granted (.mesh q.port) 0 →
       Completes (.meshResponse tag x) s [.ports, .out] fun t => thas t.ports.outReqs tag = false) ∧
     (∀ x, tget s.ports.outReqs tag = none → running s = true → Completes (.meshResponse tag x) s [.od] fun t =>
       setting t 0xB031 9 = setting s 0xB031 9 + 1 ∧ OdKept [obj 0xB031 9] s t) ∧
     (∀ q, tget s.ports.outReqs tag = some q → unsentReq s tag = false →
       (s.tick < q.issueTick + setting s 0x7002 1 → exec (.meshRspTimeout tag) s = .next s) ∧
       (q.issueTick + setting s 0x7002 1 ≤ s.tick → q.purpose = .msi → Completes (.meshRspTimeout tag) s [.ports] fun t =>
         thas t.ports.outReqs tag = false ∧ (∀ j, j ≠ tag → tget t.ports.outReqs j = tget s.ports.outReqs j)) ∧
       (∀ c k slot x, q.issueTick + setting s 0x7002 1 ≤ s.tick → q.purpose = .completion c k slot →
         ctxAt s c = some x → x.state = 1 → x.faultEvent = 0 → s.host.descs = [] →
         ∃ t y, exec (.meshRspTimeout tag) s = .next t ∧ ctxAt t c = some y ∧ y.spill = true ∧
           y.overflow = (x.overflow ++ [slot]).take 64)))

/-! ### Mesh requests to pooled memory (R209, R221 to R231) -/

/-- Pooled requests of the mesh (R155, R165, R209, R225, R227, R231): lines never written read as zeros; others are fetched
from the tray; a WRITE enters the line-write table and leaves as POOL_WRITE; an ATOMIC leaves as TRAY_ATOMIC; a FENCE is
answered at once when its source has nothing outstanding, and waits otherwise. -/
def Obligations.PooledRequests : Prop :=
  ∀ (q : MeshReq) (s : State), Arrives q s → (mhdrOf q).tgt = 2 → thas s.ports.inReqs s.ports.nextIn = false →
    (∀ slot reg, PoolFree q slot reg s →
      ((mhdrOf q).opc = 1 → (∀ i, i < reqLines q → (linePairs s slot q).any (fun p => p.1 == i && p.2.2 == 0)) →
        AnswerGoes q.port (mhdrOf q).beats s →
        Completes (.meshFabricRead q) s [.keys, .ports, .tally, .fabric, .od, .out] fun t =>
          Tells (.meshRsp q.port 0x81 (mhdrOf q).src (mhdrOf q).tag stDone false (zeroBytes (128 * (mhdrOf q).beats))) s t ∧
          thas t.ports.inReqs s.ports.nextIn = false ∧ t.tally.regions = s.tally.regions ∧ t.fabric.out = s.fabric.out ∧
          t.fabric.tray = s.fabric.tray) ∧
      ((mhdrOf q).opc = 1 → (∀ p ∈ linePairs s slot q, p.2.2 ≠ 0 ∧ p.2.2 ≠ 0xFFF) → linePairs s slot q ≠ [] →
        Completes (.meshFabricRead q) s [.keys, .log, .tension, .ports, .tally, .fabric, .links, .od, .out, .free] fun t =>
          (∃ r, tget t.ports.inReqs s.ports.nextIn = some r ∧ r.q = q ∧ r.done = [] ∧ r.ctrs = linePairs s slot q) ∧
          (∃ tag x f, tget s.fabric.out tag = none ∧ tget t.fabric.out tag = some x ∧ x.msg = 1 ∧ x.dst = reg.primaryEp ∧
            x.purpose = .meshRead s.ports.nextIn f)) ∧
      ((mhdrOf q).opc = 2 → (∀ i, i < reqLines q → fullLine q i = true) → s.tally.lineWrites = [] →
        spanStuck s slot q = [] → s.fabric.out = [] →
        Completes (.meshFabricWrite q) s [.keys, .log, .tension, .ports, .tally, .fabric, .links, .od, .out, .free] fun t =>
          (∃ r, tget t.ports.inReqs s.ports.nextIn = some r ∧ r.q = q ∧ r.done = [] ∧ r.ready = []) ∧
          (∀ i, i < reqLines q → lineBusy t slot (poolLine q + i) = true) ∧
          (∃ tag x f, tget t.fabric.out tag = some x ∧ x.msg = 2 ∧ x.dst = reg.primaryEp ∧
            x.purpose = .meshWrite s.ports.nextIn f)) ∧
      ((mhdrOf q).opc = 3 → s.fabric.out = [] →
        Completes (.meshFabricAtomic q) s [.keys, .log, .tension, .ports, .tally, .fabric, .links, .od, .out, .free] fun t =>
          (∃ r, tget t.ports.inReqs s.ports.nextIn = some r ∧ r.q = q ∧ r.waiting = [0]) ∧
          (∃ tag x, tget t.fabric.out tag = some x ∧ x.msg = 5 ∧ x.dst = reg.primaryEp ∧
            x.purpose = .meshAtomic s.ports.nextIn))) ∧
    ((mhdrOf q).opc = 4 → poolFormOk q = true → profile s = 0 → ownEndpoint s ≠ 0 → portFull s q = false →
      (∀ part, part = (attributed s (mhdrOf q).src (mhdrOf q).pasidV).getD 64 →
        (sourceOf s (mhdrOf q).src part = none → sourceRoom s (mhdrOf q).src part = true → AnswerGoes q.port 1 s →
          Completes (.meshFabricFence q) s [.log, .ports, .fabric, .od, .out] fun t =>
            Tells (.meshRsp q.port 0x84 (mhdrOf q).src (mhdrOf q).tag stDone false []) s t ∧
            thas t.ports.inReqs s.ports.nextIn = false ∧ t.fabric.out = s.fabric.out ∧ t.fabric.tray = s.fabric.tray) ∧
        (∀ e, sourceOf s (mhdrOf q).src part = some e → sourceRoom s (mhdrOf q).src part = true → e.fences = [] →
          0 < nth e.counts e.gen 0 →
          Completes (.meshFabricFence q) s [.log, .ports, .fabric, .out] fun t =>
            (∃ r, tget t.ports.inReqs s.ports.nextIn = some r ∧ r.q = q ∧ r.waiting = [0] ∧ r.done = []) ∧
            (∃ x, sourceOf t (mhdrOf q).src part = some x ∧ x.fences = [(s.ports.nextIn, e.gen)] ∧
              x.gen = (e.gen + 1) % 4 ∧ x.counts = e.counts) ∧ t.fabric.out = s.fabric.out)))

/-! ### Responses and the register window (R58, R60, R62, R421 to R423) -/

/-- The register window (R16, R18, R60, R421, R422): a GO puts the message of an idle mailbox into its path's queue and the
mailbox reads BUSY; a mailbox that is BUSY, a length of 0 or an unknown KIND discards the GO, which is counted; a request
whose form R60 refuses is answered MALFORMED with zero data. -/
def Obligations.RegisterWindow : Prop :=
  ∀ s : State,
    (∀ v : BitVec 64, serviceUp s = true → v.getLsbD 0 = true →
      (s.dict.mailbox.state ≠ 1 → 1 ≤ s.dict.mailbox.reqLen → s.dict.mailbox.reqLen ≤ 16384 →
        kindOk false s.dict.mailbox.kind = true → Completes (.mailboxGo v) s [.dict] fun t =>
          t.dict.mailbox = { s.dict.mailbox with state := 1 } ∧ t.dict.mailQ = s.dict.mailQ ++ [mailMsg s.dict.mailbox] ∧
          t.dict.debugBox = s.dict.debugBox ∧ t.dict.debugQ = s.dict.debugQ ∧ t.dict.i3cQ = s.dict.i3cQ) ∧
      ((s.dict.mailbox.state = 1 ∨ s.dict.mailbox.reqLen = 0 ∨ kindOk false s.dict.mailbox.kind = false) →
        Completes (.mailboxGo v) s [.od] fun t =>
          setting t 0xB0A0 6 = setting s 0xB0A0 6 + 1 ∧ OdKept [obj 0xB0A0 6] s t) ∧
      (s.dict.debugBox.state ≠ 1 → 1 ≤ s.dict.debugBox.reqLen → s.dict.debugBox.reqLen ≤ 16384 →
        kindOk true s.dict.debugBox.kind = true → Completes (.debugMailboxGo v) s [.dict] fun t =>
          t.dict.debugBox = { s.dict.debugBox with state := 1 } ∧ t.dict.debugQ = s.dict.debugQ ++ [mailMsg s.dict.debugBox] ∧
          t.dict.mailbox = s.dict.mailbox ∧ t.dict.mailQ = s.dict.mailQ)) ∧
    (∀ (off : Nat) (v : BitVec 64), serviceUp s = true → 0x10000 ≤ off → off < 0x14000 → off % 8 = 0 →
      s.dict.mailbox.state ≠ 1 → Completes (.registerWrite off true v) s [.dict] fun t =>
        tget t.dict.mailbox.reqBuf ((off - 0x10000) / 8) = some v ∧
        (∀ j, j ≠ (off - 0x10000) / 8 → tget t.dict.mailbox.reqBuf j = tget s.dict.mailbox.reqBuf j) ∧
        t.dict.mailbox.reqLen = s.dict.mailbox.reqLen ∧ t.dict.debugBox = s.dict.debugBox) ∧
    (∀ v : BitVec 64, serviceUp s = true → s.dict.mailbox.state ≠ 1 → Completes (.registerWrite 0 true v) s [.dict] fun t =>
      t.dict.mailbox = { s.dict.mailbox with reqLen := fld v.toNat 0 15, kind := fld v.toNat 16 8 } ∧
      t.dict.debugBox = s.dict.debugBox) ∧
    (∀ off v, serviceUp s = false → exec (.registerWrite off true v) s = .next s) ∧
    (∀ q : MeshReq, q.port < meshPortsOf s.cfg → (mhdrOf q).tgt = 0 → underCredit s q = true → regForm q = none →
      AnswerGoes q.port 1 s → Completes (.meshRegisterRequestMalformed q) s [.ports, .out] fun t =>
        Tells (.meshRsp q.port (((mhdrOf q).opc + 0x80) % 256) (mhdrOf q).src (mhdrOf q).tag stMalformed false
          (if (mhdrOf q).opc = 1 then zeroBytes 128 else [])) s t ∧
        creditOf t.ports.granted (.mesh q.port) q.vch = creditOf s.ports.granted (.mesh q.port) q.vch ∧
        t.ports.inReqs = s.ports.inReqs)

/-! ### Link flit ports (R69 to R72, R175 to R203) -/

/-- The states of a link flit port (R52, R193 to R195, R203): the physical layer and the manager move a port between
DISABLED, TRAINING, CLEAR, STITCHING, HOLD and QUARANTINED; leaving LINKED lowers PHY_EN and drops the port's keys. -/
def Obligations.LinkPortStates : Prop :=
  ∀ (s : State) (p : Nat), p < linkPortsOf s.cfg →
    ((linkAt s p).state ≠ 1 → Completes (.phyUpRise p) s [.links] fun t =>
      linkAt t p = { linkAt s p with phyUp := true } ∧ OtherLinks p s t) ∧
    ((linkAt s p).state = 1 → canStitch s = false → Completes (.phyUpRise p) s [.links] fun t =>
      (linkAt t p).state = 2 ∧ (linkAt t p).phyUp = true ∧ (linkAt t p).credits = [4, 0, 0, 0, 0, 0, 0, 0] ∧
      (linkAt t p).owe = [nth (linkAt s p).allot 0 4 - 4, 0, 0, 0, 0, 0, 0, 0] ∧ OtherLinks p s t) ∧
    ((linkAt s p).state = 1 → canStitch s = true → (linkAt s p).epochs = [] → (linkAt s p).secretSlot = none →
      Completes (.phyUpRise p) s [.keys, .links, .od, .out, .free] fun t =>
        (linkAt t p).state = 3 ∧ (linkAt t p).stitch.isSome = true ∧ OtherLinks p s t) ∧
    ((linkAt s p).state = 0 ∨ (linkAt s p).state = 5 ∨ (linkAt s p).state = 6 →
      Completes (.phyUpFall p) s [.links] fun t =>
        linkAt t p = { linkAt s p with phyUp := false } ∧ OtherLinks p s t) ∧
    (1 ≤ (linkAt s p).state → (linkAt s p).state ≤ 4 → Calm s → s.tension.units = [] →
      Completes (.phyUpFall p) s [.keys, .tension, .tally, .fabric, .links] fun t =>
        (linkAt t p).state = 5 ∧ (linkAt t p).phyEn = false ∧ (linkAt t p).epochs = [] ∧ (linkAt t p).queue = [] ∧
        (linkAt t p).credits = List.replicate 8 0 ∧ OtherLinks p s t) ∧
    ((linkAt s p).state = 5 → (linkAt s p).phyUp = false → Completes (.holdRetrain p) s [.links] fun t =>
      (linkAt t p).state = 1 ∧ (linkAt t p).phyEn = true ∧
      (linkAt t p).allot = (List.range 8).map (fun v => setting s 0x4007 (v + 1)) ∧ OtherLinks p s t) ∧
    ((linkAt s p).state ≠ 5 ∨ (linkAt s p).phyUp = true → exec (.holdRetrain p) s = .next s) ∧
    (∀ r : OdReq,
      (Accepts r 0x4004 (p + 1) [0] s → Calm s → s.tension.units = [] →
        Writes (.linkAdminDown r p) s r 0x4004 (p + 1) [.keys, .tension, .tally, .fabric] [obj 0x4004 (p + 1)] fun t =>
          setting t 0x4004 (p + 1) = 0 ∧ (linkAt t p).state = 0 ∧
          ((linkAt s p).state ≠ 0 → (linkAt t p).phyEn = false ∧ (linkAt t p).epochs = [])) ∧
      (Accepts r 0x4004 (p + 1) [1] s → (linkAt s p).state = 0 → running s = true → s.power.retention = false →
        s.power.quiesced = false →
        Writes (.linkAdminUp r p) s r 0x4004 (p + 1) [] [obj 0x4004 (p + 1)] fun t =>
          setting t 0x4004 (p + 1) = 1 ∧ (linkAt t p).state = 1 ∧ (linkAt t p).phyEn = true) ∧
      (∀ v : BitVec 8, v.toNat = p → Accepts r 0x4003 1 (le 1 v.toNat) s →
        ((linkAt s p).state = 6 → Writes (.linkRelease r v) s r 0x4003 1 [] [] fun t =>
          (linkAt t p).state = 1 ∧ (linkAt t p).phyEn = true ∧ (linkAt t p).reason = 0) ∧
        ((linkAt s p).state ≠ 6 → WriteRefused (.linkRelease r v) s r 0x4003 1 abState)))

/-- Flits received (R52, R71, R177, R183, R184, R186, R202): a low enable ignores them; with PHY_UP low they are counted; a
bad one, and one that the port's state does not take, count in LINK_COUNTERS; a CLEAR flit returns its credits and delivers
its segment; a verified group is delivered in its sequence. -/
def Obligations.FlitsReceived : Prop :=
  ∀ (s : State) (p : Nat), p < linkPortsOf s.cfg →
    (∀ f fs, (linkAt s p).phyEn = false →
      ∀ c ∈ [Instr.rxFlitBad p, .rxFlitWhileDown p, .idleFlitReceive p f, .clearFlitReceive p f, .ctrlFlitReceive p f,
             .groupReceive p fs], exec c s = .next s) ∧
    (∀ f, (linkAt s p).phyEn = true → (linkAt s p).phyUp = false →
      ∀ c ∈ [Instr.rxFlitBad p, .rxFlitWhileDown p, .idleFlitReceive p f, .clearFlitReceive p f, .ctrlFlitReceive p f,
             .groupReceive p [f]],
        Completes c s [.od] fun t => setting t 0xB031 4 = setting s 0xB031 4 + 1 ∧ OdKept [obj 0xB031 4] s t) ∧
    (LinkQuiet p s →
      (∀ f, f.all (· == 0) = true → Completes (.idleFlitReceive p f) s [.od] fun t =>
        setting t 0xB000 6 = setting s 0xB000 6 + 1 ∧ OdKept [obj 0xB000 6] s t) ∧
      (∀ f, f.all (· == 0) = false → Completes (.idleFlitReceive p f) s [.od, .links] fun t =>
        linkCounter t p 5 = linkCounter s p 5 + 1 ∧ (linkAt t p).state = (linkAt s p).state ∧ OtherLinks p s t) ∧
      (Completes (.rxFlitBad p) s [.od, .links] fun t =>
        linkCounter t p 4 = linkCounter s p 4 + 1 ∧ (linkAt t p).state = (linkAt s p).state ∧
        ((linkAt s p).state ≠ 4 → (linkAt t p).nakPending = (linkAt s p).nakPending) ∧
        ((linkAt s p).state = 4 → (linkAt s p).nakFor = none →
          (linkAt t p).nakPending = true ∧ (linkAt t p).ackDue = true) ∧ OtherLinks p s t) ∧
      (∀ f, (linkAt s p).state ≠ 2 → (linkAt s p).state ≠ 3 → Completes (.clearFlitReceive p f) s [.od, .links] fun t =>
        linkCounter t p 12 = linkCounter s p 12 + 1 ∧ OtherLinks p s t) ∧
      (∀ f, (linkAt s p).state = 2 → (hdrOf f).vl = 0 → num f 240 4 = crc32c (slice f 0 240) →
        (slice f 16 224).all (· == 0) = true → (hdrOf f).crdVl = 0 →
        Completes (.clearFlitReceive p f) s [.od, .links] fun t =>
          nth (linkAt t p).credits 0 0 = Nat.min (nth (linkAt s p).credits 0 0 + (hdrOf f).crdCnt) 64 ∧
          nth (linkAt t p).partnerCredits 0 0 = nth (linkAt s p).partnerCredits 0 0 - 1 ∧
          nth (linkAt t p).owe 0 0 = nth (linkAt s p).owe 0 0 + 1 ∧ OtherLinks p s t) ∧
      (∀ f, (linkAt s p).state ≠ 4 → Completes (.ctrlFlitReceive p f) s [.od, .links] fun t =>
        linkCounter t p 12 = linkCounter s p 12 + 1 ∧ OtherLinks p s t) ∧
      (∀ f q n, (linkAt s p).state = 4 → Calm s → eparEpoch (linkAt s p) (hdrOf f).epar = some q →
        rebuild q.rxCtrl (hdrOf f).gseq = some n → q.rxCtrl ≤ n → ctrlBad (hdrOf f) = false → (hdrOf f).nak = 0 →
        takeAck s.tick (hdrOf f).ack (linkAt s p) = (linkAt s p, false) → (linkAt s p).tagTicks = [] →
        1 < setting s 0x4000 7 → 1 < setting s 0x4000 8 →
        Completes (.ctrlFlitReceive p f) s [.od, .links] fun t =>
          ((Config.gcmOpen (keyOf s q.pin) (rxIv (linkAt s p) q.epoch (2 ^ 63 + n)) (slice f 0 16) []
              (slice f 240 16)).isSome = true →
            (epochOf (linkAt t p) q.epoch).map (·.rxCtrl) = (epochOf (linkAt s p) q.epoch).map fun _ => n + 1) ∧
          (Config.gcmOpen (keyOf s q.pin) (rxIv (linkAt s p) q.epoch (2 ^ 63 + n)) (slice f 0 16) []
              (slice f 240 16) = none →
            linkCounter t p 6 = linkCounter s p 6 + 1 ∧ (linkAt t p).epochs = (linkAt s p).epochs) ∧ OtherLinks p s t) ∧
      (∀ f, (linkAt s p).state ≠ 3 → (linkAt s p).state ≠ 4 → Completes (.groupReceive p [f]) s [.od, .links] fun t =>
        linkCounter t p 12 = linkCounter s p 12 + 1 ∧ OtherLinks p s t) ∧
      (∀ fs, (linkAt s p).state = 4 → Calm s → groupWhole fs = true → (hdrOf (fs.headD [])).vl = 4 →
        (hdrOf (fs.headD [])).keymode = 0 → (hdrOf (fs.headD [])).cmark = 0 → (hdrOf (fs.headD [])).cecho = 0 →
        (∀ f ∈ fs, (hdrOf f).nak = 0 ∧ (hdrOf f).crdCnt = 0 ∧
          takeAck s.tick (hdrOf f).ack (linkAt s p) = (linkAt s p, false)) →
        fs.length ≤ nth (linkAt s p).partnerCredits 4 0 →
        ∃ t, exec (.groupReceive p fs) s = .next t ∧
          ∀ q b, openGroup s p fs = some (q, q.rxGroup, b) → groupBad (linkAt s p) fs b false = false →
            OnlyChanges [.links, .od, .out] s t ∧
            Tells (.deliver p 4 (hdrOf (fs.headD [])).src (hdrOf (fs.headD [])).dst b) s t ∧
            linkCounter t p 1 = linkCounter s p 1 + 1 ∧
            (epochOf (linkAt t p) q.epoch).map (·.rxGroup) =
              (epochOf (linkAt s p) q.epoch).map (fun e => e.rxGroup + 1) ∧
            nth (linkAt t p).partnerCredits 4 0 = nth (linkAt s p).partnerCredits 4 0 - fs.length ∧ OtherLinks p s t))

/-- Flits that fall due (R185, R186, R191, R192): an acknowledgement leaves in a CTRL flit, owed credits in a credit group or
a CLEAR flit; unacknowledged groups are sent again, and the port holds after REPLAY_LIMIT resends; an echo that no group has
carried leaves as NOP; a halved rate recovers by a sixty-fourth. -/
def Obligations.FlitsFallDue : Prop :=
  ∀ (s : State) (p : Nat), LinkQuiet p s →
    (∀ e, (linkAt s p).state = 4 → (linkAt s p).ackDue = true → txSeq (linkAt s p) = some e →
      e.txCtrl + 1 + 2 ^ 20 < setting s 0x4000 1 → e.txGroup + 2 ^ 20 < setting s 0x4000 1 →
      Completes (.ctrlFlitSendDue p) s [.links, .od, .out] fun t =>
        (∃ f, t.out = .flits p [f] :: s.out) ∧ (linkAt t p).ackDue = false ∧ (linkAt t p).nakPending = false ∧
        (txSeq (linkAt t p)).map (·.txCtrl) = some (e.txCtrl + 1) ∧ setting t 0xB000 5 = setting s 0xB000 5 + 1 ∧
        OtherLinks p s t) ∧
    ((linkAt s p).state ≠ 4 ∨ (linkAt s p).ackDue = false → exec (.ctrlFlitSendDue p) s = .next s) ∧
    ((linkAt s p).state = 2 → nth (linkAt s p).owe 0 0 ≠ 0 → nth (linkAt s p).credits 0 0 ≠ 0 →
      Completes (.creditGroupSendDue p) s [.links, .od, .out] fun t =>
        (∃ f, t.out = .flits p [f] :: s.out) ∧
        nth (linkAt t p).credits 0 0 = nth (linkAt s p).credits 0 0 - 1 ∧ OtherLinks p s t) ∧
    (∀ e, (linkAt s p).state = 4 → (∃ c ∈ (linkAt s p).owe, c ≠ 0) → (linkAt s p).replay = [] →
      txSeq (linkAt s p) = some e → e.txGroup < setting s 0x4000 1 →
      Completes (.creditGroupSendDue p) s [.links, .od, .out] fun t =>
        (∃ fs, t.out = .flits p fs :: s.out) ∧ (linkAt t p).replay.length = 1 ∧
        linkCounter t p 0 = linkCounter s p 0 + 1 ∧ OtherLinks p s t) ∧
    ((linkAt s p).state = 4 → (linkAt s p).replay ≠ [] → (linkAt s p).progressTick + setting s 0x4000 4 ≤ s.tick →
      ((linkAt s p).resends < setting s 0x4000 5 → Completes (.ackTimeoutResend p) s [.links, .od, .out] fun t =>
        (∀ g ∈ (linkAt s p).replay, Tells (.flits p g.flits) s t) ∧ (linkAt t p).replay = (linkAt s p).replay ∧
        (linkAt t p).resends = (linkAt s p).resends + 1 ∧ (linkAt t p).progressTick = s.tick ∧
        linkCounter t p 2 = linkCounter s p 2 + (linkAt s p).replay.length ∧ OtherLinks p s t) ∧
      (setting s 0x4000 5 ≤ (linkAt s p).resends → Calm s → s.tension.units = [] →
        Completes (.ackTimeoutResend p) s [.keys, .tension, .tally, .fabric, .links] fun t =>
          (linkAt t p).state = 5 ∧ (linkAt t p).phyEn = false ∧ OtherLinks p s t)) ∧
    (s.tick < (linkAt s p).progressTick + setting s 0x4000 4 → exec (.ackTimeoutResend p) s = .next s) ∧
    (∀ d since port, tget s.links.echoDue d = some since → pickPort s d 0 false = some port →
      (s.tick < since + 10 → exec (.cmarkNopTimeout d) s = .next s) ∧
      (since + 10 ≤ s.tick → Completes (.cmarkNopTimeout d) s
          [.keys, .log, .tension, .tally, .links, .od, .out, .free] fun t =>
        ∃ m, Tells (.fabric port m) s t ∧ m.dstEp = d ∧ m.vl = 5 ∧ (fhdrOf m.hdr).msg = 0x0F)) ∧
    (∀ d c, tget s.links.cong d = some c →
      (s.tick < Nat.max c.halved c.raised + setting s 0x4000 0xC → exec (.cmarkRecoveryTick d) s = .next s) ∧
      (Nat.max c.halved c.raised + setting s 0x4000 0xC ≤ s.tick → Completes (.cmarkRecoveryTick d) s [.links] fun t =>
        tget t.links.cong d = some { c with rate := Nat.min 64 (c.rate + 1), raised := s.tick } ∧
        t.links.ports = s.links.ports ∧ ∀ j, j ≠ d → tget t.links.cong j = tget s.links.cong j))

/-- The stitch handshake (R199, R200, R202, R379): HELLO fixes the roles by the certificate hashes; one of another charter
is counted and waits; key shares of a wrong form fail the handshake; the right FINISH makes the port LINKED with its partner
recorded, a wrong one fails; a wait that is too long fails. -/
def Obligations.StitchHandshake : Prop :=
  ∀ (s : State) (p : Nat) (y : Stitch), LinkQuiet p s → (linkAt s p).state = 3 → (linkAt s p).stitch = some y →
    (∀ m : Bytes, y.step = 1 → y.mismatch = false → m.length = 132 → num m 0 1 = 2 → helloCert m ≠ helloCert y.myHello →
      (helloHash m = helloCharter s → ofBe (helloCert m) ≤ ofBe (helloCert y.myHello) →
        Completes (.stitchHello p m) s [.links] fun t =>
          (linkAt t p).stitch = some { y with hello := m, initiator := false, step := 2, since := s.tick } ∧
          (linkAt t p).initiator = false ∧ (linkAt t p).state = 3 ∧ OtherLinks p s t) ∧
      (helloHash m = helloCharter s → ofBe (helloCert y.myHello) < ofBe (helloCert m) → s.domain.memberSlot = none →
        Completes (.stitchHello p m) s [.links] fun t =>
          (linkAt t p).stitch = some { y with hello := m, initiator := true, step := 2, since := s.tick } ∧
          (linkAt t p).initiator = true ∧ (linkAt t p).state = 3 ∧ OtherLinks p s t) ∧
      (helloHash m ≠ helloCharter s → Completes (.stitchHello p m) s [.links] fun t =>
        (linkAt t p).stitch = some { y with mismatch := true } ∧ linkCounter t p 14 = linkCounter s p 14 + 1 ∧
        (linkAt t p).state = 3 ∧ OtherLinks p s t)) ∧
    (∀ m : Bytes, y.step = 2 → y.initiator = false → y.mismatch = false → shareParts m = none →
      (linkAt s p).stitchFails + 1 < setting s 0x4000 3 → (linkAt s p).epochs = [] → (linkAt s p).secretSlot = none →
      Completes (.keyShareI p m) s [.keys, .links, .od, .out, .free] fun t =>
        linkCounter t p 13 = linkCounter s p 13 + 1 ∧ (linkAt t p).stitchFails = (linkAt s p).stitchFails + 1 ∧
        (linkAt t p).state = 3 ∧ OtherLinks p s t) ∧
    (∀ (m : Bytes) parts seed own, y.step = 2 → y.initiator = false → y.mismatch = false → shareParts m = some parts →
      memberSeed s = some seed → samplerCert s = some own → drbgServes s = false → Calm s →
      ∃ t, exec (.keyShareI p m) s = .next t ∧
        (shareCert s y parts.1 = 0 →
          bothVerify parts.1 (hash48 (helloPair y ++ parts.2.2.2.1)) parts.2.2.2.2.1 parts.2.2.2.2.2 = true →
          OnlyChanges [.links] s t ∧ (linkAt t p).stitch = some { y with step := 4, keyShare := m } ∧ OtherLinks p s t)) ∧
    (∀ (m : Bytes) parts seed own slot, y.step = 2 → y.initiator = false → y.mismatch = false →
      shareParts m = some parts → memberSeed s = some seed → samplerCert s = some own → drbgServes s = true → Calm s →
      freeSlot s = some slot → ∃ t, exec (.keyShareI p m) s = .next t ∧
        (shareCert s y parts.1 = 0 →
          bothVerify parts.1 (hash48 (helloPair y ++ parts.2.2.2.1)) parts.2.2.2.2.1 parts.2.2.2.2.2 = true →
          (∀ e, Config.ecdh e parts.2.1 ≠ none) → (∀ e, Config.kemEncap parts.2.2.1 e ≠ none) →
          ∃ b, Tells (.linkMsg p 3 b) s t)) ∧
    (∀ m : Bytes, y.step = 3 → y.mismatch = false → shareParts m = none →
      (linkAt s p).stitchFails + 1 < setting s 0x4000 3 → (linkAt s p).epochs = [] → (linkAt s p).secretSlot = none →
      Completes (.keyShareR p m) s [.keys, .links, .od, .out, .free] fun t =>
        linkCounter t p 13 = linkCounter s p 13 + 1 ∧ (linkAt t p).state = 3 ∧ OtherLinks p s t) ∧
    (∀ (m : Bytes) parts l, y.step = 3 → y.mismatch = false → shareParts m = some parts → s.keys.held = [] →
      linksPin s = some l → live s l = true → (freePin s).isSome = true → (linkAt s p).epochs = [] → Calm s →
      ∃ t, exec (.keyShareR p m) s = .next t ∧
        (shareCert s y parts.1 = 0 →
          (∀ d, bothVerify parts.1 d parts.2.2.2.2.1 parts.2.2.2.2.2 = true) → (∀ e, Config.ecdh e parts.2.1 ≠ none) →
          ∃ b, Tells (.linkMsg p 4 b) s t)) ∧
    (∀ (m : Bytes) q rest, y.step = 5 → (linkAt s p).epochs = q :: rest → q.rxGroup ≠ 0 → Calm s →
      (m = le 1 (bit y.initiator) ++ y.t3 → (linkAt s p).partner = none →
        Completes (.stitchFinish p m) s [.links, .od, .out] fun t =>
          (linkAt t p).state = 4 ∧ (linkAt t p).stitch = none ∧
          (linkAt t p).partner = some { ep := num y.hello 2 2, port := num y.hello 1 1, role := bit (!y.initiator),
                                        certHash := helloCert y.hello } ∧ OtherLinks p s t) ∧
      (m ≠ le 1 (bit y.initiator) ++ y.t3 → (linkAt s p).stitchFails + 1 < setting s 0x4000 3 → s.tension.units = [] →
        Completes (.stitchFinish p m) s [.keys, .tension, .tally, .links, .od, .out, .free] fun t =>
          linkCounter t p 13 = linkCounter s p 13 + 1 ∧ (linkAt t p).state = 3 ∧ OtherLinks p s t)) ∧
    (s.tick < y.since + setting s 0x4000 2 → exec (.stitchTimeout p) s = .next s) ∧
    (y.since + setting s 0x4000 2 ≤ s.tick → (linkAt s p).epochs = [] → (linkAt s p).secretSlot = none →
      (y.mismatch = true → Completes (.stitchTimeout p) s [.keys, .links, .od, .out, .free] fun t =>
        (linkAt t p).state = 3 ∧ (linkAt t p).stitchFails = (linkAt s p).stitchFails ∧ OtherLinks p s t) ∧
      (y.mismatch = false → (linkAt s p).stitchFails + 1 < setting s 0x4000 3 →
        Completes (.stitchTimeout p) s [.keys, .links, .od, .out, .free] fun t =>
          linkCounter t p 13 = linkCounter s p 13 + 1 ∧ (linkAt t p).state = 3 ∧ OtherLinks p s t) ∧
      (y.mismatch = false → setting s 0x4000 3 ≤ (linkAt s p).stitchFails + 1 → Calm s → s.tension.units = [] →
        Completes (.stitchTimeout p) s [.fabric, .links] fun t =>
          linkCounter t p 13 = linkCounter s p 13 + 1 ∧ (linkAt t p).state = 6 ∧ (linkAt t p).reason = 3 ∧
          OtherLinks p s t))

/-- Re-keying (R201, R203): REKEY_NOW starts it on a LINKED port, else it is refused with STATE; REKEY is answered with
REKEY_ACK under the next epoch; an acknowledgement that was not asked for is a protocol error; REKEY is sent again after
1,000 ticks, and the third resend without an answer holds the port. -/
def Obligations.Rekeying : Prop :=
  ∀ (s : State) (p : Nat), p < linkPortsOf s.cfg → (linkAt s p).counters.length = 20 →
    (∀ (r : OdReq) (v : BitVec 8), v.toNat = p → Accepts r 0x4006 1 (le 1 v.toNat) s →
      (linked s p = false → WriteRefused (.rekeyNow r v) s r 0x4006 1 abState) ∧
      (∀ e, linked s p = true → (linkAt s p).rekey = none → txSeq (linkAt s p) = some e → e.epoch < 0xFFFFFF →
        (linkAt s p).queue = [] →
        Writes (.rekeyNow r v) s r 0x4006 1 [.keys] [obj 0xB000 5] fun t =>
          (∃ x, (linkAt t p).rekey = some x ∧ x.epoch = e.epoch + 1 ∧ x.sent = true ∧ x.got = false) ∧
          Tells (.linkMsg p 5 (le 4 (e.epoch + 1))) s t ∧ (linkAt t p).state = 4)) ∧
    (∀ (m : Bytes) q, LinkQuiet p s → linked s p = true → m.length = 4 → txSeq (linkAt s p) = some q →
      (ofLe m = q.epoch + 1 → (epochOf (linkAt (addHop p (ofLe m) s) p) (ofLe m)).isSome = true →
        Completes (.rekey p m) s [.keys, .links, .od, .out] fun t =>
          Tells (.linkMsg p 6 (le 4 (ofLe m))) s t ∧ (linkAt t p).state = 4 ∧ OtherLinks p s t) ∧
      (ofLe m ≠ q.epoch + 1 → (linkAt s p).protoTicks = [] → 1 < setting s 0x4000 9 →
        Completes (.rekey p m) s [.links] fun t =>
          linkCounter t p 10 = linkCounter s p 10 + 1 ∧ (linkAt t p).protoTicks = [s.tick] ∧ OtherLinks p s t)) ∧
    (∀ m : Bytes, linked s p = true → (linkAt s p).rekey = none → (linkAt s p).protoTicks = [] → 1 < setting s 0x4000 9 →
      Completes (.rekeyAck p m) s [.links] fun t =>
        linkCounter t p 10 = linkCounter s p 10 + 1 ∧ (linkAt t p).state = 4 ∧ OtherLinks p s t) ∧
    (∀ x : Rekey, linked s p = true → (linkAt s p).rekey = some x → x.got = false → x.txSwitched = false →
      x.rxSwitched = false → (linkAt s p).queue = [] → Calm s →
      (((linkAt s p).replay.any fun e => e.epoch == x.epoch - 1) = true →
        Completes (.rekeyAck p (le 4 x.epoch)) s [.links] fun t =>
          (linkAt t p).rekey = some { x with got := true } ∧ (linkAt t p).epochs = (linkAt s p).epochs ∧
          OtherLinks p s t) ∧
      (((linkAt s p).replay.any fun e => e.epoch == x.epoch - 1) = false → x.sent = true →
        (epochOf (linkAt s p) x.epoch).isSome = true →
        Completes (.rekeyAck p (le 4 x.epoch)) s [.links] fun t =>
          (linkAt t p).rekey = some { x with got := true, txSwitched := true } ∧
          (txSeq (linkAt t p)).map (·.epoch) = some x.epoch ∧ OtherLinks p s t)) ∧
    (∀ x : Rekey, (linkAt s p).state = 4 → (linkAt s p).rekey = some x → x.got = false →
      (s.tick < x.sentTick + 1000 → exec (.rekeyResendTimeout p) s = .next s) ∧
      (x.sentTick + 1000 ≤ s.tick → x.resends < 3 → (linkAt s p).queue = [] →
        Completes (.rekeyResendTimeout p) s [.links, .od, .out] fun t =>
          Tells (.linkMsg p 5 (le 4 x.epoch)) s t ∧
          (linkAt t p).rekey.map (fun z => (z.epoch, z.resends, z.sentTick)) = some (x.epoch, x.resends + 1, s.tick) ∧
          OtherLinks p s t) ∧
      (x.sentTick + 1000 ≤ s.tick → 3 ≤ x.resends → Calm s → s.tension.units = [] →
        Completes (.rekeyResendTimeout p) s [.keys, .tension, .tally, .fabric, .links] fun t =>
          (linkAt t p).state = 5 ∧ linkCounter t p 16 = linkCounter s p 16 + 1 ∧ OtherLinks p s t))

/-! ### The panel (R73 to R77) -/

/-- The gang port (R75, R76): an acknowledgement ends a frame's keeping; a frame that has been taken is acknowledged and
changes nothing; the exchange of a further member is kept, one of another size is a FAULT, and so is a ring that has not
closed within 10,000 ticks; one broken link degrades the panel, the second splits it; an enabled link carries the exchange
while the panel forms. -/
def Obligations.PanelExchange : Prop :=
  ∀ (s : State) (l : GangLink),
    (∀ f, gangUsable s l = false → exec (.gangFrameReceive l f) s = .next s) ∧
    (∀ (f : GangFrame) no g, gangUsable s l = true → f.body = .ack no → tget s.gang.unacked no = some (l, g) →
      Completes (.gangFrameReceive l f) s [.gang] fun t =>
        thas t.gang.unacked no = false ∧ (∀ j, j ≠ no → tget t.gang.unacked j = tget s.gang.unacked j) ∧
        t.gang.panel = s.gang.panel ∧ t.gang.members = s.gang.members) ∧
    (∀ (f : GangFrame) purpose, gangUsable s l = true → f.body = .invalidate purpose → f.seq ≤ tgetD s.gang.seen f.src 0 →
      Completes (.gangFrameReceive l f) s [.out] fun t =>
        t.out = .gang l { src := memberId s, seq := 0, no := 0, body := .ack f.no } :: s.out) ∧
    (∀ (f : GangFrame) id size prof cfg serial meas lc chain, gangUsable s l = true →
      f.body = .exchange id size prof cfg serial meas lc chain → id ≠ memberId s → s.gang.panel = 0 → id < panelSize s →
      tget s.gang.members id = none →
      (size = panelSize s → prof = profile s → cfg = bobbinsOf s.cfg → tget s.gang.members (memberId s) = none →
        memberId s < panelSize s →
        Completes (.gangFrameReceive l f) s [.gang, .out] fun t =>
          (∃ m, tget t.gang.members id = some m ∧ m.size = size ∧ m.profile = prof ∧ m.config = cfg ∧ m.serial = serial ∧
            m.measurement = meas ∧ m.lifeCycle = lc) ∧ t.gang.panel = 0) ∧
      (size ≠ panelSize s → Completes (.gangFrameReceive l f) s [.gang, .out] fun t =>
        t.gang.panel = 4 ∧ t.gang.members = s.gang.members)) ∧
    (s.seq.phase = 9 → panelSize s ≠ 1 → s.gang.panel = 0 →
      (s.tick < s.gang.since + 10000 → exec .gangRingTimeout s = .next s) ∧
      (s.gang.since + 10000 ≤ s.tick → Completes .gangRingTimeout s [.gang] fun t =>
        t.gang.panel = 4 ∧ t.gang.members = s.gang.members)) ∧
    (gangUsable s .a = false → Completes (.gangLinkDown .a) s [.gang] fun t =>
      t.gang.aUp = false ∧ t.gang.panel = s.gang.panel) ∧
    (gangUsable s .a = true → s.gang.panel = 1 → Completes (.gangLinkDown .a) s [.gang, .od, .out] fun t =>
      t.gang.aUp = false ∧ t.gang.aBroken = true ∧ t.gang.panel = 2 ∧ t.gang.bUp = s.gang.bUp ∧
      setting t 0xB031 6 = setting s 0xB031 6 + 1 ∧ OdKept [obj 0xB031 6] s t) ∧
    (gangUsable s .b = true → s.gang.panel = 2 → hasDomain s = false → s.domain.charter = none → Calm s →
      ∃ t, exec (.gangLinkDown .b) s = .next t ∧ t.gang.panel = 3 ∧ t.gang.bBroken = true ∧ t.gang.bUp = false) ∧
    (s.seq.phase ≠ 9 → Completes (.gangLinkUp l) s [.gang] fun t =>
      (l = .a → t.gang.aUp = true) ∧ (l = .b → t.gang.bUp = true) ∧ t.gang.panel = s.gang.panel) ∧
    (s.seq.phase = 9 → s.gang.panel ≠ 3 → s.gang.aUp = false → s.gang.aBroken = false → portUp s .gangA = true →
      Completes (.gangLinkUp .a) s [.gang, .out] fun t =>
        t.gang.aUp = true ∧ ∃ f, t.out = .gang .a f :: s.out ∧ f.src = memberId s ∧ f.seq = 0)

/-! ### Flash port, test port and fuses (R78 to R85, R104, R105, R135, R447, R448) -/

/-- The flash port, the I3C target and the test port (R78, R79, R84, R85, R447, R448): flash answers come in the order of the
requests, and what a failed program wrote reads as absent; KZ_DEBUG and KZ_FUSE answer only in the open state. -/
def Obligations.FlashAndTestPort : Prop :=
  (∀ s : State,
     (s.flash.reqs = [] → ∀ e, exec (.flashDone e) s = .next s) ∧
     (∀ q rest, s.flash.reqs = q :: rest →
       (Completes (.flashDone false) s [.flash] fun t => t.flash = { s.flash with reqs := rest }) ∧
       (q.op ≠ 1 → Completes (.flashDone true) s [.flash, .od] fun t =>
         t.flash = { s.flash with reqs := rest } ∧ setting t 0xB031 7 = setting s 0xB031 7 + 1 ∧
         OdKept [obj 0xB031 7] s t) ∧
       (∀ id, q.op = 1 → q.record = some id → Completes (.flashDone true) s [.flash, .od] fun t =>
         t.flash.reqs = rest ∧ tget t.flash.user id = none ∧ (∀ j, j ≠ id → tget t.flash.user j = tget s.flash.user j) ∧
         t.flash.slots = s.flash.slots ∧ t.flash.banks = s.flash.banks ∧ setting t 0xB031 7 = setting s 0xB031 7 + 1)) ∧
     (∀ a : BitVec 7, 4 ≤ s.seq.phase → s.power.quiesced = false → Completes (.i3cDynamicAddress a) s [.dict] fun t =>
       t.dict = { s.dict with i3cAddr := a.toNat })) ∧
  (∀ s : State,
     (Completes .tapReset s [.tap] fun t => t.tap = { s.tap with sel := 0 }) ∧
     (∀ ir : BitVec 8, Completes (.tapInstructionLoad ir) s [.tap] fun t =>
       (ir = 0x01 → t.tap.sel = 0) ∧ (ir = 0x20 → t.tap.sel = if tapOpen s then 1 else 3) ∧
       (ir = 0x30 → t.tap.sel = if tapOpen s then 2 else 3) ∧
       (ir ≠ 0x01 → ir ≠ 0x20 → ir ≠ 0x30 → t.tap.sel = 3) ∧ t.tap.dr = s.tap.dr) ∧
     exec .debugNop s = .next s ∧
     (debugging s = false → ∀ dr : BitVec 112, exec (.debugRead dr) s = .next s ∧ exec .debugHalt s = .next s ∧
       exec .debugResume s = .next s) ∧
     (debugging s = true →
       (∀ dr : BitVec 112, fld dr.toNat 0 2 = 1 → Completes (.debugRead dr) s [.tap, .out, .free] fun t =>
         ∃ w : BitVec 112, t.out = .tdo w :: s.out ∧ t.tap.dr = w ∧ fld w.toNat 0 48 = fld dr.toNat 0 48 ∧
           (5 < fld dr.toNat 2 4 ∨ s.seq.phase < 4 → fld w.toNat 48 64 = 0)) ∧
       (Completes .debugHalt s [.seq] fun t => t.seq = { s.seq with halted := true }) ∧
       (Completes .debugResume s [.seq] fun t => t.seq = { s.seq with halted := false })))

/-- Fuses (R94, R104, R105, R135, R447): a program through the test port, the epoch floor and the wipe bit start a blow only
under R94 and while none runs; words 6, 7 and 8 take none from the test port; a bit that verifies reads 1 from then on, one
that does not is tried once more. -/
def Obligations.FuseBlows : Prop :=
  ∀ s : State,
    (∀ w (bits : BitVec 72), s.tap.sel = 2 → tapOpen s = true → powerGood s = true → fusesFree s = true → w < 32 →
      w ≠ 6 → w ≠ 7 → w ≠ 8 → unblown s w bits.toNat ≠ [] → Completes (.fuseProgram w bits) s [.fuses] fun t =>
        t.fuses = { s.fuses with blow := some { word := w, bits := unblown s w bits.toNat, failedOnce := false, why := 0,
                                                req := none } }) ∧
    (∀ w (bits : BitVec 72), (s.tap.sel ≠ 2 ∨ tapOpen s = false ∨ powerGood s = false ∨ w = 6 ∨ w = 7 ∨ w = 8) →
      exec (.fuseProgram w bits) s = .next s) ∧
    (∀ b k rest, s.fuses.blow = some b → b.bits = k :: rest → k < 72 →
      (rest ≠ [] → Completes (.fuseBlowDone true) s [.fuses] fun t =>
        (fuseWord t b.word).getLsbD k = true ∧ (∀ j, j ≠ k → (fuseWord t b.word).getLsbD j = (fuseWord s b.word).getLsbD j) ∧
        (∀ w, w ≠ b.word → fuseWord t w = fuseWord s w) ∧
        t.fuses.blow = some { b with bits := rest, failedOnce := false }) ∧
      (rest = [] → b.why = 0 → Completes (.fuseBlowDone true) s [.fuses] fun t =>
        (fuseWord t b.word).getLsbD k = true ∧ t.fuses.blow = none) ∧
      (∀ r, rest = [] → b.why = 1 → b.word = 8 → b.req = some r → ∃ t, exec (.fuseBlowDone true) s = .next t ∧
        Answers r 2 0x2003 2 0 [] s t ∧ t.fuses.blow = none ∧ t.fuses.floor = thermometer (plainFuse t 8) ∧
        OnlyChanges (.fuses :: answerFields) s t) ∧
      (b.failedOnce = false → Completes (.fuseBlowDone false) s [.fuses] fun t =>
        t.fuses = { s.fuses with blow := some { b with failedOnce := true } }) ∧
      (b.failedOnce = true → b.why = 0 → Completes (.fuseBlowDone false) s [.fuses] fun t =>
        t.fuses.blow = none ∧ t.fuses.words = s.fuses.words)) ∧
    (∀ (r : OdReq) (v : BitVec 8), Accepts r 0x2003 2 (le 1 v.toNat) s →
      (v.toNat < s.fuses.floor ∨ s.fw.epoch < v.toNat ∨ 64 < v.toNat →
        WriteRefused (.raiseEpochFloor r v) s r 0x2003 2 abRange) ∧
      (s.fuses.floor < v.toNat → v.toNat ≤ s.fw.epoch → v.toNat ≤ 64 → powerGood s = true → fusesFree s = true →
        Completes (.raiseEpochFloor r v) s [.fuses] fun t =>
          ∃ b, t.fuses.blow = some b ∧ b.word = 8 ∧ b.why = 1 ∧ b.req = some r ∧ b.failedOnce = false ∧
            ∀ k, k ∈ b.bits ↔ s.fuses.floor ≤ k ∧ k < v.toNat)) ∧
    (∀ (r : OdReq) (v : BitVec 16), Accepts r 0x2003 1 (le 2 v.toNat) s →
      (v.toNat ≠ 0x5749 ∨ s.fuses.wipes = 64 → WriteRefused (.userFlashWipe r v) s r 0x2003 1 abRange) ∧
      (v.toNat = 0x5749 → s.fuses.wipes ≠ 64 → powerGood s = true → fusesFree s = true →
        Completes (.userFlashWipe r v) s [.fuses] fun t =>
          t.fuses.blow = some { word := 7, bits := [s.fuses.wipes], failedOnce := false, why := 2, req := some r }))

/-! ### Firmware and life cycle (R94, R434, R435, R437, R444, R445, R449 to R452) -/

/-- Staging (R94, R444): a begin erases the other slot, chunks follow one another without a gap and are programmed, a commit
starts the check, and its end reports. Outside R94 nothing starts. -/
def Obligations.FirmwareStaging : Prop :=
  ∀ (s : State) (r : OdReq),
    (∀ v : BitVec 32, Accepts r 0x9020 2 (le 4 v.toNat) s →
      (v.toNat < 7509 ∨ 4128768 < v.toNat → WriteRefused (.fwStageBegin r v) s r 0x9020 2 abRange) ∧
      (7509 ≤ v.toNat → v.toNat ≤ 4128768 → powerGood s = false → WriteRefused (.fwStageBegin r v) s r 0x9020 2 abState) ∧
      (7509 ≤ v.toNat → v.toNat ≤ 4128768 → powerGood s = true → updating s = false → s.fw.checking = false →
        Writes (.fwStageBegin r v) s r 0x9020 2 [.flash, .fw] [] fun t =>
          t.fw = { s.fw with total := v.toNat, staged := [], staged_ok := false, status := 0 } ∧
          tget t.flash.slots (inactiveSlot s) = some { arming := [], image := [] } ∧
          (∀ k, k ≠ inactiveSlot s → tget t.flash.slots k = tget s.flash.slots k) ∧ t.flash.user = s.flash.user ∧
          t.flash.banks = s.flash.banks ∧ Tells (.flash 2 (0x400000 * inactiveSlot s) 0x400000) s t)) ∧
    (∀ v : Bytes, Accepts r 0x9020 3 v s →
      (num v 0 4 ≠ s.fw.staged.length → WriteRefused (.fwStageChunk r v) s r 0x9020 3 abRange) ∧
      (num v 0 4 = s.fw.staged.length → 0 < num v 4 2 → num v 4 2 ≤ 1024 → num v 0 4 + num v 4 2 ≤ s.fw.total →
        zeros v 6 2 = true → zeros v (8 + num v 4 2) (1024 - num v 4 2) = true → powerGood s = true → updating s = false →
        s.fw.checking = false → Writes (.fwStageChunk r v) s r 0x9020 3 [.flash, .fw] [] fun t =>
          t.fw = { s.fw with staged := s.fw.staged ++ slice v 8 (num v 4 2) } ∧
          (tget t.flash.slots (inactiveSlot s)).map (·.image) = some (s.fw.staged ++ slice v 8 (num v 4 2)) ∧
          (∀ k, k ≠ inactiveSlot s → tget t.flash.slots k = tget s.flash.slots k) ∧ t.flash.user = s.flash.user)) ∧
    (∀ v : BitVec 8, Accepts r 0x9020 5 (le 1 v.toNat) s →
      (s.fw.staged.length < s.fw.total → WriteRefused (.fwStageCommit r v) s r 0x9020 5 abState) ∧
      (powerGood s = true → updating s = false → 0 < s.fw.total → s.fw.total ≤ s.fw.staged.length →
        s.fw.checking = false → Writes (.fwStageCommit r v) s r 0x9020 5 [.fw] [] fun t =>
          t.fw = { s.fw with checking := true, status := 0xFF })) ∧
    (s.fw.checking = false → exec .fwStageCheckDone s = .next s) ∧
    (s.fw.checking = true → Completes .fwStageCheckDone s [.fw] fun t =>
      t.fw.checking = false ∧ t.fw.status = imageStatus s (slotAt s (inactiveSlot s)).image ∧
      (t.fw.staged_ok = true ↔ t.fw.status = stDone) ∧ t.fw.staged = s.fw.staged ∧ t.fw.active = s.fw.active)

/-- Activation (R386, R388, R434, R437, R445): it needs a committed image and starts a management reset into the new slot; it
waits for a charter commit; in basting mode the slot is armed and the block resets. An image that measures right becomes the
active one, another restores the old one; firmware that never reports ready is a failed start. -/
def Obligations.FirmwareActivation : Prop :=
  ∀ (s : State) (r : OdReq),
    (∀ v : BitVec 8, Accepts r 0x9020 6 (le 1 v.toNat) s →
      (s.fw.staged_ok = false → WriteRefused (.fwActivate r v) s r 0x9020 6 abState) ∧
      (s.fw.staged_ok = true → powerGood s = true → updating s = false → basting s = false →
        (s.domain.pending ≠ 0 → ∃ t, exec (.fwActivate r v) s = .next t ∧ Answers r 2 0x9020 6 0 [] s t ∧
          t.domain.activationWaits = true ∧ t.fw = s.fw ∧ OnlyChanges (.domain :: answerFields) s t) ∧
        (s.domain.pending = 0 → Calm s → ∃ t, exec (.fwActivate r v) s = .next t ∧ Answers r 2 0x9020 6 0 [] s t ∧
          t.fw.step = 3 ∧ t.fw.status = 0xFF ∧ t.fw.active = s.fw.active ∧ t.seq.mgmtReset = true ∧
          t.seq.lastMgmtCause = 3 ∧ t.domain.state = 3 ∧ t.domain.sessions = [] ∧ t.dumps = [] ∧
          Keeps [.cfg, .pins, .always, .power, .tap, .fuses, .lc, .sources, .gang, .purl, .patterns, .interval, .tick,
                 .pending] s t)) ∧
      (s.fw.staged_ok = true → powerGood s = true → updating s = false → basting s = true → s.seq.tamperHold = false →
        ∃ t, exec (.fwActivate r v) s = .next t ∧ t.always.lastResetCause = 8 ∧ t.seq.phase = 0 ∧ t.seq.basting = 0 ∧
          t.domain = Domain.reset ∧ t.od = [] ∧
          (tget t.flash.slots (inactiveSlot s)).map (·.image) = some (slotAt s (inactiveSlot s)).image ∧
          Keeps [.cfg, .tap, .tick, .pending, .free] s t)) ∧
    (s.fw.step = 3 → s.fw.restoring = none → Calm s → ∃ t, exec .activationFirmwareReady s = .next t ∧
      (imageStatus s (slotAt s (inactiveSlot s)).image = stDone →
        t.fw.active = inactiveSlot s ∧ t.fw.step = 0 ∧ t.fw.status = stDone ∧ t.fw.staged = [] ∧
        t.seq.mgmtReset = false ∧ t.domain.state = 0 ∧ t.domain.charter = none) ∧
      (imageStatus s (slotAt s (inactiveSlot s)).image ≠ stDone →
        t.fw.restoring = some (imageStatus s (slotAt s (inactiveSlot s)).image) ∧ t.fw.active = s.fw.active ∧
        t.seq.mgmtReset = true ∧ t.seq.lastMgmtCause = 3)) ∧
    (s.fw.step ≠ 3 → exec .activationFirmwareReady s = .next s) ∧
    (s.seq.phase = 7 → basting s = false → s.seq.since + 50000 ≤ s.tick → s.always.failedStarts < 2 →
      ∃ t, exec .firmwareReadyTimeout s = .next t ∧ ResetBy 7 s t ∧ t.always.failedStarts = s.always.failedStarts + 1) ∧
    (s.seq.phase = 7 → s.tick < s.seq.since + 50000 → exec .firmwareReadyTimeout s = .next s)

/-- The life cycle (R449 to R452): a transition zeroises and starts its blow, and is answered once the word is re-sensed; the
one to CLOSED then resets the block, the one to OPEN first wipes user flash under its next STORAGE_WIPES bit. -/
def Obligations.LifeCycleTransitions : Prop :=
  ∀ (s : State) (r : OdReq),
    (∀ v : BitVec 32, Accepts r 0x9010 4 (le 4 v.toNat) s →
      (fld v.toNat 16 16 ≠ 0x4C43 → WriteRefused (.lcRequestClosed r v) s r 0x9010 4 abRange) ∧
      (∀ target, fld v.toNat 2 14 = 0 → fld v.toNat 16 16 = 0x4C43 → fld v.toNat 0 2 = target →
        (target = 1 ∨ (target = 2 ∧ (basting s = true ∨ granted s r = 2))) →
        ((lcGoal s.fuses.lcWord target).isNone = true → WriteRefused (if target = 1 then .lcRequestClosed r v else .lcRequestOpen r v) s r 0x9010 4 abState) ∧
        ((lcGoal s.fuses.lcWord target).isSome = true → powerGood s = true → fusesFree s = true → updating s = false →
          staging s = false → Calm s → ∃ t,
          exec (if target = 1 then .lcRequestClosed r v else .lcRequestOpen r v) s = .next t ∧
          t.lc = { progress := 2, target := target, req := some r } ∧ t.keys.held = [] ∧
          t.keys.cache = [] ∧ t.tension.closed = true ∧ t.tension.units = [] ∧ t.tension.scratch = [] ∧
          t.tally.nodes = [] ∧ t.domain.memberSlot = none ∧ (∀ k, r.sess ≠ some k → thas t.domain.sessions k = false) ∧
          Keeps [.cfg, .pins, .seq, .always, .power, .tap, .fuses, .flash, .fw, .recovery, .sources, .gang, .tick, .pending]
            s t))) ∧
    (∀ got : BitVec 64, s.lc.progress = 2 → s.seq.deferred = none → s.power.pfailLow = false →
      ((s.lc.target ≠ 2 ∨ (lcGoal s.fuses.lcWord s.lc.target == some got.toNat) = false) →
        ∃ t, exec (.lcBlowDone got) s = .next t ∧ t.always.lastResetCause = 6 ∧ t.seq.phase = 0 ∧
          plainFuse t 6 = got.toNat ∧ t.domain = Domain.reset ∧ t.keys = Keys.reset ∧
          (∀ q, s.lc.req = some q → Answers q 2 0x9010 4
            (if lcGoal s.fuses.lcWord s.lc.target == some got.toNat then 0 else abState) [] s t)) ∧
      (s.lc.target = 2 → (lcGoal s.fuses.lcWord s.lc.target == some got.toNat) = true → powerGood s = true →
        s.fuses.wipes < 64 → ∃ t, exec (.lcBlowDone got) s = .next t ∧ t.lc.progress = 3 ∧
          plainFuse t 6 = got.toNat ∧ t.fuses.lcWord = got.toNat ∧ t.flash.user = [] ∧ t.flash.banks = [] ∧
          t.flash.slots = s.flash.slots ∧
          t.fuses.blow = some { word := 7, bits := [s.fuses.wipes], failedOnce := false, why := 4, req := none })) ∧
    (∀ got : BitVec 64, s.lc.progress ≠ 2 → exec (.lcBlowDone got) s = .next s) ∧
    (s.lc.progress = 3 → s.fuses.blow = none → ∃ t, exec .lcWipeDone s = .next t ∧ ResetBy 6 s t ∧
      Keeps [.cfg, .tap, .tick, .out, .pending, .free] s t) ∧
    (s.lc.progress ≠ 3 → exec .lcWipeDone s = .next s)

/-! ### Messages of the fabric and the tray (R204 to R236) -/

/-- Fabric messages (R208, R210 to R212, R228): none acts before start-up is complete or for another endpoint; a switch
forwards them by its routes and answers PEER_GONE where it has none; one that breaks the rules is counted; a response that
finds no request is a counted duplicate; a NOP asks for nothing. -/
def Obligations.FabricMessages : Prop :=
  ∀ (m : FMsg) (s : State), (∀ c ∈ fabRows m,
    (running s = false ∨ (m.dstEp ≠ ownEndpoint s ∧ profile s ≠ 1) → exec c.2 s = .next s) ∧
    (∀ p, running s = true → m.dstEp ≠ ownEndpoint s → profile s = 1 →
      pickPort s m.dstEp (fhdrOf m.hdr).tag ((fhdrOf m.hdr).ord == 1) = some p →
      Completes c.2 s sendFields (Tells (.fabric p m) s)) ∧
    (∀ p, running s = true → m.dstEp ≠ ownEndpoint s → profile s = 1 → (fhdrOf m.hdr).msg = 2 →
      pickPort s m.dstEp (fhdrOf m.hdr).tag ((fhdrOf m.hdr).ord == 1) = none →
      pickPort s m.srcEp (fhdrOf m.hdr).tag false = some p →
      Completes c.2 s sendFields (FabTold p m 0x82 stPeerGone true [] [] s)) ∧
    (running s = true → m.dstEp = ownEndpoint s → (fhdrOf m.hdr).msg = c.1 → msgOk m = false →
      Completes c.2 s sendFields fun t => setting t 0xB050 0xE = setting s 0xB050 0xE + 1)) ∧
  (FabArrives m 0x0F s → exec (.nopMsg m) s = .next s) ∧
  (∀ c ∈ rspRows m, FabArrives m c.1 s → matchRsp m s = none → Completes c.2 s [.od] fun t =>
    setting t 0xB050 0xD = setting s 0xB050 0xD + 1 ∧ OdKept [obj 0xB050 0xD] s t)

/-- The tray's checks and its data (R151, R213, R220 to R223): a request that fails a check is counted and refused and
changes nothing of the tray; a read answers what is stored, POISONED for an error of the memory; a write stores the bytes
of its own lines or its own metadata and no others. -/
def Obligations.TrayMemory : Prop :=
  ∀ (m : FMsg) (s : State) (p : Nat),
    (∀ (c : Nat × Instr) (st k : Nat), c ∈ trayRows m → c.1 ≠ 5 → c.1 ≠ 9 → c.1 ≠ 0xA → FabArrives m c.1 s → profile s = 2 →
      pickPort s m.srcEp (fhdrOf m.hdr).tag false = some p → trayCheck s m (fhdrOf m.hdr) = some (st, k) →
      Completes c.2 s sendFields fun t => FabRefused p m (rspType c.1) st s t ∧
        setting t 0xB050 k = setting s 0xB050 k + 1) ∧
    (∀ r, TrayAsked p 1 m r s →
      (poisoned s (trayData r (addrOffset (fhdrOf m.hdr).addr)) (64 * ((fhdrOf m.hdr).cnt + 1)) = true →
        Completes (.poolRead m) s sendFields (FabTold p m 0x81 stPoisoned true [] [] s)) ∧
      (poisoned s (trayData r (addrOffset (fhdrOf m.hdr).addr)) (64 * ((fhdrOf m.hdr).cnt + 1)) = false →
        Completes (.poolRead m) s sendFields (FabTold p m 0x81 stDone false []
          ((List.range ((fhdrOf m.hdr).cnt + 1)).map fun k => readPooled s r (addrOffset (fhdrOf m.hdr).addr + 64 * k)) s))) ∧
    (∀ r, TrayAsked p 2 m r s → m.lines.length = (fhdrOf m.hdr).cnt + 1 →
      Completes (.poolWrite m) s (.fabric :: sendFields) fun t =>
        FabTold p m 0x82 stDone false [] [] s t ∧
        TrayKept (fun a =>
          (decide (trayData r (addrOffset (fhdrOf m.hdr).addr) ≤ a) &&
            decide (a < trayData r (addrOffset (fhdrOf m.hdr).addr) + 64 * m.lines.length)) ||
          (decide (trayMeta r (addrOffset (fhdrOf m.hdr).addr / 64 * 8) ≤ a) &&
            decide (a < trayMeta r (addrOffset (fhdrOf m.hdr).addr / 64 * 8) + 8 * m.lines.length))) s t ∧
        (∀ l, m.lines = [l] → Memory.wf s.fabric.tray.mem = true →
          (trayMeta r (addrOffset (fhdrOf m.hdr).addr / 64 * 8) + 8 ≤ trayData r (addrOffset (fhdrOf m.hdr).addr) ∨
            trayData r (addrOffset (fhdrOf m.hdr).addr) + 64 ≤ trayMeta r (addrOffset (fhdrOf m.hdr).addr / 64 * 8)) →
          readPooled t r (addrOffset (fhdrOf m.hdr).addr) = { data := slice l.data 0 64, tag := slice l.tag 0 8 }) ∧
        t.fabric.tray.regions = s.fabric.tray.regions ∧ t.fabric.tray.cells = s.fabric.tray.cells ∧
        t.fabric.tray.replay = s.fabric.tray.replay ∧ t.fabric.out = s.fabric.out) ∧
    (∀ r, TrayAsked p 3 m r s → Completes (.metaRead m) s sendFields (FabTold p m 0x83 stDone
      (poisoned s (trayMeta r (addrOffset (fhdrOf m.hdr).addr)) (64 * ((fhdrOf m.hdr).cnt + 1)))
      (Memory.readN s.fabric.tray.mem (trayMeta r (addrOffset (fhdrOf m.hdr).addr)) (64 * ((fhdrOf m.hdr).cnt + 1))) [] s)) ∧
    (∀ r, TrayAsked p 4 m r s → Completes (.metaWrite m) s (.fabric :: sendFields) fun t =>
      FabTold p m 0x84 stDone false [] [] s t ∧
      (Memory.wf s.fabric.tray.mem = true →
        Memory.readN t.fabric.tray.mem (trayMeta r (addrOffset (fhdrOf m.hdr).addr)) m.body.length = m.body) ∧
      TrayKept (fun a => decide (trayMeta r (addrOffset (fhdrOf m.hdr).addr) ≤ a) &&
        decide (a < trayMeta r (addrOffset (fhdrOf m.hdr).addr) + m.body.length)) s t ∧
      t.fabric.tray.regions = s.fabric.tray.regions ∧ t.fabric.tray.cells = s.fabric.tray.cells ∧
      t.fabric.out = s.fabric.out)

/-- Cells, owner records and the replay cache (R220, R229 to R234): an atomic changes one cell by its operation and answers
the old value; a claim takes a FREE record, OWN_CAS moves or frees it; a repeated request is answered from the replay
cache and executed no second time; entries expire after REPLAY_HOLD. -/
def Obligations.TrayCellsAndOwners : Prop :=
  ∀ (m : FMsg) (s : State) (p : Nat),
    (∀ (c : Nat × Instr), c ∈ trayRows m → c.1 = 5 ∨ c.1 = 9 ∨ c.1 = 0xA → FabArrives m c.1 s → profile s = 2 →
      pickPort s m.srcEp (fhdrOf m.hdr).tag false = some p →
      (∀ e, replayed s m = some e → Completes c.2 s sendFields fun t =>
        FabTold p m (rspType c.1) (e.status % 256) false e.body [] s t ∧ setting t 0xB050 7 = setting s 0xB050 7 + 1) ∧
      (replayed s m = none → (fhdrOf m.hdr).retry = 1 → Completes c.2 s sendFields fun t =>
        FabRefused p m (rspType c.1) stUnknown s t ∧ setting t 0xB050 8 = setting s 0xB050 8 + 1) ∧
      (replayed s m = none → (fhdrOf m.hdr).retry = 0 → tget s.fabric.tray.replay m.srcEp = none →
        16 ≤ s.fabric.tray.replay.length → Completes c.2 s sendFields fun t =>
          FabRefused p m (rspType c.1) stTableFull s t ∧ setting t 0xB050 9 = setting s 0xB050 9 + 1)) ∧
    (∀ (r : TrayRegion), replayed s m = none → (fhdrOf m.hdr).retry = 0 → tget s.fabric.tray.replay m.srcEp = none →
      s.fabric.tray.replay.length < 16 →
      (TrayAsked p 5 m r s → Completes (.trayAtomic m) s (.fabric :: sendFields) fun t =>
        FabTold p m 0x85 stDone false (le 8 (cellAt s (r.cellBase + addrOffset (fhdrOf m.hdr).addr / 8)).toNat ++ zeroBytes 8)
          [] s t ∧
        (∀ k, cellAt t k = if k = r.cellBase + addrOffset (fhdrOf m.hdr).addr / 8 then
            cellOp (fhdrOf m.hdr).aop (cellAt s k) (BitVec.ofNat 64 (num m.body 0 8)) (BitVec.ofNat 64 (num m.body 8 8))
          else cellAt s k) ∧
        (∃ e, replayed t m = some e ∧ e.status = stDone ∧ e.tick = s.tick) ∧
        t.fabric.tray.regions = s.fabric.tray.regions ∧ t.fabric.tray.mem = s.fabric.tray.mem) ∧
      (TrayAsked p 9 m r s → r.state = 1 → num m.body 4 1 = r.sizeLog2 → r.epoch < 0xFFFFFFFF → num m.body 6 2 = 0 →
        Completes (.ownClaim m) s (.fabric :: sendFields) fun t =>
          trayRegion t (addrRegion (fhdrOf m.hdr).addr) = some
            { r with state := 2, ownerEp := m.srcEp, epoch := r.epoch + 1, key := num m.body 0 4,
                     ownerJob := (fhdrOf m.hdr).job, checked := tbit (num m.body 5 1) 0,
                     ordered := tbit (num m.body 5 1) 1, cellBase := 0, cells := 0 } ∧
          (∃ b, FabTold p m 0x88 stDone false b [] s t ∧ num b 0 2 = m.srcEp % 65536 ∧ num b 2 1 = 2 ∧
            num b 4 4 = r.epoch + 1) ∧
          (∃ e, replayed t m = some e ∧ e.status = stDone) ∧ t.fabric.tray.mem = s.fabric.tray.mem) ∧
      (TrayAsked p 9 m r s → r.state ≠ 1 → Completes (.ownClaim m) s (.fabric :: sendFields) fun t =>
        FabTold p m 0x88 stDenied false (ownBody r) [] s t ∧ t.fabric.tray.regions = s.fabric.tray.regions) ∧
      (TrayAsked p 0xA m r s → r.ownerEp = num m.body 0 2 → r.epoch = num m.body 4 4 → r.epoch < 0xFFFFFFFF →
        (num m.body 2 2 ≠ 0 → Completes (.ownCas m) s (.fabric :: sendFields) fun t =>
          trayRegion t (addrRegion (fhdrOf m.hdr).addr) = some
            { r with ownerEp := num m.body 2 2, epoch := r.epoch + 1, key := num m.body 8 4,
                     ownerJob := (fhdrOf m.hdr).job } ∧
          t.fabric.tray.cells = s.fabric.tray.cells ∧ t.fabric.tray.mem = s.fabric.tray.mem) ∧
        (num m.body 2 2 = 0 → Completes (.ownCas m) s (.fabric :: sendFields) fun t =>
          trayRegion t (addrRegion (fhdrOf m.hdr).addr) = some
            { r with state := 1, checked := false, ordered := false, ownerEp := 0, ownerJob := 0, epoch := r.epoch + 1,
                     cellBase := 0, cells := 0, key := 0 } ∧
          (∀ k, cellAt t k = if r.cellBase ≤ k ∧ k < r.cellBase + r.cells then 0 else cellAt s k) ∧
          t.fabric.tray.mem = s.fabric.tray.mem)) ∧
      (TrayAsked p 0xA m r s → (r.ownerEp ≠ num m.body 0 2 ∨ r.epoch ≠ num m.body 4 4) →
        Completes (.ownCas m) s (.fabric :: sendFields) fun t =>
          FabTold p m 0x88 stDenied false (ownBody r) [] s t ∧ t.fabric.tray.regions = s.fabric.tray.regions)) ∧
    (∀ r, TrayAsked p 8 m r s → Completes (.ownRead m) s sendFields (FabTold p m 0x88 stDone false (ownBody r) [] s)) ∧
    (∀ src tag l, tget s.fabric.tray.replay src = some l → Completes (.replayEntryExpire src tag) s [.fabric] fun t =>
      (tget t.fabric.tray.replay src).getD [] =
        l.filter (fun e => e.tag != tag || decide (s.tick < e.tick + setting s 0x5101 3)) ∧
      t.fabric.tray.regions = s.fabric.tray.regions ∧ t.fabric.tray.mem = s.fabric.tray.mem ∧
      t.fabric.tray.cells = s.fabric.tray.cells) ∧
    (∀ (r : OdReq) (v : BitVec 128), Accepts r 0x5101 1 (le 16 v.toNat) s →
      (fld v.toNat 12 4 = 0 → fld v.toNat 104 24 = 0 → 14 ≤ fld v.toNat 16 8 → fld v.toNat 16 8 ≤ 46 →
        trayRegion s (fld v.toNat 0 12) = none → Writes (.trayRegionProvision r v) s r 0x5101 1 [.fabric] [] fun t =>
          (∃ x, trayRegion t (fld v.toNat 0 12) = some x ∧ x.state = 1 ∧ x.sizeLog2 = fld v.toNat 16 8 ∧ x.epoch = 0 ∧
            x.dataBase = fld v.toNat 24 40 ∧ x.metaBase = fld v.toNat 64 40 ∧ x.ownerEp = 0 ∧ x.cells = 0) ∧
          (∀ k, k ≠ fld v.toNat 0 12 → trayRegion t k = trayRegion s k) ∧ t.fabric.tray.mem = s.fabric.tray.mem) ∧
      (fld v.toNat 12 4 = 0 → fld v.toNat 104 24 = 0 → 14 ≤ fld v.toNat 16 8 → fld v.toNat 16 8 ≤ 46 →
        (trayRegion s (fld v.toNat 0 12)).isSome = true → WriteRefused (.trayRegionProvision r v) s r 0x5101 1 abState)) ∧
    (∀ (r : OdReq) (v : BitVec 16) x, Accepts r 0x5101 2 (le 2 v.toNat) s → trayRegion s v.toNat = some x →
      Writes (.trayRegionReset r v) s r 0x5101 2 [.fabric] [] fun t =>
        trayRegion t v.toNat = some
          { x with state := 1, checked := false, ordered := false, ownerEp := 0, ownerJob := 0,
                   epoch := (x.epoch + 1) % 2 ^ 32, cellBase := 0, cells := 0, key := 0 } ∧
        (∀ k, k ≠ v.toNat → trayRegion t k = trayRegion s k) ∧ t.fabric.tray.mem = s.fabric.tray.mem)

/-! ### The requester: responses, timeouts, hand-over, regions (R149 to R174, R205 to R218, R233 to R241) -/

/-- Responses to the requester's messages (R150, R158, R160, R163, R165, R211, R231, R233 to R235): each ends its request
and tells what the request serves: a line of a READ (opened under the pair it was accepted with), a line of a WRITE (its
entry in the line-write table goes), a probe of a region, a write-back, an ATOMIC, a claim, the mirror's record. -/
def Obligations.FabricResponses : Prop :=
  ∀ (m : FMsg) (s : State) (tag : Nat) (q : FabReq), RspFinds m tag q s →
    (∀ n first r x rest slot reg off pair, FabArrives m 0x81 s → q.purpose = .meshRead n first →
      (fhdrOf q.hdr).cnt = 0 → tget s.ports.inReqs n = some r → r.waiting = first :: x :: rest →
      poolTarget s (mhdrOf r.q) = some (slot, reg, off) → r.ctrs.find? (fun c => c.1 == first) = some (first, pair) →
      SameInc reg m → Completes (.readRsp m) s [.ports, .tally, .fabric, .od] fun t =>
        thas t.fabric.out tag = false ∧
        tget t.ports.inReqs n = some { r with
          waiting := x :: rest,
          done := r.done ++ [(first, (lineOutcome s reg (poolLine r.q + first) pair (fhdrOf m.hdr).status
            ((fhdrOf m.hdr).poison == 1) (m.lines.getD 0 noPair)))] } ∧
        t.tally.nodes = s.tally.nodes ∧ t.fabric.tray = s.fabric.tray) ∧
    (∀ n first r x rest slot reg off a b g e, FabArrives m 0x82 s → q.purpose = .meshWrite n first →
      q.source = some (a, b, g) → sourceOf s a b = some e → 2 ≤ nth e.counts g 0 → (fhdrOf q.hdr).cnt = 0 →
      (fhdrOf m.hdr).status = stDone → tget s.ports.inReqs n = some r → r.waiting = first :: x :: rest →
      poolTarget s (mhdrOf r.q) = some (slot, reg, off) → SameInc reg m →
      (∀ nd, leafNode s slot (poolLine r.q + first) = some nd → nd.shadow = none) → Completes (.writeRsp m) s [.ports, .tally, .fabric] fun t =>
        thas t.fabric.out tag = false ∧ t.tally.lineWrites = s.tally.lineWrites.erase (slot, poolLine r.q + first) ∧
        tget t.ports.inReqs n = some { r with waiting := x :: rest, done := r.done ++ [(first, stDone, [])] } ∧
        (∃ e', sourceOf t a b = some e' ∧ nth e'.counts g 0 = nth e.counts g 0 - 1 ∧ e'.fails = e.fails) ∧
        t.tally.regions = s.tally.regions ∧ t.fabric.tray = s.fabric.tray) ∧
    (∀ slot r i, FabArrives m 0x83 s → q.purpose = .probe slot → q.msg = 3 →
      (fhdrOf m.hdr).status = stDone → (fhdrOf m.hdr).poison = 0 → regionAt s slot = some r → r.state = 4 →
      probeNode r = some i → SameInc r m → s.tally.nodes = [] → Completes (.metaReadRsp m) s [.tally, .fabric] fun t =>
        thas t.fabric.out tag = false ∧
        (nodeVerifies (regionKey s r) (levelsOf r.sizeLog2 - 1) i (nth r.roots i 0) m.body = true →
          regionAt t slot = some { r with state := 2 }) ∧
        (nodeVerifies (regionKey s r) (levelsOf r.sizeLog2 - 1) i (nth r.roots i 0) m.body = false →
          regionAt t slot = some r)) ∧
    (∀ slot lv ix r n, FabArrives m 0x84 s → q.purpose = .writeBack slot lv ix false false →
      (fhdrOf m.hdr).status = stDone → regionAt s slot = some r → SameInc r m → nodeAt s slot lv ix = some n → n.state = 3 →
      n.acks = 1 → Completes (.metaWriteRsp m) s [.tally, .fabric] fun t =>
        thas t.fabric.out tag = false ∧ nodeAt t slot lv ix = some { n with state := 1, acks := 0 } ∧
        t.tally.regions = s.tally.regions) ∧
    (∀ n r slot reg off, FabArrives m 0x85 s → q.purpose = .meshAtomic n →
      (fhdrOf m.hdr).status = stDone → tget s.ports.inReqs n = some r → r.waiting = [0] → r.done = [] →
      internal r.q = false → (mhdrOf r.q).opc = 3 → poolTarget s (mhdrOf r.q) = some (slot, reg, off) →
      SameInc reg m → AnswerGoes r.port 1 s → Completes (.atomicRsp m) s [.ports, .fabric, .out] fun t =>
        thas t.ports.inReqs n = false ∧ thas t.fabric.out tag = false ∧
        Tells (.meshRsp r.port 0x83 (fld r.q.hdr.toNat 96 16) (fld r.q.hdr.toNat 16 16) stDone false
          (slice m.body 0 8 ++ zeroBytes 120)) s t) ∧
    (∀ slot r, FabArrives m 0x88 s → q.purpose = .claim slot → (fhdrOf m.hdr).status = stDone →
      regionAt s slot = some r → SameInc r m → Completes (.ownRsp m) s [.dict, .tally, .fabric] fun t =>
        thas t.fabric.out tag = false ∧
        regionAt t slot = some { r with state := 2, ownerEpoch := num m.body 4 4, cells := num m.body 8 2,
                                        trayInc := some (fhdrOf m.hdr).inc } ∧
        (∀ k, r.creator = some k → perSession t k 0x3101 5 = stDone)) ∧
    (∀ slot r, FabArrives m 0x88 s → q.purpose = .mirrorOwn slot → regionAt s slot = some r →
      SameInc r m → Completes (.ownRsp m) s [.tally, .fabric] fun t =>
        thas t.fabric.out tag = false ∧
        ((fhdrOf m.hdr).status = stDone → regionAt t slot = some { r with mirrorInc := some (fhdrOf m.hdr).inc }) ∧
        ((fhdrOf m.hdr).status ≠ stDone → regionAt t slot = some { r with mirrorLost := true }))

/-- The requester's timers and settings (R205, R206, R215, R217, R233): a load without a response within REMOTE_TIMEOUT ends
as TARGET_DEAD, or PEER_GONE when its target has restarted, with a fault record and its region UNAVAILABLE; an atomic is
sent again with RETRY every ATOMIC_RETRY; ENDPOINT_ID may not change under a stitched link; a route write advances the
route's epoch. -/
def Obligations.RequesterTimersAndSettings : Prop :=
  ∀ s : State,
    (∀ tag q, tget s.fabric.out tag = some q →
      (s.tick < q.firstTick + setting s 0x5000 2 ∨ q.msg = 0x0C → exec (.remoteTimeout tag) s = .next s) ∧
      (∀ n first r x rest slot reg off, q.firstTick + setting s 0x5000 2 ≤ s.tick → q.msg = 1 →
        q.purpose = .meshRead n first → q.source = none → (fhdrOf q.hdr).cnt = 0 → Settled s →
        tget s.ports.inReqs n = some r → r.waiting = first :: x :: rest →
        poolTarget s (mhdrOf r.q) = some (slot, reg, off) → reg.state = 2 → s.fabric.faults.length < 64 →
        Completes (.remoteTimeout tag) s [.ports, .tally, .fabric, .od] fun t =>
          thas t.fabric.out tag = false ∧
          tget t.ports.inReqs n = some { r with waiting := x :: rest, done := r.done ++
            [(first, (if markedGone s q = true then stPeerGone else stTargetDead), [])] } ∧
          (∃ f, t.fabric.faults = s.fabric.faults ++ [f] ∧ f.dst = q.dst ∧ f.partition = q.partition ∧
            f.status = (if markedGone s q = true then stPeerGone else stTargetDead)) ∧
          (regionAt t slot).map (·.state) = some 4 ∧ setting t 0xB050 4 = setting s 0xB050 4 + 1 ∧
          OdKept [obj 0xB050 4] s t) ∧
      (s.tick < q.lastSend + setting s 0x5000 3 ∨ (q.msg ≠ 5 ∧ q.msg ≠ 9 ∧ q.msg ≠ 0xA) →
        exec (.atomicRetry tag) s = .next s) ∧
      (∀ p, q.lastSend + setting s 0x5000 3 ≤ s.tick → (q.msg = 5 ∨ q.msg = 9 ∨ q.msg = 0xA) →
        pickPort s q.dst tag q.ordered = some p → Completes (.atomicRetry tag) s (.fabric :: sendFields) fun t =>
          Tells (.fabric p { srcEp := ownEndpoint s, dstEp := q.dst, vl := q.vl,
                             hdr := fhdrWord { fhdrOf q.hdr with retry := 1 }, body := q.body, lines := [] }) s t ∧
          tget t.fabric.out tag = some { q with port := p, lastSend := s.tick, unsent := false } ∧
          setting t 0xB050 6 = setting s 0xB050 6 + 1 ∧ t.fabric.tray = s.fabric.tray)) ∧
    (∀ (r : OdReq) (v : BitVec 16), Accepts r 0x5000 1 (le 2 v.toNat) s → v ≠ 0 → v ≠ 0xFFFF →
      ((∀ e ∈ s.links.ports, e.2.state ≠ 3 ∧ e.2.state ≠ 4) → Writes (.endpointIdWrite r v) s r 0x5000 1 [] [obj 0x5000 1]
        fun t => setting t 0x5000 1 = v.toNat) ∧
      ((∃ e ∈ s.links.ports, e.2.state = 3 ∨ e.2.state = 4) → WriteRefused (.endpointIdWrite r v) s r 0x5000 1 abState)) ∧
    (∀ (r : OdReq) (v : BitVec 96), Accepts r 0x5011 1 (le 12 v.toNat) s → s.fabric.out = [] →
      (fld v.toNat 66 6 = 0 → fld v.toNat 73 23 = 0 → fld v.toNat 48 18 < 2 ^ linkPortsOf s.cfg → fld v.toNat 0 16 < 1024 →
        Writes (.routeWrite r v) s r 0x5011 1 [.fabric] [] fun t =>
          (∃ x, tget t.fabric.routes (fld v.toNat 0 16) = some x ∧ x.base = fld v.toNat 16 16 ∧
            x.mask = fld v.toNat 32 16 ∧ x.ports = fld v.toNat 48 18 ∧ x.valid = tbit v.toNat 72 ∧
            (∀ y, tget s.fabric.routes (fld v.toNat 0 16) = some y → x.epoch = (y.epoch + 1) % 65536)) ∧
          (∀ k, k ≠ fld v.toNat 0 16 → tget t.fabric.routes k = tget s.fabric.routes k) ∧
          t.fabric.peers = s.fabric.peers ∧ t.fabric.tray = s.fabric.tray) ∧
      (1024 ≤ fld v.toNat 0 16 → WriteRefused (.routeWrite r v) s r 0x5011 1 abRange))

/-- Hand-over at the offerer (R238, R240, R241): an offer that may not be made ends its descriptor with DENIED; one that
is made puts the region into HANDING_OVER; without an answer within OFFER_TIMEOUT its token is kept and the region is
UNAVAILABLE; HO_ACCEPT gives the region away and HO_REFUSE gives it back; a kept token asks the tray again. -/
def Obligations.HandOverOfferer : Prop :=
  ∀ s : State,
    (∀ d x, descFor s d 0x0B = some x →
      (ownEndpoint s = 0 → Completes (.handoverOffer d) s [.host] fun t =>
        tget t.host.descs d = some { x with outcome := some (stDenied, 0, 0, 0) } ∧
        (∀ j, j ≠ d → tget t.host.descs j = tget s.host.descs j)) ∧
      (∀ r, regionAt s (num x.bytes 8 2) = some r → r.partition = descPart s x → ownOrReserved s (num x.bytes 10 2) = false →
        ownEndpoint s ≠ 0 → r.state = 2 → r.damaged = false → Settled s →
        regionMigrating s (num x.bytes 8 2) = true → Completes (.handoverOffer d) s [.tally, .fabric] fun t =>
          regionAt t (num x.bytes 8 2) = some { r with state := 3 } ∧
          (∃ o, t.fabric.offers = [o] ∧ o.slot = num x.bytes 8 2 ∧ o.desc = d ∧ o.acceptor = num x.bytes 10 2 ∧
            o.step = 1 ∧ o.epoch = r.ownerEpoch))) ∧
    (∀ slot o, offerOf s slot = some o →
      (o.step ≠ 6 ∨ s.tick < o.sentTick + setting s 0x5000 5 → exec (.offerTimeout slot) s = .next s) ∧
      (o.step = 6 → o.sentTick + setting s 0x5000 5 ≤ s.tick → regionAt s slot = none → s.ports.heldReqs = [] →
        (∀ e ∈ s.ports.inReqs, e.2.ready = []) → s.fabric.offers = [o] → s.fabric.offerTable = [] → o.forced = none →
        2 < s.fabric.handovers.length → Completes (.offerTimeout slot) s [.tally, .fabric, .host] fun t =>
          (∃ k, t.fabric.tokens = s.fabric.tokens.filter (fun x => x.slot != slot) ++ [k] ∧ k.slot = slot ∧
            k.offerer = true ∧ k.peer = o.acceptor ∧ k.epoch = o.epoch) ∧
          nth t.fabric.handovers 2 0 = nth s.fabric.handovers 2 0 + 1 ∧ t.fabric.offers = [] ∧
          (∀ x, tget s.host.descs o.desc = some x → x.outcome = none →
            tget t.host.descs o.desc = some { x with outcome := some (stTimeout, 0, 0, 0) }))) ∧
    (∀ (m : FMsg) tag q slot o, matchRsp m s = some (tag, q) → q.purpose = .hoOffer slot → offerOf s slot = some o →
      s.fabric.offers = [o] → s.fabric.offerTable = [] → s.ports.heldReqs = [] → (∀ e ∈ s.ports.inReqs, e.2.ready = []) →
      o.forced = none → 2 ≤ s.fabric.handovers.length → o.doomed = false →
      (FabArrives m 0x8C s → regionAt s slot = none → Completes (.hoAccept m) s [.fabric, .host] fun t =>
        t.fabric.offers = [] ∧ nth t.fabric.handovers 0 0 = nth s.fabric.handovers 0 0 + 1 ∧
        (∀ x, tget s.host.descs o.desc = some x → x.outcome = none →
          tget t.host.descs o.desc = some { x with outcome := some (stDone, 0, 0, 0) })) ∧
      (FabArrives m 0x8C s → ∃ t, exec (.hoAccept m) s = .next t ∧ regionAt t slot = none ∧ t.fabric.offers = []) ∧
      (∀ r, FabArrives m 0x8E s → (fhdrOf m.hdr).status ≠ stOrphaned → regionAt s slot = some r → r.state = 3 →
        Completes (.hoRefuse m) s [.tally, .fabric, .host] fun t =>
          regionAt t slot = some { r with state := 2 } ∧ t.fabric.offers = [] ∧
          nth t.fabric.handovers 1 0 = nth s.fabric.handovers 1 0 + 1 ∧
          (∀ x, tget s.host.descs o.desc = some x → x.outcome = none →
            tget t.host.descs o.desc = some { x with outcome := some ((fhdrOf m.hdr).status, 0, 0, 0) }))) ∧
    (∀ slot k, s.fabric.tokens.find? (fun t => t.slot == slot) = some k →
      (s.tick < k.lastTry + setting s 0x3000 5 → exec (.handoverResolveRetry slot) s = .next s) ∧
      (∀ r p, k.lastTry + setting s 0x3000 5 ≤ s.tick → k.offerer = true → regionAt s slot = some r →
        fabBar s r.primaryEp = stDone → s.fabric.out = [] → pickPort s r.primaryEp 0 r.ordered = some p →
        Completes (.handoverResolveRetry slot) s (.fabric :: sendFields) fun t =>
          (∃ x, tget t.fabric.out 0 = some x ∧ x.msg = 0x0A ∧ x.dst = r.primaryEp ∧ x.purpose = .offerCas slot ∧
            x.body = casBody (ownEndpoint s) (ownEndpoint s) k.epoch r.accessKey) ∧
          t.fabric.offers = s.fabric.offers ∧ t.fabric.tray = s.fabric.tray))

/-- Hand-over at the acceptor (R239, R240): an offer and an acceptance wait for each other in the offer table, which
refuses the seventeenth; a second acceptance of one offerer is TABLE_FULL; what has met nothing within ACCEPT_WAIT times
out; a release closes its entry. -/
def Obligations.HandOverAcceptor : Prop :=
  ∀ s : State,
    (∀ m : FMsg, FabArrives m 0x0C s → profile s = 0 → entryOf s m.srcEp = none →
      (s.fabric.offerTable.length < 16 → Completes (.hoOffer m) s [.fabric] fun t =>
        (∃ e, t.fabric.offerTable = s.fabric.offerTable ++ [e] ∧ e.offerer = m.srcEp ∧ e.accept = none ∧ e.tick = s.tick ∧
          e.slot = none ∧ e.offer = some ((fhdrOf m.hdr).tag, (fhdrOf m.hdr).seq, m.vl, slice m.body 0 172)) ∧
        t.fabric.offers = s.fabric.offers ∧ t.fabric.out = s.fabric.out) ∧
      (∀ p, 16 ≤ s.fabric.offerTable.length → 2 ≤ s.fabric.handovers.length →
        pickPort s m.srcEp (fhdrOf m.hdr).tag false = some p → Completes (.hoOffer m) s (.fabric :: sendFields) fun t =>
          FabTold p m 0x8E stTableFull false [] [] s t ∧ t.fabric.offerTable = s.fabric.offerTable ∧
          nth t.fabric.handovers 1 0 = nth s.fabric.handovers 1 0 + 1)) ∧
    (∀ (m : FMsg) e, FabArrives m 0x0D s → entryOf s m.srcEp = some e →
      (e.slot.isSome = true → e.accept = none → Completes (.hoRelease m) s [.fabric] fun t =>
        entryOf t m.srcEp = none ∧ (∀ k, k ≠ m.srcEp → entryOf t k = entryOf s k) ∧
        t.fabric.handovers = s.fabric.handovers) ∧
      (e.slot = none → exec (.hoRelease m) s = .next s)) ∧
    (∀ d x, descFor s d 0x0C = some x →
      (entryOf s (num x.bytes 8 2) = none → s.fabric.offerTable.length < 16 → Completes (.handoverAccept d) s [.fabric] fun t =>
        (∃ e, t.fabric.offerTable = s.fabric.offerTable ++ [e] ∧ e.offerer = num x.bytes 8 2 ∧ e.offer = none ∧
          e.accept = some (d, descPart s x) ∧ e.tick = s.tick ∧ e.slot = none)) ∧
      (∀ e, entryOf s (num x.bytes 8 2) = some e → e.accept.isSome = true →
        (∀ y ∈ s.fabric.offerTable, y.accept ≠ some (d, descPart s x)) → Completes (.handoverAccept d) s [.host] fun t =>
          tget t.host.descs d = some { x with outcome := some (stTableFull, 0, 0, 0) })) ∧
    (∀ offerer e, entryOf s offerer = some e →
      (s.tick < e.tick + setting s 0x5000 6 → exec (.acceptWaitExpiry offerer) s = .next s) ∧
      (∀ d part, e.tick + setting s 0x5000 6 ≤ s.tick → e.slot = none → e.offer = none → e.accept = some (d, part) →
        e.forced = none → Completes (.acceptWaitExpiry offerer) s [.fabric, .host] fun t =>
          entryOf t offerer = none ∧ (∀ k, k ≠ offerer → entryOf t k = entryOf s k) ∧
          (∀ x, tget s.host.descs d = some x → x.outcome = none →
            tget t.host.descs d = some { x with outcome := some (stTimeout, 0, 0, 0) })))

/-- Regions and the tally (R158 to R160, R167, R172 to R174): a creation takes the lowest free slot and sends a claim, and
out-of-range fields are refused; a release frees the slot; an UNAVAILABLE region is probed every TRAY_RETRY; a queued
migration switches in; a scrub waits for its interval; TALLY_FLUSH writes dirty nodes back; the interleave is stored. -/
def Obligations.RegionsAndTally : Prop :=
  ∀ s : State,
    (∀ (r : OdReq) (v : BitVec 128), Accepts r 0x3101 1 (le 16 v.toNat) s →
      (fld v.toNat 8 8 < 14 ∨ 46 < fld v.toNat 8 8 → WriteRefused (.regionCreate r v) s r 0x3101 1 abRange) ∧
      (∀ pp slot k p, tbit v.toNat 16 = false → tbit v.toNat 17 = false → fld v.toNat 48 16 = 0 →
        fld v.toNat 6 2 = 0 → fld v.toNat 19 5 = 0 → fld v.toNat 24 8 = 0 → fld v.toNat 76 4 = 0 → fld v.toNat 80 16 = 0 →
        fld v.toNat 96 32 = 0 → 14 ≤ fld v.toNat 8 8 → fld v.toNat 8 8 ≤ 46 → fld v.toNat 0 6 < partitionsOf s.cfg →
        ownOrReserved s (fld v.toNat 32 16) = false → s.recovery.quarantined = false →
        partPin s (fld v.toNat 0 6) = some pp → rootRoom s (fld v.toNat 0 6) = true → heldRoom s (fld v.toNat 0 6) = true →
        lowestFree s.tally.regions 2048 0 = some slot → freeKidx s (fld v.toNat 0 6) false = some k →
        (keyDraw 36 true s).isSome = true → (freePin s).isSome = true → (pinAt s (pinIdx pp)).childSerial < 0xFFFFFFFF → fabBar s (fld v.toNat 32 16) = stDone →
        s.fabric.out = [] → pickPort s (fld v.toNat 32 16) 0 false = some p → NoRekey p s →
        ∃ t, exec (.regionCreate r v) s = .next t ∧ Answers r 2 0x3101 1 0 [] s t ∧
          OnlyChanges ([.keys, .log, .tally, .fabric] ++ answerFields) s t ∧
          (∃ x, regionAt t slot = some x ∧ x.state = 1 ∧ x.sizeLog2 = fld v.toNat 8 8 ∧ x.partition = fld v.toNat 0 6 ∧
            x.kidx = k ∧ x.primaryEp = fld v.toNat 32 16 ∧ x.trayRegion = fld v.toNat 64 12 ∧ x.mirror = false ∧
            x.checked = tbit v.toNat 18 ∧ x.roots = List.replicate 8 0) ∧
          (∀ j, j ≠ slot → regionAt t j = regionAt s j) ∧
          (∃ q, tget t.fabric.out 0 = some q ∧ q.msg = 9 ∧ q.dst = fld v.toNat 32 16 ∧ q.purpose = .claim slot))) ∧
    (∀ (r : OdReq) (v : BitVec 16), Accepts r 0x3101 3 (le 2 v.toNat) s → Settled s → s.ports.inReqs = [] →
      s.fabric.out = [] → s.ports.merge = [] →
      (regionAt s v.toNat = none → v.toNat < 2048 →
        WriteRefused (.regionRelease r v) s r 0x3101 3 abState) ∧
      (∀ x, regionAt s v.toNat = some x → x.state = 2 → ∃ t, exec (.regionRelease r v) s = .next t ∧
        Answers r 2 0x3101 3 0 [] s t ∧ regionAt t v.toNat = none)) ∧
    (∀ slot r, regionAt s slot = some r →
      (r.state ≠ 4 ∨ s.tick < r.lastProbe + setting s 0x3000 5 → exec (.trayRetryProbe slot) s = .next s) ∧
      (∀ i p, r.state = 4 → r.lastProbe + setting s 0x3000 5 ≤ s.tick → s.fabric.tokens = [] → probeNode r = some i →
        fabBar s r.primaryEp = stDone → s.fabric.out = [] → pickPort s r.primaryEp 0 r.ordered = some p → NoRekey p s →
        Completes (.trayRetryProbe slot) s [.tally, .fabric, .log, .links, .od, .out] fun t =>
          (∃ q, tget t.fabric.out 0 = some q ∧ q.msg = 3 ∧ q.dst = r.primaryEp ∧ q.purpose = .probe slot) ∧
          regionAt t slot = some { r with lastProbe := s.tick })) ∧
    (∀ slot leaf, (migQueued s slot leaf = false → exec (.spanSwitchIn slot leaf) s = .next s) ∧
      (∀ r n, migQueued s slot leaf = true → regionAt s slot = some r → r.state = 2 → pathResident s slot leaf = true →
        nodeAt s slot 0 leaf = some n → n.state = 1 → majorOf n + 1 ≤ 2 ^ 64 - 2 ^ 16 → n.shadow = none →
        n.counters = majorOf n :: List.replicate 32 0 → 0 < setting s 0x3000 1 → Calm s →
        ∃ t, exec (.spanSwitchIn slot leaf) s = .next t ∧ OnlyChanges [.tally, .od] s t ∧
          t.tally.migrations = s.tally.migrations.erase (slot, leaf) ∧
          (nodeAt t slot 0 leaf).map (fun x => (majorOf x, x.state, x.shadow)) = some (majorOf n + 1, 2, none) ∧
          (regionAt t slot).map (·.spanRekeys) = some (r.spanRekeys + 1) ∧
          setting t 0xB033 0xC = setting s 0xB033 0xC + 1)) ∧
    (setting s 0x3000 4 = 0 ∨ s.tick < s.tally.lastScrub + setting s 0x3000 4 → exec .scrubTick s = .next s) ∧
    (setting s 0x3000 4 ≠ 0 → s.tally.lastScrub + setting s 0x3000 4 ≤ s.tick → (∀ e ∈ s.tally.regions, e.2.state ≠ 2) →
      Completes .scrubTick s [.tally] fun t =>
        t.tally.lastScrub = s.tick ∧ t.tally.regions = s.tally.regions ∧ t.tally.nodes = s.tally.nodes) ∧
    (∀ (r : OdReq) (v : BitVec 8), Accepts r 0x3000 8 (le 1 v.toNat) s →
      (v = 0 ∨ (v = 1 ∧ ∀ n ∈ s.tally.nodes, n.state ≠ 2) → Writes (.tallyFlush r v) s r 0x3000 8 [] [] fun t =>
        t.tally = s.tally)) ∧
    (∀ (r : OdReq) (v : BitVec 8), Accepts r 0x3000 6 (le 1 v.toNat) s →
      (powerGood s = false → WriteRefused (.memInterleaveWrite r v) s r 0x3000 6 abState) ∧
      (powerGood s = true → (writeRecord recInterleave (le 1 v.toNat) s).isSome = true → ∃ t,
        exec (.memInterleaveWrite r v) s = .next t ∧ Answers r 2 0x3000 6 0 [] s t ∧ setting t 0x3000 6 = v.toNat ∧
        t.ports.interleave = s.ports.interleave ∧ thas t.flash.user recInterleave = true))

/-! ### Plaits (R243 to R277) -/

/-- Plaits (R245 to R247, R265 to R267, R270, R273, R274): a creation with a field out of range is refused, a good one takes
its scratch regions; a PLAIT descriptor starts, waits or is DENIED; a message without a record and one of an ended step are
counted, one with another JOIN ends the step; contributions, results, credits and GO go on along the tree; PL_ABORT and the
timeout end the step, whose descriptor completes with ABORTED. -/
def Obligations.Plaits : Prop :=
  (∀ s : State,
     (∀ (r : OdReq) (v : Bytes), Accepts r 0x6011 1 v s →
       (plaitRange s v = true → WriteRefused (.plaitCreate r v) s r 0x6011 1 abRange) ∧
       (plaitRange s v = false → s.recovery.quarantined = false → thas s.plaits (plRec v).id = true →
         WriteRefused (.plaitCreate r v) s r 0x6011 1 abState) ∧
       (∀ slots, plaitRange s v = false → s.recovery.quarantined = false → thas s.plaits (plRec v).id = false →
         ((plRec v).leaf = true → ∃ p, tget s.parts (plRec v).part = some p ∧ p.state = 1) → s.plaits.length < 1024 →
         reserveSlots s (plRec v) = some slots → Writes (.plaitCreate r v) s r 0x6011 1 [.plaits, .tension] [] fun t =>
           tget t.plaits (plRec v).id = some { bytes := v, run := none, last := none, leafStep := none, slots := slots } ∧
           (∀ j, j ≠ (plRec v).id → tget t.plaits j = tget s.plaits j) ∧
           (∀ k ∈ slots.flatten, (tget t.tension.scratch k).map (·.plait) = some (some (plRec v).id)) ∧
           (∀ k, k ∉ slots.flatten → tget t.tension.scratch k = tget s.tension.scratch k))) ∧
     (∀ (r : OdReq) (v : BitVec 16), Accepts r 0x6011 2 (le 2 v.toNat) s →
       (thas s.plaits v.toNat = false → WriteRefused (.plaitDelete r v) s r 0x6011 2 abState) ∧
       (∀ p, tget s.plaits v.toNat = some p → p.run = none → Writes (.plaitDelete r v) s r 0x6011 2 [.plaits, .tension] []
         fun t => thas t.plaits v.toNat = false ∧ (∀ j, j ≠ v.toNat → tget t.plaits j = tget s.plaits j) ∧
           t.tension.scratch = s.tension.scratch.filter (fun e => e.2.plait != some v.toNat))) ∧
     (∀ d x, descFor s d 2 = some x → thas s.host.xfers d = false →
       (plaitAt s (num x.bytes 44 2) = none → Completes (.plait d) s [.host] fun t =>
         tget t.host.descs d = some { x with outcome := some (stDenied, 0, 0, 0) }) ∧
       (∀ p, plaitAt s (num x.bytes 44 2) = some p → (plRec p.bytes).leaf = true → (plRec p.bytes).part = descPart s x →
         (∀ h ∈ objHandles x, (objAt s (hIdx h)).kind = 1) → p.leafStep ≠ some (num x.bytes 32 4) →
         (∀ y, p.run = some y → y.step < num x.bytes 32 4 → exec (.plait d) s = .next s) ∧
         (∀ l, p.run = none → p.last = some l → l = num x.bytes 32 4 → Completes (.plait d) s [.host] fun t =>
           tget t.host.descs d = some { x with outcome := some (stAborted, 0, 0, 0) }) ∧
         (p.run = none → p.last = none → (plRec p.bytes).op ≤ 2 → 0 < chunkCount (plRec p.bytes) →
           0 < memBytes (plRec p.bytes).src (chunkN (plRec p.bytes) 0) →
           Completes (.plait d) s [.keys, .log, .tension, .ports, .tally, .fabric, .links, .plaits, .host, .od, .out, .free]
             fun t => ∃ y, runOf t (num x.bytes 44 2) = some y ∧ y.step = num x.bytes 32 4 ∧ y.join = num x.bytes 36 8 ∧
               y.startTick = s.tick ∧ y.limit = plTimeout s (plRec p.bytes) ∧ y.desc = some d ∧
               thas t.host.xfers d = true)))) ∧
  (∀ (m : PMsg) (s : State),
     (∀ c ∈ plRows m,
       (running s = false ∨ (m.dstEp ≠ ownEndpoint s ∧ profile s ≠ 1) → exec c.2 s = .next s) ∧
       (running s = true → m.dstEp = ownEndpoint s → (phdrOf m.hdr).pmsg = c.1 → s.recovery.quarantined = false →
         (plaitAt s (phdrOf m.hdr).id = none → Completes c.2 s [.od] fun t =>
           setting t 0xB060 9 = setting s 0xB060 9 + 1 ∧ OdKept [obj 0xB060 9] s t) ∧
         (∀ p x, plaitAt s (phdrOf m.hdr).id = some p → p.run = some x → plDirection (plRec p.bytes) m = true →
           ((phdrOf m.hdr).step < x.step → Completes c.2 s [.od] fun t =>
             setting t 0xB060 8 = setting s 0xB060 8 + 1 ∧ OdKept [obj 0xB060 8] s t) ∧
           ((phdrOf m.hdr).step = x.step → (phdrOf m.hdr).join ≠ x.join →
             Completes c.2 s (.plaits :: .host :: sendFields) fun t =>
               runOf t (phdrOf m.hdr).id = none ∧ (plaitAt t (phdrOf m.hdr).id).map (·.last) = some (some x.step) ∧
               setting t 0xB060 7 = setting s 0xB060 7 + 1 ∧ setting t 0xB060 3 = setting s 0xB060 3 + 1)))) ∧
     (∀ p x, PlArrives m 0x21 p x s → (plRec p.bytes).op ≤ 2 → (plRec p.bytes).leaf = false → x.slots = [] → x.seen = [] →
       x.down = [] → ((plRec p.bytes).children.any fun c => c.1 != m.srcEp) = true →
       Completes (.plUp m) s [.plaits] fun t =>
         ∃ y z, runOf t (phdrOf m.hdr).id = some y ∧ y.slots = [z] ∧ z.chunk = (phdrOf m.hdr).chunk ∧ z.from_ = [m.srcEp] ∧
           z.contrib = (phdrOf m.hdr).contrib ∧ z.sat = (phdrOf m.hdr).sat ∧ y.down = []) ∧
     (∀ p x c k, (plRec p.bytes).op ≤ 2 → (plRec p.bytes).leaf = false → (plRec p.bytes).children = [c] →
       pickPort s c.1 0 true = some k → 1 + downDone x < downTotal (plRec p.bytes) →
       (PlArrives m 0x22 p x s → downTwice s (phdrOf m.hdr) = false →
         Completes (.plDown m) s (.plaits :: sendFields) fun t =>
           Tells (.plait k { srcEp := ownEndpoint s, dstEp := c.1, hdr := phdrWord (phdrOf m.hdr), data := m.data }) s t ∧
           ∃ y, runOf t (phdrOf m.hdr).id = some y ∧ y.down = x.down ++ [((phdrOf m.hdr).rank, (phdrOf m.hdr).chunk, 2)]) ∧
       (PlArrives m 0x23 p x s → downTwice s (phdrOf m.hdr) = false →
         Completes (.plCredit m) s (.plaits :: sendFields) fun t =>
           Tells (.plait k { srcEp := ownEndpoint s, dstEp := c.1, hdr := phdrWord (phdrOf m.hdr), data := [] }) s t ∧
           ∃ y, runOf t (phdrOf m.hdr).id = some y ∧ y.down = x.down ++ [((phdrOf m.hdr).rank, (phdrOf m.hdr).chunk, 2)])) ∧
     (∀ p x, PlArrives m 0x24 p x s → x.ready = [] → x.go = false → downDone x < downTotal (plRec p.bytes) →
       ((plRec p.bytes).children.any fun c => c.1 != m.srcEp) = true → Completes (.plReady m) s [.plaits] fun t =>
         ∃ y, runOf t (phdrOf m.hdr).id = some y ∧ y.ready = [m.srcEp] ∧
           y.leavesReady = x.leavesReady + (phdrOf m.hdr).contrib ∧ y.go = false) ∧
     (∀ p x c k, PlArrives m 0x25 p x s → (plRec p.bytes).leaf = false → (plRec p.bytes).children = [c] →
       pickPort s c.1 0 true = some k → downDone x < downTotal (plRec p.bytes) →
       Completes (.plGo m) s (.plaits :: sendFields) fun t =>
         Tells (.plait k { srcEp := ownEndpoint s, dstEp := c.1, hdr := phdrWord (phdrOf m.hdr), data := [] }) s t ∧
         ∃ y, runOf t (phdrOf m.hdr).id = some y ∧ y.go = true ∧ y.down = x.down) ∧
     (∀ p x, PlArrives m 0x26 p x s → Completes (.plAbort m) s (.plaits :: .host :: sendFields) fun t =>
       runOf t (phdrOf m.hdr).id = none ∧ (plaitAt t (phdrOf m.hdr).id).map (·.last) = some (some x.step) ∧
       (∀ d y, x.desc = some d → tget s.host.descs d = some y → y.outcome = none →
         tget t.host.descs d = some { y with outcome := some (stAborted, 0, 0, 0) })) ∧
     (∀ id x, runOf s id = some x →
       (s.tick < x.startTick + x.limit → exec (.plaitStepTimeout id) s = .next s) ∧
       (x.startTick + x.limit ≤ s.tick → Completes (.plaitStepTimeout id) s (.plaits :: .host :: sendFields) fun t =>
         runOf t id = none ∧ setting t 0xB060 5 = setting s 0xB060 5 + 1 ∧
         (∀ d y, x.desc = some d → tget s.host.descs d = some y → y.outcome = none →
           tget t.host.descs d = some { y with outcome := some (stAborted, 0, 0, 0) }))))
end

