-- ==== Sys2Proof/Laws/Changes.lean ====
section
/-! SUPPORT. Laws of the words in which statements speak of a change: composing, weakening and reading them. -/

namespace Sys2Proof

open Machine

theorem Field.same_refl (s : State) (f : Field) : f.same s s := by cases f <;> rfl

theorem Field.same_trans {s t u : State} (f : Field) (h : f.same s t) (k : f.same t u) : f.same s u := by
  cases f <;> exact Eq.trans k h

@[simp] theorem OnlyChanges.refl (fs : List Field) (s : State) : OnlyChanges fs s s := fun f _ => f.same_refl s

theorem OnlyChanges.trans {fs : List Field} {s t u : State} (h : OnlyChanges fs s t) (k : OnlyChanges fs t u) :
    OnlyChanges fs s u := fun f hf => f.same_trans (h f hf) (k f hf)

theorem OnlyChanges.mono {fs gs : List Field} {s t : State} (h : OnlyChanges fs s t) (sub : ∀ f ∈ fs, f ∈ gs) :
    OnlyChanges gs s t := fun f hf => h f fun hm => hf (sub f hm)

/-- Two changes one after the other. -/
theorem OnlyChanges.append {fs gs : List Field} {s t u : State} (h : OnlyChanges fs s t) (k : OnlyChanges gs t u) :
    OnlyChanges (fs ++ gs) s u :=
  (h.mono fun _ m => List.mem_append_left _ m).trans (k.mono fun _ m => List.mem_append_right _ m)

/-- A field that is not listed keeps its value. -/
theorem OnlyChanges.keeps {fs gs : List Field} {s t : State} (h : OnlyChanges fs s t) (dis : ∀ f ∈ gs, f ∉ fs) :
    Keeps gs s t := fun f hf => h f (dis f hf)

/-- `each` changes what its members change. -/
theorem OnlyChanges.each {α : Type} {fs : List Field} (f : α → State → State)
    (h : ∀ x s, OnlyChanges fs s (f x s)) : ∀ (xs : List α) (s : State), OnlyChanges fs s (Machine.each xs f s)
  | [], s => OnlyChanges.refl fs s
  | x :: xs, s => (h x s).trans (OnlyChanges.each f h xs (f x s))

@[simp] theorem OdKept.refl (ks : List Nat) (s : State) : OdKept ks s s := fun _ _ => rfl

theorem OdKept.trans {ks : List Nat} {s t u : State} (h : OdKept ks s t) (k : OdKept ks t u) : OdKept ks s u :=
  fun i hi => (k i hi).trans (h i hi)

theorem OdKept.mono {ks js : List Nat} {s t : State} (h : OdKept ks s t) (sub : ∀ k ∈ ks, k ∈ js) : OdKept js s t :=
  fun k hk => h k fun hm => hk (sub k hm)

/-- A step that leaves `od` alone keeps every object. -/
theorem OdKept.of_od {ks : List Nat} {s t : State} (h : t.od = s.od) : OdKept ks s t := fun k _ => by rw [h]

/-- An object that is not listed reads as before. -/
theorem OdKept.setting {ks : List Nat} {s t : State} (h : OdKept ks s t) (i j : Nat) (hk : obj i j ∉ ks) :
    setting t i j = setting s i j := by
  simp only [Machine.setting, tgetD, h _ hk]

/-- What one step has said stays said. -/
theorem Tells.later {x : Out} {s t u : State} (h : Tells x s t) (post : List Out) (k : u.out = post ++ t.out) :
    Tells x s u := by
  obtain ⟨a, b, hab⟩ := h
  exact ⟨post ++ a, b, by rw [k, hab]; simp⟩

/-- What is said after more was said. -/
theorem Tells.earlier {x : Out} {s t u : State} (h : Tells x t u) (pre : List Out) (k : t.out = pre ++ s.out) :
    Tells x s u := by
  obtain ⟨a, b, hab⟩ := h
  exact ⟨a, b ++ pre, by rw [hab, k]; simp⟩

@[simp] theorem tells_emit (x : Out) (s : State) : Tells x s (emit x s) := ⟨[], [], rfl⟩

/-- Outputs are only ever added. -/
def OutGrows (s t : State) : Prop := ∃ more, t.out = more ++ s.out

theorem OutGrows.refl (s : State) : OutGrows s s := ⟨[], rfl⟩

theorem OutGrows.trans {s t u : State} (h : OutGrows s t) (k : OutGrows t u) : OutGrows s u := by
  obtain ⟨a, ha⟩ := h
  obtain ⟨b, hb⟩ := k
  exact ⟨b ++ a, by rw [hb, ha]; simp⟩

theorem OutGrows.of_out {s t : State} (h : t.out = s.out) : OutGrows s t := ⟨[], by simp [h]⟩

theorem OutGrows.each {α : Type} (f : α → State → State) (h : ∀ x s, OutGrows s (f x s)) :
    ∀ (xs : List α) (s : State), OutGrows s (Machine.each xs f s)
  | [], s => OutGrows.refl s
  | x :: xs, s => (h x s).trans (OutGrows.each f h xs (f x s))

end Sys2Proof
end

