-- ==== Sys2Proof/Laws/Memory.lean ====
section
/-! SUPPORT. Laws of the tray's byte memory: a read after a write, and that every operation keeps the canonical form. -/

namespace Sys2Proof.Machine

/-- A list whose cells lie above a bound lists nothing below it. -/
theorem Memory.read_below : ∀ (m : List Host.Cell) (lo a : Nat), Memory.wfFrom lo m = true → a < lo →
    Memory.read m a = unlisted
  | [], _, _, _, _ => rfl
  | c :: cs, lo, a, h, ha => by
    simp only [Memory.wfFrom, Bool.and_eq_true, decide_eq_true_eq] at h
    simp only [Memory.read]
    rw [if_neg (by omega)]
    exact Memory.read_below cs _ a h.2 (by omega)

theorem Memory.wfFrom_mono : ∀ (m : List Host.Cell) (lo hi : Nat), lo ≤ hi → Memory.wfFrom hi m = true →
    Memory.wfFrom lo m = true
  | [], _, _, _, _ => rfl
  | c :: cs, lo, hi, hle, h => by
    simp only [Memory.wfFrom, Bool.and_eq_true, decide_eq_true_eq] at h ⊢
    exact ⟨⟨by omega, h.1.2⟩, h.2⟩

/-- The written byte is read, and every other byte is as before. -/
theorem Memory.read_write : ∀ (m : List Host.Cell) (lo a : Nat) (b : Byte) (j : Nat), Memory.wfFrom lo m = true →
    Memory.read (Memory.write m a b) j = if j = a then b else Memory.read m j
  | [], _, a, b, j, _ => by
    simp only [Memory.write]
    by_cases hb : b = unlisted
    · simp [hb, Memory.read]
    · by_cases hj : j = a
      · simp [hb, Memory.read, hj]
      · simp [hb, Memory.read, hj, Ne.symm hj]
  | c :: cs, lo, a, b, j, h => by
    simp only [Memory.wfFrom, Bool.and_eq_true, decide_eq_true_eq] at h
    have below := Memory.read_below cs (c.1 + 1)
    simp only [Memory.write]
    by_cases h1 : a < c.1
    · rw [if_pos h1]
      by_cases hb : b = unlisted
      · rw [if_pos hb]
        by_cases hj : j = a
        · subst hj
          have : Memory.read (c :: cs) j = unlisted := by
            simp only [Memory.read]; rw [if_neg (by omega)]; exact below j h.2 (by omega)
          simp [hb, this]
        · simp [hj]
      · rw [if_neg hb]
        by_cases hj : j = a
        · simp [Memory.read, hj]
        · simp [Memory.read, hj, Ne.symm hj]
    · rw [if_neg h1]
      by_cases h2 : a = c.1
      · rw [if_pos h2]
        by_cases hb : b = unlisted
        · rw [if_pos hb]
          by_cases hj : j = a
          · subst hj; simp [hb, below j h.2 (by omega)]
          · have : c.1 ≠ j := by omega
            simp [Memory.read, hj, this]
        · rw [if_neg hb]
          by_cases hj : j = a
          · simp [Memory.read, hj]
          · have : c.1 ≠ j := by omega
            simp [Memory.read, hj, Ne.symm hj, this]
      · rw [if_neg h2]
        simp only [Memory.read]
        by_cases hc : c.1 = j
        · have : j ≠ a := by omega
          simp [hc, this]
        · simp [hc, Memory.read_write cs _ a b j h.2]

/-- A write keeps the canonical form. -/
theorem Memory.write_wfFrom : ∀ (m : List Host.Cell) (lo a : Nat) (b : Byte), lo ≤ a → Memory.wfFrom lo m = true →
    Memory.wfFrom lo (Memory.write m a b) = true
  | [], lo, a, b, ha, _ => by
    simp only [Memory.write]
    by_cases hb : b = unlisted
    · simp [hb, Memory.wfFrom]
    · simp [hb, Memory.wfFrom, ha]
  | c :: cs, lo, a, b, ha, h => by
    have h' := h
    simp only [Memory.wfFrom, Bool.and_eq_true, decide_eq_true_eq] at h
    simp only [Memory.write]
    by_cases h1 : a < c.1
    · rw [if_pos h1]
      by_cases hb : b = unlisted
      · rw [if_pos hb]; exact h'
      · rw [if_neg hb]
        simp only [Memory.wfFrom, Bool.and_eq_true, decide_eq_true_eq]
        exact ⟨⟨ha, by simpa using hb⟩, ⟨by omega, h.1.2⟩, h.2⟩
    · rw [if_neg h1]
      by_cases h2 : a = c.1
      · rw [if_pos h2]
        by_cases hb : b = unlisted
        · rw [if_pos hb]; exact Memory.wfFrom_mono cs lo (c.1 + 1) (by omega) h.2
        · rw [if_neg hb]
          simp only [Memory.wfFrom, Bool.and_eq_true, decide_eq_true_eq]
          exact ⟨⟨ha, by simpa using hb⟩, by rw [h2]; exact h.2⟩
      · rw [if_neg h2]
        simp only [Memory.wfFrom, Bool.and_eq_true, decide_eq_true_eq]
        exact ⟨h.1, Memory.write_wfFrom cs _ a b (by omega) h.2⟩

theorem Memory.write_wf (m : List Host.Cell) (a : Nat) (b : Byte) (h : Memory.wf m = true) :
    Memory.wf (Memory.write m a b) = true := Memory.write_wfFrom m 0 a b (Nat.zero_le _) h

theorem Memory.writeN_wf : ∀ (bs : Bytes) (m : List Host.Cell) (a : Nat), Memory.wf m = true →
    Memory.wf (Memory.writeN m a bs) = true
  | [], _, _, h => by simpa [Memory.writeN] using h
  | b :: bs, m, a, h => by simpa [Memory.writeN] using Memory.writeN_wf bs _ (a + 1) (Memory.write_wf m a b h)

/-- A write of bytes leaves every address outside them as it was. -/
theorem Memory.read_writeN_ne : ∀ (bs : Bytes) (m : List Host.Cell) (a j : Nat), Memory.wf m = true →
    (j < a ∨ a + bs.length ≤ j) → Memory.read (Memory.writeN m a bs) j = Memory.read m j
  | [], _, _, _, _, _ => by simp [Memory.writeN]
  | b :: bs, m, a, j, h, hj => by
    simp only [Memory.writeN]
    simp only [List.length_cons] at hj
    rw [Memory.read_writeN_ne bs _ (a + 1) j (Memory.write_wf m a b h) (by omega),
      Memory.read_write m 0 a b j h, if_neg (by omega)]

/-- A read of the bytes written. -/
theorem Memory.read_writeN : ∀ (bs : Bytes) (m : List Host.Cell) (a k : Nat) (hk : k < bs.length), Memory.wf m = true →
    Memory.read (Memory.writeN m a bs) (a + k) = bs[k]
  | b :: bs, m, a, 0, _, h => by
    simp only [Memory.writeN, Nat.add_zero, List.getElem_cons_zero]
    rw [Memory.read_writeN_ne bs _ (a + 1) a (Memory.write_wf m a b h) (by omega), Memory.read_write m 0 a b a h,
      if_pos rfl]
  | b :: bs, m, a, k + 1, hk, h => by
    simp only [Memory.writeN, List.getElem_cons_succ]
    have := Memory.read_writeN bs (Memory.write m a b) (a + 1) k (by simpa using hk) (Memory.write_wf m a b h)
    rw [← this]; congr 1; omega

end Sys2Proof.Machine
end

