-- ==== Sys2Proof/Laws/Tables.lean ====
section
/-! SUPPORT. Laws of the helpers: sparse tables, byte strings, bit fields. -/

namespace Sys2Proof.Machine

/-! ### Sparse tables -/

section
variable {α : Type}

@[simp] theorem tget_nil (k : Nat) : tget ([] : Tbl α) k = none := rfl

@[simp] theorem tget_tput_self (t : Tbl α) (k : Nat) (x : α) : tget (tput t k x) k = some x := by
  induction t with
  | nil => simp [tput, tget]
  | cons e rest ih =>
    obtain ⟨j, y⟩ := e
    simp only [tput]
    split
    · simp [tget]
    · split
      · simp [tget]
      · rename_i h; simp [tget, Ne.symm h, ih]

theorem tget_tput_ne (t : Tbl α) {k j : Nat} (x : α) (h : j ≠ k) : tget (tput t k x) j = tget t j := by
  induction t with
  | nil => simp [tput, tget, Ne.symm h]
  | cons e rest ih =>
    obtain ⟨i, y⟩ := e
    simp only [tput]
    split
    · simp [tget, Ne.symm h]
    · split
      · rename_i e; subst e; simp [tget, Ne.symm h]
      · simp [tget, ih]

@[simp] theorem tget_tdel_self (t : Tbl α) (k : Nat) : tget (tdel t k) k = none := by
  induction t with
  | nil => rfl
  | cons e rest ih =>
    obtain ⟨j, y⟩ := e
    by_cases h : j = k
    · subst h; simpa [tdel] using ih
    · have hb : (j != k) = true := by simpa using h
      simp only [tdel] at ih
      simp [tdel, List.filter, hb, tget, h, ih]

theorem tget_tdel_ne (t : Tbl α) {k j : Nat} (h : j ≠ k) : tget (tdel t k) j = tget t j := by
  induction t with
  | nil => rfl
  | cons e rest ih =>
    obtain ⟨i, y⟩ := e
    by_cases e : i = k
    · subst e; simpa [tdel, List.filter, tget, Ne.symm h] using ih
    · have hb : (i != k) = true := by simpa using e
      simp only [tdel] at ih
      simp [tdel, List.filter, hb, tget, ih]

theorem tget_tmod (t : Tbl α) (k j : Nat) (f : α → α) :
    tget (tmod t k f) j = if j = k then (tget t j).map f else tget t j := by
  induction t with
  | nil => simp [tmod]
  | cons e rest ih =>
    obtain ⟨i, y⟩ := e
    simp only [tmod, List.map_cons] at ih ⊢
    by_cases e : i = k
    · subst e
      by_cases h : j = i
      · simp [tget, h]
      · simp [tget, Ne.symm h, ih, h]
    · by_cases h : i = j
      · subst h; simp [tget, e]
      · simp [tget, e, h, ih]

@[simp] theorem tget_tmod_self (t : Tbl α) (k : Nat) (f : α → α) : tget (tmod t k f) k = (tget t k).map f := by
  simp [tget_tmod]

theorem tget_tmod_ne (t : Tbl α) {k j : Nat} (f : α → α) (h : j ≠ k) : tget (tmod t k f) j = tget t j := by
  simp [tget_tmod, h]

@[simp] theorem tgetD_tput_self (t : Tbl α) (k : Nat) (x d : α) : tgetD (tput t k x) k d = x := by simp [tgetD]

theorem tgetD_tput_ne (t : Tbl α) {k j : Nat} (x d : α) (h : j ≠ k) : tgetD (tput t k x) j d = tgetD t j d := by
  simp [tgetD, tget_tput_ne t x h]

@[simp] theorem thas_tput_self (t : Tbl α) (k : Nat) (x : α) : thas (tput t k x) k = true := by simp [thas]

@[simp] theorem thas_tdel_self (t : Tbl α) (k : Nat) : thas (tdel t k) k = false := by simp [thas]

/-- What `lowestFree` finds is not listed, in range, and the lowest. -/
theorem lowestFree_spec (t : Tbl α) : ∀ n k i, lowestFree t n k = some i →
    thas t i = false ∧ k ≤ i ∧ i < k + n ∧ ∀ j, k ≤ j → j < i → thas t j = true := by
  intro n
  induction n with
  | zero => intro k i h; simp [lowestFree] at h
  | succ n ih =>
    intro k i h
    simp only [lowestFree] at h
    split at h
    · rename_i hk
      obtain ⟨a, b, c, d⟩ := ih _ _ h
      refine ⟨a, by omega, by omega, fun j h1 h2 => ?_⟩
      by_cases e : j = k
      · exact e ▸ hk
      · exact d j (by omega) h2
    · rename_i hk
      simp only [Option.some.injEq] at h
      subst h
      exact ⟨by simpa using hk, by omega, by omega, fun j h1 h2 => by omega⟩

/-- What `lowestSuch` finds passes the test, in range, and is the lowest. -/
theorem lowestSuch_spec (p : Nat → Bool) : ∀ n k i, lowestSuch p n k = some i →
    p i = true ∧ k ≤ i ∧ i < k + n ∧ ∀ j, k ≤ j → j < i → p j = false := by
  intro n
  induction n with
  | zero => intro k i h; simp [lowestSuch] at h
  | succ n ih =>
    intro k i h
    simp only [lowestSuch] at h
    split at h
    · rename_i hk
      simp only [Option.some.injEq] at h
      subst h
      exact ⟨hk, by omega, by omega, fun j h1 h2 => by omega⟩
    · rename_i hk
      obtain ⟨a, b, c, d⟩ := ih _ _ h
      refine ⟨a, by omega, by omega, fun j h1 h2 => ?_⟩
      by_cases e : j = k
      · subst e; simpa using hk
      · exact d j (by omega) h2

end

/-- A property that each member keeps holds after `each`. -/
theorem each_induction {α β : Type} (P : β → Prop) (f : α → β → β) (h : ∀ x b, P b → P (f x b)) :
    ∀ (xs : List α) (b : β), P b → P (each xs f b) := by
  intro xs
  induction xs with
  | nil => intro b hb; exact hb
  | cons x xs ih => intro b hb; exact ih _ (h x b hb)

@[simp] theorem each_nil {α β : Type} (f : α → β → β) (b : β) : each [] f b = b := rfl

@[simp] theorem each_cons {α β : Type} (x : α) (xs : List α) (f : α → β → β) (b : β) :
    each (x :: xs) f b = each xs f (f x b) := rfl

/-! ### Bytes and bit fields -/

@[simp] theorem le_length : ∀ n v, (le n v).length = n
  | 0, _ => rfl
  | n + 1, v => by simp [le, le_length n]

@[simp] theorem be_length (n v : Nat) : (be n v).length = n := by simp [be]

@[simp] theorem slice_length (b : Bytes) (off n : Nat) : (slice b off n).length = n := by
  simp only [slice, List.length_append, List.length_replicate]
  have : ((b.drop off).take n).length ≤ n := by rw [List.length_take]; omega
  omega

@[simp] theorem zeroBytes_length (n : Nat) : (zeroBytes n).length = n := by simp [zeroBytes]

/-- A whole string is its own slice. -/
theorem slice_all (b : Bytes) (n : Nat) (h : b.length = n) : slice b 0 n = b := by
  subst h; simp [slice]

/-- Reading what was written. -/
@[simp] theorem ofLe_le : ∀ n v, ofLe (le n v) = v % 256 ^ n
  | 0, v => by simp [le, ofLe, Nat.mod_one]
  | n + 1, v => by
    simp only [le, ofLe, ofLe_le n, BitVec.toNat_ofNat]
    show v % 256 + 256 * (v / 256 % 256 ^ n) = _
    rw [Nat.pow_succ, Nat.mul_comm (256 ^ n) 256, Nat.mod_mul]

theorem ofLe_lt : ∀ b : Bytes, ofLe b < 256 ^ b.length
  | [] => by simp [ofLe]
  | b :: bs => by
    have h := ofLe_lt bs
    have := b.isLt
    simp only [ofLe, List.length_cons, Nat.pow_succ]
    omega

theorem fld_lt (w lo n : Nat) : fld w lo n < 2 ^ n := Nat.mod_lt _ (Nat.two_pow_pos n)

/-- The lowest field of a packed word, and what lies above it. -/
theorem fld_pack_zero (n v : Nat) (rest : List (Nat × Nat)) : fld (pack ((n, v) :: rest)) 0 n = v % 2 ^ n := by
  simp [fld, pack, Nat.add_mul_mod_self_left]

theorem fld_pack_add (n v lo w : Nat) (rest : List (Nat × Nat)) :
    fld (pack ((n, v) :: rest)) (n + lo) w = fld (pack rest) lo w := by
  have h : v % 2 ^ n < 2 ^ n := Nat.mod_lt _ (Nat.two_pow_pos n)
  simp only [fld, pack, Nat.pow_add]
  rw [← Nat.div_div_eq_div_mul, Nat.add_mul_div_left _ _ (Nat.two_pow_pos n), Nat.div_eq_of_lt h, Nat.zero_add]

@[simp] theorem tbit_bit (b : Bool) : tbit (bit b) 0 = b := by cases b <;> rfl

end Sys2Proof.Machine
end

