-- ==== Sys2Proof/Laws/State.lean ====
section
/-! SUPPORT. Laws of the state's updates: for each update, that every other field keeps its value, and what the changed one
becomes. -/

namespace Sys2Proof.Machine

variable (s : State)

/-! ### emit -/

@[simp] theorem emit_cfg (o : Out) : (emit o s).cfg = s.cfg := rfl
@[simp] theorem emit_pins (o : Out) : (emit o s).pins = s.pins := rfl
@[simp] theorem emit_seq (o : Out) : (emit o s).seq = s.seq := rfl
@[simp] theorem emit_always (o : Out) : (emit o s).always = s.always := rfl
@[simp] theorem emit_power (o : Out) : (emit o s).power = s.power := rfl
@[simp] theorem emit_tap (o : Out) : (emit o s).tap = s.tap := rfl
@[simp] theorem emit_fuses (o : Out) : (emit o s).fuses = s.fuses := rfl
@[simp] theorem emit_flash (o : Out) : (emit o s).flash = s.flash := rfl
@[simp] theorem emit_fw (o : Out) : (emit o s).fw = s.fw := rfl
@[simp] theorem emit_lc (o : Out) : (emit o s).lc = s.lc := rfl
@[simp] theorem emit_keys (o : Out) : (emit o s).keys = s.keys := rfl
@[simp] theorem emit_dict (o : Out) : (emit o s).dict = s.dict := rfl
@[simp] theorem emit_recovery (o : Out) : (emit o s).recovery = s.recovery := rfl
@[simp] theorem emit_log (o : Out) : (emit o s).log = s.log := rfl
@[simp] theorem emit_dumps (o : Out) : (emit o s).dumps = s.dumps := rfl
@[simp] theorem emit_tension (o : Out) : (emit o s).tension = s.tension := rfl
@[simp] theorem emit_parts (o : Out) : (emit o s).parts = s.parts := rfl
@[simp] theorem emit_sources (o : Out) : (emit o s).sources = s.sources := rfl
@[simp] theorem emit_domain (o : Out) : (emit o s).domain = s.domain := rfl
@[simp] theorem emit_gang (o : Out) : (emit o s).gang = s.gang := rfl
@[simp] theorem emit_shuttle (o : Out) : (emit o s).shuttle = s.shuttle := rfl
@[simp] theorem emit_purl (o : Out) : (emit o s).purl = s.purl := rfl
@[simp] theorem emit_ports (o : Out) : (emit o s).ports = s.ports := rfl
@[simp] theorem emit_tally (o : Out) : (emit o s).tally = s.tally := rfl
@[simp] theorem emit_fabric (o : Out) : (emit o s).fabric = s.fabric := rfl
@[simp] theorem emit_links (o : Out) : (emit o s).links = s.links := rfl
@[simp] theorem emit_plaits (o : Out) : (emit o s).plaits = s.plaits := rfl
@[simp] theorem emit_host (o : Out) : (emit o s).host = s.host := rfl
@[simp] theorem emit_patterns (o : Out) : (emit o s).patterns = s.patterns := rfl
@[simp] theorem emit_interval (o : Out) : (emit o s).interval = s.interval := rfl
@[simp] theorem emit_od (o : Out) : (emit o s).od = s.od := rfl
@[simp] theorem emit_tick (o : Out) : (emit o s).tick = s.tick := rfl
@[simp] theorem emit_pending (o : Out) : (emit o s).pending = s.pending := rfl
@[simp] theorem emit_free (o : Out) : (emit o s).free = s.free := rfl

/-! ### setOd -/

@[simp] theorem setOd_cfg (i j v : Nat) : (setOd i j v s).cfg = s.cfg := rfl
@[simp] theorem setOd_pins (i j v : Nat) : (setOd i j v s).pins = s.pins := rfl
@[simp] theorem setOd_seq (i j v : Nat) : (setOd i j v s).seq = s.seq := rfl
@[simp] theorem setOd_always (i j v : Nat) : (setOd i j v s).always = s.always := rfl
@[simp] theorem setOd_power (i j v : Nat) : (setOd i j v s).power = s.power := rfl
@[simp] theorem setOd_tap (i j v : Nat) : (setOd i j v s).tap = s.tap := rfl
@[simp] theorem setOd_fuses (i j v : Nat) : (setOd i j v s).fuses = s.fuses := rfl
@[simp] theorem setOd_flash (i j v : Nat) : (setOd i j v s).flash = s.flash := rfl
@[simp] theorem setOd_fw (i j v : Nat) : (setOd i j v s).fw = s.fw := rfl
@[simp] theorem setOd_lc (i j v : Nat) : (setOd i j v s).lc = s.lc := rfl
@[simp] theorem setOd_keys (i j v : Nat) : (setOd i j v s).keys = s.keys := rfl
@[simp] theorem setOd_dict (i j v : Nat) : (setOd i j v s).dict = s.dict := rfl
@[simp] theorem setOd_recovery (i j v : Nat) : (setOd i j v s).recovery = s.recovery := rfl
@[simp] theorem setOd_log (i j v : Nat) : (setOd i j v s).log = s.log := rfl
@[simp] theorem setOd_dumps (i j v : Nat) : (setOd i j v s).dumps = s.dumps := rfl
@[simp] theorem setOd_tension (i j v : Nat) : (setOd i j v s).tension = s.tension := rfl
@[simp] theorem setOd_parts (i j v : Nat) : (setOd i j v s).parts = s.parts := rfl
@[simp] theorem setOd_sources (i j v : Nat) : (setOd i j v s).sources = s.sources := rfl
@[simp] theorem setOd_domain (i j v : Nat) : (setOd i j v s).domain = s.domain := rfl
@[simp] theorem setOd_gang (i j v : Nat) : (setOd i j v s).gang = s.gang := rfl
@[simp] theorem setOd_shuttle (i j v : Nat) : (setOd i j v s).shuttle = s.shuttle := rfl
@[simp] theorem setOd_purl (i j v : Nat) : (setOd i j v s).purl = s.purl := rfl
@[simp] theorem setOd_ports (i j v : Nat) : (setOd i j v s).ports = s.ports := rfl
@[simp] theorem setOd_tally (i j v : Nat) : (setOd i j v s).tally = s.tally := rfl
@[simp] theorem setOd_fabric (i j v : Nat) : (setOd i j v s).fabric = s.fabric := rfl
@[simp] theorem setOd_links (i j v : Nat) : (setOd i j v s).links = s.links := rfl
@[simp] theorem setOd_plaits (i j v : Nat) : (setOd i j v s).plaits = s.plaits := rfl
@[simp] theorem setOd_host (i j v : Nat) : (setOd i j v s).host = s.host := rfl
@[simp] theorem setOd_patterns (i j v : Nat) : (setOd i j v s).patterns = s.patterns := rfl
@[simp] theorem setOd_interval (i j v : Nat) : (setOd i j v s).interval = s.interval := rfl
@[simp] theorem setOd_tick (i j v : Nat) : (setOd i j v s).tick = s.tick := rfl
@[simp] theorem setOd_out (i j v : Nat) : (setOd i j v s).out = s.out := rfl
@[simp] theorem setOd_pending (i j v : Nat) : (setOd i j v s).pending = s.pending := rfl
@[simp] theorem setOd_free (i j v : Nat) : (setOd i j v s).free = s.free := rfl

/-! ### countBy -/

@[simp] theorem countBy_cfg (i j n : Nat) : (countBy i j n s).cfg = s.cfg := rfl
@[simp] theorem countBy_pins (i j n : Nat) : (countBy i j n s).pins = s.pins := rfl
@[simp] theorem countBy_seq (i j n : Nat) : (countBy i j n s).seq = s.seq := rfl
@[simp] theorem countBy_always (i j n : Nat) : (countBy i j n s).always = s.always := rfl
@[simp] theorem countBy_power (i j n : Nat) : (countBy i j n s).power = s.power := rfl
@[simp] theorem countBy_tap (i j n : Nat) : (countBy i j n s).tap = s.tap := rfl
@[simp] theorem countBy_fuses (i j n : Nat) : (countBy i j n s).fuses = s.fuses := rfl
@[simp] theorem countBy_flash (i j n : Nat) : (countBy i j n s).flash = s.flash := rfl
@[simp] theorem countBy_fw (i j n : Nat) : (countBy i j n s).fw = s.fw := rfl
@[simp] theorem countBy_lc (i j n : Nat) : (countBy i j n s).lc = s.lc := rfl
@[simp] theorem countBy_keys (i j n : Nat) : (countBy i j n s).keys = s.keys := rfl
@[simp] theorem countBy_dict (i j n : Nat) : (countBy i j n s).dict = s.dict := rfl
@[simp] theorem countBy_recovery (i j n : Nat) : (countBy i j n s).recovery = s.recovery := rfl
@[simp] theorem countBy_log (i j n : Nat) : (countBy i j n s).log = s.log := rfl
@[simp] theorem countBy_dumps (i j n : Nat) : (countBy i j n s).dumps = s.dumps := rfl
@[simp] theorem countBy_tension (i j n : Nat) : (countBy i j n s).tension = s.tension := rfl
@[simp] theorem countBy_parts (i j n : Nat) : (countBy i j n s).parts = s.parts := rfl
@[simp] theorem countBy_sources (i j n : Nat) : (countBy i j n s).sources = s.sources := rfl
@[simp] theorem countBy_domain (i j n : Nat) : (countBy i j n s).domain = s.domain := rfl
@[simp] theorem countBy_gang (i j n : Nat) : (countBy i j n s).gang = s.gang := rfl
@[simp] theorem countBy_shuttle (i j n : Nat) : (countBy i j n s).shuttle = s.shuttle := rfl
@[simp] theorem countBy_purl (i j n : Nat) : (countBy i j n s).purl = s.purl := rfl
@[simp] theorem countBy_ports (i j n : Nat) : (countBy i j n s).ports = s.ports := rfl
@[simp] theorem countBy_tally (i j n : Nat) : (countBy i j n s).tally = s.tally := rfl
@[simp] theorem countBy_fabric (i j n : Nat) : (countBy i j n s).fabric = s.fabric := rfl
@[simp] theorem countBy_links (i j n : Nat) : (countBy i j n s).links = s.links := rfl
@[simp] theorem countBy_plaits (i j n : Nat) : (countBy i j n s).plaits = s.plaits := rfl
@[simp] theorem countBy_host (i j n : Nat) : (countBy i j n s).host = s.host := rfl
@[simp] theorem countBy_patterns (i j n : Nat) : (countBy i j n s).patterns = s.patterns := rfl
@[simp] theorem countBy_interval (i j n : Nat) : (countBy i j n s).interval = s.interval := rfl
@[simp] theorem countBy_tick (i j n : Nat) : (countBy i j n s).tick = s.tick := rfl
@[simp] theorem countBy_out (i j n : Nat) : (countBy i j n s).out = s.out := rfl
@[simp] theorem countBy_pending (i j n : Nat) : (countBy i j n s).pending = s.pending := rfl
@[simp] theorem countBy_free (i j n : Nat) : (countBy i j n s).free = s.free := rfl

/-! ### count -/

@[simp] theorem count_cfg (i j : Nat) : (count i j s).cfg = s.cfg := rfl
@[simp] theorem count_pins (i j : Nat) : (count i j s).pins = s.pins := rfl
@[simp] theorem count_seq (i j : Nat) : (count i j s).seq = s.seq := rfl
@[simp] theorem count_always (i j : Nat) : (count i j s).always = s.always := rfl
@[simp] theorem count_power (i j : Nat) : (count i j s).power = s.power := rfl
@[simp] theorem count_tap (i j : Nat) : (count i j s).tap = s.tap := rfl
@[simp] theorem count_fuses (i j : Nat) : (count i j s).fuses = s.fuses := rfl
@[simp] theorem count_flash (i j : Nat) : (count i j s).flash = s.flash := rfl
@[simp] theorem count_fw (i j : Nat) : (count i j s).fw = s.fw := rfl
@[simp] theorem count_lc (i j : Nat) : (count i j s).lc = s.lc := rfl
@[simp] theorem count_keys (i j : Nat) : (count i j s).keys = s.keys := rfl
@[simp] theorem count_dict (i j : Nat) : (count i j s).dict = s.dict := rfl
@[simp] theorem count_recovery (i j : Nat) : (count i j s).recovery = s.recovery := rfl
@[simp] theorem count_log (i j : Nat) : (count i j s).log = s.log := rfl
@[simp] theorem count_dumps (i j : Nat) : (count i j s).dumps = s.dumps := rfl
@[simp] theorem count_tension (i j : Nat) : (count i j s).tension = s.tension := rfl
@[simp] theorem count_parts (i j : Nat) : (count i j s).parts = s.parts := rfl
@[simp] theorem count_sources (i j : Nat) : (count i j s).sources = s.sources := rfl
@[simp] theorem count_domain (i j : Nat) : (count i j s).domain = s.domain := rfl
@[simp] theorem count_gang (i j : Nat) : (count i j s).gang = s.gang := rfl
@[simp] theorem count_shuttle (i j : Nat) : (count i j s).shuttle = s.shuttle := rfl
@[simp] theorem count_purl (i j : Nat) : (count i j s).purl = s.purl := rfl
@[simp] theorem count_ports (i j : Nat) : (count i j s).ports = s.ports := rfl
@[simp] theorem count_tally (i j : Nat) : (count i j s).tally = s.tally := rfl
@[simp] theorem count_fabric (i j : Nat) : (count i j s).fabric = s.fabric := rfl
@[simp] theorem count_links (i j : Nat) : (count i j s).links = s.links := rfl
@[simp] theorem count_plaits (i j : Nat) : (count i j s).plaits = s.plaits := rfl
@[simp] theorem count_host (i j : Nat) : (count i j s).host = s.host := rfl
@[simp] theorem count_patterns (i j : Nat) : (count i j s).patterns = s.patterns := rfl
@[simp] theorem count_interval (i j : Nat) : (count i j s).interval = s.interval := rfl
@[simp] theorem count_tick (i j : Nat) : (count i j s).tick = s.tick := rfl
@[simp] theorem count_out (i j : Nat) : (count i j s).out = s.out := rfl
@[simp] theorem count_pending (i j : Nat) : (count i j s).pending = s.pending := rfl
@[simp] theorem count_free (i j : Nat) : (count i j s).free = s.free := rfl

/-! ### setPerSession -/

@[simp] theorem setPerSession_cfg (k i j v : Nat) : (setPerSession k i j v s).cfg = s.cfg := rfl
@[simp] theorem setPerSession_pins (k i j v : Nat) : (setPerSession k i j v s).pins = s.pins := rfl
@[simp] theorem setPerSession_seq (k i j v : Nat) : (setPerSession k i j v s).seq = s.seq := rfl
@[simp] theorem setPerSession_always (k i j v : Nat) : (setPerSession k i j v s).always = s.always := rfl
@[simp] theorem setPerSession_power (k i j v : Nat) : (setPerSession k i j v s).power = s.power := rfl
@[simp] theorem setPerSession_tap (k i j v : Nat) : (setPerSession k i j v s).tap = s.tap := rfl
@[simp] theorem setPerSession_fuses (k i j v : Nat) : (setPerSession k i j v s).fuses = s.fuses := rfl
@[simp] theorem setPerSession_flash (k i j v : Nat) : (setPerSession k i j v s).flash = s.flash := rfl
@[simp] theorem setPerSession_fw (k i j v : Nat) : (setPerSession k i j v s).fw = s.fw := rfl
@[simp] theorem setPerSession_lc (k i j v : Nat) : (setPerSession k i j v s).lc = s.lc := rfl
@[simp] theorem setPerSession_keys (k i j v : Nat) : (setPerSession k i j v s).keys = s.keys := rfl
@[simp] theorem setPerSession_recovery (k i j v : Nat) : (setPerSession k i j v s).recovery = s.recovery := rfl
@[simp] theorem setPerSession_log (k i j v : Nat) : (setPerSession k i j v s).log = s.log := rfl
@[simp] theorem setPerSession_dumps (k i j v : Nat) : (setPerSession k i j v s).dumps = s.dumps := rfl
@[simp] theorem setPerSession_tension (k i j v : Nat) : (setPerSession k i j v s).tension = s.tension := rfl
@[simp] theorem setPerSession_parts (k i j v : Nat) : (setPerSession k i j v s).parts = s.parts := rfl
@[simp] theorem setPerSession_sources (k i j v : Nat) : (setPerSession k i j v s).sources = s.sources := rfl
@[simp] theorem setPerSession_domain (k i j v : Nat) : (setPerSession k i j v s).domain = s.domain := rfl
@[simp] theorem setPerSession_gang (k i j v : Nat) : (setPerSession k i j v s).gang = s.gang := rfl
@[simp] theorem setPerSession_shuttle (k i j v : Nat) : (setPerSession k i j v s).shuttle = s.shuttle := rfl
@[simp] theorem setPerSession_purl (k i j v : Nat) : (setPerSession k i j v s).purl = s.purl := rfl
@[simp] theorem setPerSession_ports (k i j v : Nat) : (setPerSession k i j v s).ports = s.ports := rfl
@[simp] theorem setPerSession_tally (k i j v : Nat) : (setPerSession k i j v s).tally = s.tally := rfl
@[simp] theorem setPerSession_fabric (k i j v : Nat) : (setPerSession k i j v s).fabric = s.fabric := rfl
@[simp] theorem setPerSession_links (k i j v : Nat) : (setPerSession k i j v s).links = s.links := rfl
@[simp] theorem setPerSession_plaits (k i j v : Nat) : (setPerSession k i j v s).plaits = s.plaits := rfl
@[simp] theorem setPerSession_host (k i j v : Nat) : (setPerSession k i j v s).host = s.host := rfl
@[simp] theorem setPerSession_patterns (k i j v : Nat) : (setPerSession k i j v s).patterns = s.patterns := rfl
@[simp] theorem setPerSession_interval (k i j v : Nat) : (setPerSession k i j v s).interval = s.interval := rfl
@[simp] theorem setPerSession_od (k i j v : Nat) : (setPerSession k i j v s).od = s.od := rfl
@[simp] theorem setPerSession_tick (k i j v : Nat) : (setPerSession k i j v s).tick = s.tick := rfl
@[simp] theorem setPerSession_out (k i j v : Nat) : (setPerSession k i j v s).out = s.out := rfl
@[simp] theorem setPerSession_pending (k i j v : Nat) : (setPerSession k i j v s).pending = s.pending := rfl
@[simp] theorem setPerSession_free (k i j v : Nat) : (setPerSession k i j v s).free = s.free := rfl

/-! ### dropSession -/

@[simp] theorem dropSession_cfg (k : Nat) : (dropSession k s).cfg = s.cfg := rfl
@[simp] theorem dropSession_pins (k : Nat) : (dropSession k s).pins = s.pins := rfl
@[simp] theorem dropSession_seq (k : Nat) : (dropSession k s).seq = s.seq := rfl
@[simp] theorem dropSession_always (k : Nat) : (dropSession k s).always = s.always := rfl
@[simp] theorem dropSession_power (k : Nat) : (dropSession k s).power = s.power := rfl
@[simp] theorem dropSession_tap (k : Nat) : (dropSession k s).tap = s.tap := rfl
@[simp] theorem dropSession_fuses (k : Nat) : (dropSession k s).fuses = s.fuses := rfl
@[simp] theorem dropSession_flash (k : Nat) : (dropSession k s).flash = s.flash := rfl
@[simp] theorem dropSession_fw (k : Nat) : (dropSession k s).fw = s.fw := rfl
@[simp] theorem dropSession_lc (k : Nat) : (dropSession k s).lc = s.lc := rfl
@[simp] theorem dropSession_keys (k : Nat) : (dropSession k s).keys = s.keys := rfl
@[simp] theorem dropSession_recovery (k : Nat) : (dropSession k s).recovery = s.recovery := rfl
@[simp] theorem dropSession_log (k : Nat) : (dropSession k s).log = s.log := rfl
@[simp] theorem dropSession_dumps (k : Nat) : (dropSession k s).dumps = s.dumps := rfl
@[simp] theorem dropSession_tension (k : Nat) : (dropSession k s).tension = s.tension := rfl
@[simp] theorem dropSession_parts (k : Nat) : (dropSession k s).parts = s.parts := rfl
@[simp] theorem dropSession_sources (k : Nat) : (dropSession k s).sources = s.sources := rfl
@[simp] theorem dropSession_domain (k : Nat) : (dropSession k s).domain = s.domain := rfl
@[simp] theorem dropSession_gang (k : Nat) : (dropSession k s).gang = s.gang := rfl
@[simp] theorem dropSession_shuttle (k : Nat) : (dropSession k s).shuttle = s.shuttle := rfl
@[simp] theorem dropSession_purl (k : Nat) : (dropSession k s).purl = s.purl := rfl
@[simp] theorem dropSession_ports (k : Nat) : (dropSession k s).ports = s.ports := rfl
@[simp] theorem dropSession_tally (k : Nat) : (dropSession k s).tally = s.tally := rfl
@[simp] theorem dropSession_fabric (k : Nat) : (dropSession k s).fabric = s.fabric := rfl
@[simp] theorem dropSession_links (k : Nat) : (dropSession k s).links = s.links := rfl
@[simp] theorem dropSession_plaits (k : Nat) : (dropSession k s).plaits = s.plaits := rfl
@[simp] theorem dropSession_host (k : Nat) : (dropSession k s).host = s.host := rfl
@[simp] theorem dropSession_patterns (k : Nat) : (dropSession k s).patterns = s.patterns := rfl
@[simp] theorem dropSession_interval (k : Nat) : (dropSession k s).interval = s.interval := rfl
@[simp] theorem dropSession_od (k : Nat) : (dropSession k s).od = s.od := rfl
@[simp] theorem dropSession_tick (k : Nat) : (dropSession k s).tick = s.tick := rfl
@[simp] theorem dropSession_out (k : Nat) : (dropSession k s).out = s.out := rfl
@[simp] theorem dropSession_pending (k : Nat) : (dropSession k s).pending = s.pending := rfl
@[simp] theorem dropSession_free (k : Nat) : (dropSession k s).free = s.free := rfl

/-! ### dropAsm -/

@[simp] theorem dropAsm_cfg (k j : Nat) : (dropAsm k j s).cfg = s.cfg := rfl
@[simp] theorem dropAsm_pins (k j : Nat) : (dropAsm k j s).pins = s.pins := rfl
@[simp] theorem dropAsm_seq (k j : Nat) : (dropAsm k j s).seq = s.seq := rfl
@[simp] theorem dropAsm_always (k j : Nat) : (dropAsm k j s).always = s.always := rfl
@[simp] theorem dropAsm_power (k j : Nat) : (dropAsm k j s).power = s.power := rfl
@[simp] theorem dropAsm_tap (k j : Nat) : (dropAsm k j s).tap = s.tap := rfl
@[simp] theorem dropAsm_fuses (k j : Nat) : (dropAsm k j s).fuses = s.fuses := rfl
@[simp] theorem dropAsm_flash (k j : Nat) : (dropAsm k j s).flash = s.flash := rfl
@[simp] theorem dropAsm_fw (k j : Nat) : (dropAsm k j s).fw = s.fw := rfl
@[simp] theorem dropAsm_lc (k j : Nat) : (dropAsm k j s).lc = s.lc := rfl
@[simp] theorem dropAsm_keys (k j : Nat) : (dropAsm k j s).keys = s.keys := rfl
@[simp] theorem dropAsm_recovery (k j : Nat) : (dropAsm k j s).recovery = s.recovery := rfl
@[simp] theorem dropAsm_log (k j : Nat) : (dropAsm k j s).log = s.log := rfl
@[simp] theorem dropAsm_dumps (k j : Nat) : (dropAsm k j s).dumps = s.dumps := rfl
@[simp] theorem dropAsm_tension (k j : Nat) : (dropAsm k j s).tension = s.tension := rfl
@[simp] theorem dropAsm_parts (k j : Nat) : (dropAsm k j s).parts = s.parts := rfl
@[simp] theorem dropAsm_sources (k j : Nat) : (dropAsm k j s).sources = s.sources := rfl
@[simp] theorem dropAsm_domain (k j : Nat) : (dropAsm k j s).domain = s.domain := rfl
@[simp] theorem dropAsm_gang (k j : Nat) : (dropAsm k j s).gang = s.gang := rfl
@[simp] theorem dropAsm_shuttle (k j : Nat) : (dropAsm k j s).shuttle = s.shuttle := rfl
@[simp] theorem dropAsm_purl (k j : Nat) : (dropAsm k j s).purl = s.purl := rfl
@[simp] theorem dropAsm_ports (k j : Nat) : (dropAsm k j s).ports = s.ports := rfl
@[simp] theorem dropAsm_tally (k j : Nat) : (dropAsm k j s).tally = s.tally := rfl
@[simp] theorem dropAsm_fabric (k j : Nat) : (dropAsm k j s).fabric = s.fabric := rfl
@[simp] theorem dropAsm_links (k j : Nat) : (dropAsm k j s).links = s.links := rfl
@[simp] theorem dropAsm_plaits (k j : Nat) : (dropAsm k j s).plaits = s.plaits := rfl
@[simp] theorem dropAsm_host (k j : Nat) : (dropAsm k j s).host = s.host := rfl
@[simp] theorem dropAsm_patterns (k j : Nat) : (dropAsm k j s).patterns = s.patterns := rfl
@[simp] theorem dropAsm_interval (k j : Nat) : (dropAsm k j s).interval = s.interval := rfl
@[simp] theorem dropAsm_od (k j : Nat) : (dropAsm k j s).od = s.od := rfl
@[simp] theorem dropAsm_tick (k j : Nat) : (dropAsm k j s).tick = s.tick := rfl
@[simp] theorem dropAsm_out (k j : Nat) : (dropAsm k j s).out = s.out := rfl
@[simp] theorem dropAsm_pending (k j : Nat) : (dropAsm k j s).pending = s.pending := rfl
@[simp] theorem dropAsm_free (k j : Nat) : (dropAsm k j s).free = s.free := rfl

/-! ### setLink -/

@[simp] theorem setLink_cfg (p : Nat) (f : Link → Link) : (setLink p f s).cfg = s.cfg := rfl
@[simp] theorem setLink_pins (p : Nat) (f : Link → Link) : (setLink p f s).pins = s.pins := rfl
@[simp] theorem setLink_seq (p : Nat) (f : Link → Link) : (setLink p f s).seq = s.seq := rfl
@[simp] theorem setLink_always (p : Nat) (f : Link → Link) : (setLink p f s).always = s.always := rfl
@[simp] theorem setLink_power (p : Nat) (f : Link → Link) : (setLink p f s).power = s.power := rfl
@[simp] theorem setLink_tap (p : Nat) (f : Link → Link) : (setLink p f s).tap = s.tap := rfl
@[simp] theorem setLink_fuses (p : Nat) (f : Link → Link) : (setLink p f s).fuses = s.fuses := rfl
@[simp] theorem setLink_flash (p : Nat) (f : Link → Link) : (setLink p f s).flash = s.flash := rfl
@[simp] theorem setLink_fw (p : Nat) (f : Link → Link) : (setLink p f s).fw = s.fw := rfl
@[simp] theorem setLink_lc (p : Nat) (f : Link → Link) : (setLink p f s).lc = s.lc := rfl
@[simp] theorem setLink_keys (p : Nat) (f : Link → Link) : (setLink p f s).keys = s.keys := rfl
@[simp] theorem setLink_dict (p : Nat) (f : Link → Link) : (setLink p f s).dict = s.dict := rfl
@[simp] theorem setLink_recovery (p : Nat) (f : Link → Link) : (setLink p f s).recovery = s.recovery := rfl
@[simp] theorem setLink_log (p : Nat) (f : Link → Link) : (setLink p f s).log = s.log := rfl
@[simp] theorem setLink_dumps (p : Nat) (f : Link → Link) : (setLink p f s).dumps = s.dumps := rfl
@[simp] theorem setLink_tension (p : Nat) (f : Link → Link) : (setLink p f s).tension = s.tension := rfl
@[simp] theorem setLink_parts (p : Nat) (f : Link → Link) : (setLink p f s).parts = s.parts := rfl
@[simp] theorem setLink_sources (p : Nat) (f : Link → Link) : (setLink p f s).sources = s.sources := rfl
@[simp] theorem setLink_domain (p : Nat) (f : Link → Link) : (setLink p f s).domain = s.domain := rfl
@[simp] theorem setLink_gang (p : Nat) (f : Link → Link) : (setLink p f s).gang = s.gang := rfl
@[simp] theorem setLink_shuttle (p : Nat) (f : Link → Link) : (setLink p f s).shuttle = s.shuttle := rfl
@[simp] theorem setLink_purl (p : Nat) (f : Link → Link) : (setLink p f s).purl = s.purl := rfl
@[simp] theorem setLink_ports (p : Nat) (f : Link → Link) : (setLink p f s).ports = s.ports := rfl
@[simp] theorem setLink_tally (p : Nat) (f : Link → Link) : (setLink p f s).tally = s.tally := rfl
@[simp] theorem setLink_fabric (p : Nat) (f : Link → Link) : (setLink p f s).fabric = s.fabric := rfl
@[simp] theorem setLink_plaits (p : Nat) (f : Link → Link) : (setLink p f s).plaits = s.plaits := rfl
@[simp] theorem setLink_host (p : Nat) (f : Link → Link) : (setLink p f s).host = s.host := rfl
@[simp] theorem setLink_patterns (p : Nat) (f : Link → Link) : (setLink p f s).patterns = s.patterns := rfl
@[simp] theorem setLink_interval (p : Nat) (f : Link → Link) : (setLink p f s).interval = s.interval := rfl
@[simp] theorem setLink_od (p : Nat) (f : Link → Link) : (setLink p f s).od = s.od := rfl
@[simp] theorem setLink_tick (p : Nat) (f : Link → Link) : (setLink p f s).tick = s.tick := rfl
@[simp] theorem setLink_out (p : Nat) (f : Link → Link) : (setLink p f s).out = s.out := rfl
@[simp] theorem setLink_pending (p : Nat) (f : Link → Link) : (setLink p f s).pending = s.pending := rfl
@[simp] theorem setLink_free (p : Nat) (f : Link → Link) : (setLink p f s).free = s.free := rfl

/-! ### setQueue -/

@[simp] theorem setQueue_cfg (q : Nat) (f : Queue → Queue) : (setQueue q f s).cfg = s.cfg := rfl
@[simp] theorem setQueue_pins (q : Nat) (f : Queue → Queue) : (setQueue q f s).pins = s.pins := rfl
@[simp] theorem setQueue_seq (q : Nat) (f : Queue → Queue) : (setQueue q f s).seq = s.seq := rfl
@[simp] theorem setQueue_always (q : Nat) (f : Queue → Queue) : (setQueue q f s).always = s.always := rfl
@[simp] theorem setQueue_power (q : Nat) (f : Queue → Queue) : (setQueue q f s).power = s.power := rfl
@[simp] theorem setQueue_tap (q : Nat) (f : Queue → Queue) : (setQueue q f s).tap = s.tap := rfl
@[simp] theorem setQueue_fuses (q : Nat) (f : Queue → Queue) : (setQueue q f s).fuses = s.fuses := rfl
@[simp] theorem setQueue_flash (q : Nat) (f : Queue → Queue) : (setQueue q f s).flash = s.flash := rfl
@[simp] theorem setQueue_fw (q : Nat) (f : Queue → Queue) : (setQueue q f s).fw = s.fw := rfl
@[simp] theorem setQueue_lc (q : Nat) (f : Queue → Queue) : (setQueue q f s).lc = s.lc := rfl
@[simp] theorem setQueue_keys (q : Nat) (f : Queue → Queue) : (setQueue q f s).keys = s.keys := rfl
@[simp] theorem setQueue_dict (q : Nat) (f : Queue → Queue) : (setQueue q f s).dict = s.dict := rfl
@[simp] theorem setQueue_recovery (q : Nat) (f : Queue → Queue) : (setQueue q f s).recovery = s.recovery := rfl
@[simp] theorem setQueue_log (q : Nat) (f : Queue → Queue) : (setQueue q f s).log = s.log := rfl
@[simp] theorem setQueue_dumps (q : Nat) (f : Queue → Queue) : (setQueue q f s).dumps = s.dumps := rfl
@[simp] theorem setQueue_tension (q : Nat) (f : Queue → Queue) : (setQueue q f s).tension = s.tension := rfl
@[simp] theorem setQueue_parts (q : Nat) (f : Queue → Queue) : (setQueue q f s).parts = s.parts := rfl
@[simp] theorem setQueue_sources (q : Nat) (f : Queue → Queue) : (setQueue q f s).sources = s.sources := rfl
@[simp] theorem setQueue_domain (q : Nat) (f : Queue → Queue) : (setQueue q f s).domain = s.domain := rfl
@[simp] theorem setQueue_gang (q : Nat) (f : Queue → Queue) : (setQueue q f s).gang = s.gang := rfl
@[simp] theorem setQueue_shuttle (q : Nat) (f : Queue → Queue) : (setQueue q f s).shuttle = s.shuttle := rfl
@[simp] theorem setQueue_purl (q : Nat) (f : Queue → Queue) : (setQueue q f s).purl = s.purl := rfl
@[simp] theorem setQueue_ports (q : Nat) (f : Queue → Queue) : (setQueue q f s).ports = s.ports := rfl
@[simp] theorem setQueue_tally (q : Nat) (f : Queue → Queue) : (setQueue q f s).tally = s.tally := rfl
@[simp] theorem setQueue_fabric (q : Nat) (f : Queue → Queue) : (setQueue q f s).fabric = s.fabric := rfl
@[simp] theorem setQueue_links (q : Nat) (f : Queue → Queue) : (setQueue q f s).links = s.links := rfl
@[simp] theorem setQueue_plaits (q : Nat) (f : Queue → Queue) : (setQueue q f s).plaits = s.plaits := rfl
@[simp] theorem setQueue_patterns (q : Nat) (f : Queue → Queue) : (setQueue q f s).patterns = s.patterns := rfl
@[simp] theorem setQueue_interval (q : Nat) (f : Queue → Queue) : (setQueue q f s).interval = s.interval := rfl
@[simp] theorem setQueue_od (q : Nat) (f : Queue → Queue) : (setQueue q f s).od = s.od := rfl
@[simp] theorem setQueue_tick (q : Nat) (f : Queue → Queue) : (setQueue q f s).tick = s.tick := rfl
@[simp] theorem setQueue_out (q : Nat) (f : Queue → Queue) : (setQueue q f s).out = s.out := rfl
@[simp] theorem setQueue_pending (q : Nat) (f : Queue → Queue) : (setQueue q f s).pending = s.pending := rfl
@[simp] theorem setQueue_free (q : Nat) (f : Queue → Queue) : (setQueue q f s).free = s.free := rfl

/-! ### setCtx -/

@[simp] theorem setCtx_cfg (c : Nat) (f : Ctx → Ctx) : (setCtx c f s).cfg = s.cfg := rfl
@[simp] theorem setCtx_pins (c : Nat) (f : Ctx → Ctx) : (setCtx c f s).pins = s.pins := rfl
@[simp] theorem setCtx_seq (c : Nat) (f : Ctx → Ctx) : (setCtx c f s).seq = s.seq := rfl
@[simp] theorem setCtx_always (c : Nat) (f : Ctx → Ctx) : (setCtx c f s).always = s.always := rfl
@[simp] theorem setCtx_power (c : Nat) (f : Ctx → Ctx) : (setCtx c f s).power = s.power := rfl
@[simp] theorem setCtx_tap (c : Nat) (f : Ctx → Ctx) : (setCtx c f s).tap = s.tap := rfl
@[simp] theorem setCtx_fuses (c : Nat) (f : Ctx → Ctx) : (setCtx c f s).fuses = s.fuses := rfl
@[simp] theorem setCtx_flash (c : Nat) (f : Ctx → Ctx) : (setCtx c f s).flash = s.flash := rfl
@[simp] theorem setCtx_fw (c : Nat) (f : Ctx → Ctx) : (setCtx c f s).fw = s.fw := rfl
@[simp] theorem setCtx_lc (c : Nat) (f : Ctx → Ctx) : (setCtx c f s).lc = s.lc := rfl
@[simp] theorem setCtx_keys (c : Nat) (f : Ctx → Ctx) : (setCtx c f s).keys = s.keys := rfl
@[simp] theorem setCtx_dict (c : Nat) (f : Ctx → Ctx) : (setCtx c f s).dict = s.dict := rfl
@[simp] theorem setCtx_recovery (c : Nat) (f : Ctx → Ctx) : (setCtx c f s).recovery = s.recovery := rfl
@[simp] theorem setCtx_log (c : Nat) (f : Ctx → Ctx) : (setCtx c f s).log = s.log := rfl
@[simp] theorem setCtx_dumps (c : Nat) (f : Ctx → Ctx) : (setCtx c f s).dumps = s.dumps := rfl
@[simp] theorem setCtx_tension (c : Nat) (f : Ctx → Ctx) : (setCtx c f s).tension = s.tension := rfl
@[simp] theorem setCtx_parts (c : Nat) (f : Ctx → Ctx) : (setCtx c f s).parts = s.parts := rfl
@[simp] theorem setCtx_sources (c : Nat) (f : Ctx → Ctx) : (setCtx c f s).sources = s.sources := rfl
@[simp] theorem setCtx_domain (c : Nat) (f : Ctx → Ctx) : (setCtx c f s).domain = s.domain := rfl
@[simp] theorem setCtx_gang (c : Nat) (f : Ctx → Ctx) : (setCtx c f s).gang = s.gang := rfl
@[simp] theorem setCtx_shuttle (c : Nat) (f : Ctx → Ctx) : (setCtx c f s).shuttle = s.shuttle := rfl
@[simp] theorem setCtx_purl (c : Nat) (f : Ctx → Ctx) : (setCtx c f s).purl = s.purl := rfl
@[simp] theorem setCtx_ports (c : Nat) (f : Ctx → Ctx) : (setCtx c f s).ports = s.ports := rfl
@[simp] theorem setCtx_tally (c : Nat) (f : Ctx → Ctx) : (setCtx c f s).tally = s.tally := rfl
@[simp] theorem setCtx_fabric (c : Nat) (f : Ctx → Ctx) : (setCtx c f s).fabric = s.fabric := rfl
@[simp] theorem setCtx_links (c : Nat) (f : Ctx → Ctx) : (setCtx c f s).links = s.links := rfl
@[simp] theorem setCtx_plaits (c : Nat) (f : Ctx → Ctx) : (setCtx c f s).plaits = s.plaits := rfl
@[simp] theorem setCtx_patterns (c : Nat) (f : Ctx → Ctx) : (setCtx c f s).patterns = s.patterns := rfl
@[simp] theorem setCtx_interval (c : Nat) (f : Ctx → Ctx) : (setCtx c f s).interval = s.interval := rfl
@[simp] theorem setCtx_od (c : Nat) (f : Ctx → Ctx) : (setCtx c f s).od = s.od := rfl
@[simp] theorem setCtx_tick (c : Nat) (f : Ctx → Ctx) : (setCtx c f s).tick = s.tick := rfl
@[simp] theorem setCtx_out (c : Nat) (f : Ctx → Ctx) : (setCtx c f s).out = s.out := rfl
@[simp] theorem setCtx_pending (c : Nat) (f : Ctx → Ctx) : (setCtx c f s).pending = s.pending := rfl
@[simp] theorem setCtx_free (c : Nat) (f : Ctx → Ctx) : (setCtx c f s).free = s.free := rfl

/-! ### modObj -/

@[simp] theorem modObj_cfg (i : Nat) (f : MemObj → MemObj) : (modObj i f s).cfg = s.cfg := rfl
@[simp] theorem modObj_pins (i : Nat) (f : MemObj → MemObj) : (modObj i f s).pins = s.pins := rfl
@[simp] theorem modObj_seq (i : Nat) (f : MemObj → MemObj) : (modObj i f s).seq = s.seq := rfl
@[simp] theorem modObj_always (i : Nat) (f : MemObj → MemObj) : (modObj i f s).always = s.always := rfl
@[simp] theorem modObj_power (i : Nat) (f : MemObj → MemObj) : (modObj i f s).power = s.power := rfl
@[simp] theorem modObj_tap (i : Nat) (f : MemObj → MemObj) : (modObj i f s).tap = s.tap := rfl
@[simp] theorem modObj_fuses (i : Nat) (f : MemObj → MemObj) : (modObj i f s).fuses = s.fuses := rfl
@[simp] theorem modObj_flash (i : Nat) (f : MemObj → MemObj) : (modObj i f s).flash = s.flash := rfl
@[simp] theorem modObj_fw (i : Nat) (f : MemObj → MemObj) : (modObj i f s).fw = s.fw := rfl
@[simp] theorem modObj_lc (i : Nat) (f : MemObj → MemObj) : (modObj i f s).lc = s.lc := rfl
@[simp] theorem modObj_keys (i : Nat) (f : MemObj → MemObj) : (modObj i f s).keys = s.keys := rfl
@[simp] theorem modObj_dict (i : Nat) (f : MemObj → MemObj) : (modObj i f s).dict = s.dict := rfl
@[simp] theorem modObj_recovery (i : Nat) (f : MemObj → MemObj) : (modObj i f s).recovery = s.recovery := rfl
@[simp] theorem modObj_log (i : Nat) (f : MemObj → MemObj) : (modObj i f s).log = s.log := rfl
@[simp] theorem modObj_dumps (i : Nat) (f : MemObj → MemObj) : (modObj i f s).dumps = s.dumps := rfl
@[simp] theorem modObj_tension (i : Nat) (f : MemObj → MemObj) : (modObj i f s).tension = s.tension := rfl
@[simp] theorem modObj_parts (i : Nat) (f : MemObj → MemObj) : (modObj i f s).parts = s.parts := rfl
@[simp] theorem modObj_sources (i : Nat) (f : MemObj → MemObj) : (modObj i f s).sources = s.sources := rfl
@[simp] theorem modObj_domain (i : Nat) (f : MemObj → MemObj) : (modObj i f s).domain = s.domain := rfl
@[simp] theorem modObj_gang (i : Nat) (f : MemObj → MemObj) : (modObj i f s).gang = s.gang := rfl
@[simp] theorem modObj_shuttle (i : Nat) (f : MemObj → MemObj) : (modObj i f s).shuttle = s.shuttle := rfl
@[simp] theorem modObj_purl (i : Nat) (f : MemObj → MemObj) : (modObj i f s).purl = s.purl := rfl
@[simp] theorem modObj_ports (i : Nat) (f : MemObj → MemObj) : (modObj i f s).ports = s.ports := rfl
@[simp] theorem modObj_tally (i : Nat) (f : MemObj → MemObj) : (modObj i f s).tally = s.tally := rfl
@[simp] theorem modObj_fabric (i : Nat) (f : MemObj → MemObj) : (modObj i f s).fabric = s.fabric := rfl
@[simp] theorem modObj_links (i : Nat) (f : MemObj → MemObj) : (modObj i f s).links = s.links := rfl
@[simp] theorem modObj_plaits (i : Nat) (f : MemObj → MemObj) : (modObj i f s).plaits = s.plaits := rfl
@[simp] theorem modObj_patterns (i : Nat) (f : MemObj → MemObj) : (modObj i f s).patterns = s.patterns := rfl
@[simp] theorem modObj_interval (i : Nat) (f : MemObj → MemObj) : (modObj i f s).interval = s.interval := rfl
@[simp] theorem modObj_od (i : Nat) (f : MemObj → MemObj) : (modObj i f s).od = s.od := rfl
@[simp] theorem modObj_tick (i : Nat) (f : MemObj → MemObj) : (modObj i f s).tick = s.tick := rfl
@[simp] theorem modObj_out (i : Nat) (f : MemObj → MemObj) : (modObj i f s).out = s.out := rfl
@[simp] theorem modObj_pending (i : Nat) (f : MemObj → MemObj) : (modObj i f s).pending = s.pending := rfl
@[simp] theorem modObj_free (i : Nat) (f : MemObj → MemObj) : (modObj i f s).free = s.free := rfl

/-! ### modEvent -/

@[simp] theorem modEvent_cfg (i : Nat) (f : Event → Event) : (modEvent i f s).cfg = s.cfg := rfl
@[simp] theorem modEvent_pins (i : Nat) (f : Event → Event) : (modEvent i f s).pins = s.pins := rfl
@[simp] theorem modEvent_seq (i : Nat) (f : Event → Event) : (modEvent i f s).seq = s.seq := rfl
@[simp] theorem modEvent_always (i : Nat) (f : Event → Event) : (modEvent i f s).always = s.always := rfl
@[simp] theorem modEvent_power (i : Nat) (f : Event → Event) : (modEvent i f s).power = s.power := rfl
@[simp] theorem modEvent_tap (i : Nat) (f : Event → Event) : (modEvent i f s).tap = s.tap := rfl
@[simp] theorem modEvent_fuses (i : Nat) (f : Event → Event) : (modEvent i f s).fuses = s.fuses := rfl
@[simp] theorem modEvent_flash (i : Nat) (f : Event → Event) : (modEvent i f s).flash = s.flash := rfl
@[simp] theorem modEvent_fw (i : Nat) (f : Event → Event) : (modEvent i f s).fw = s.fw := rfl
@[simp] theorem modEvent_lc (i : Nat) (f : Event → Event) : (modEvent i f s).lc = s.lc := rfl
@[simp] theorem modEvent_keys (i : Nat) (f : Event → Event) : (modEvent i f s).keys = s.keys := rfl
@[simp] theorem modEvent_dict (i : Nat) (f : Event → Event) : (modEvent i f s).dict = s.dict := rfl
@[simp] theorem modEvent_recovery (i : Nat) (f : Event → Event) : (modEvent i f s).recovery = s.recovery := rfl
@[simp] theorem modEvent_log (i : Nat) (f : Event → Event) : (modEvent i f s).log = s.log := rfl
@[simp] theorem modEvent_dumps (i : Nat) (f : Event → Event) : (modEvent i f s).dumps = s.dumps := rfl
@[simp] theorem modEvent_tension (i : Nat) (f : Event → Event) : (modEvent i f s).tension = s.tension := rfl
@[simp] theorem modEvent_parts (i : Nat) (f : Event → Event) : (modEvent i f s).parts = s.parts := rfl
@[simp] theorem modEvent_sources (i : Nat) (f : Event → Event) : (modEvent i f s).sources = s.sources := rfl
@[simp] theorem modEvent_domain (i : Nat) (f : Event → Event) : (modEvent i f s).domain = s.domain := rfl
@[simp] theorem modEvent_gang (i : Nat) (f : Event → Event) : (modEvent i f s).gang = s.gang := rfl
@[simp] theorem modEvent_shuttle (i : Nat) (f : Event → Event) : (modEvent i f s).shuttle = s.shuttle := rfl
@[simp] theorem modEvent_purl (i : Nat) (f : Event → Event) : (modEvent i f s).purl = s.purl := rfl
@[simp] theorem modEvent_ports (i : Nat) (f : Event → Event) : (modEvent i f s).ports = s.ports := rfl
@[simp] theorem modEvent_tally (i : Nat) (f : Event → Event) : (modEvent i f s).tally = s.tally := rfl
@[simp] theorem modEvent_fabric (i : Nat) (f : Event → Event) : (modEvent i f s).fabric = s.fabric := rfl
@[simp] theorem modEvent_links (i : Nat) (f : Event → Event) : (modEvent i f s).links = s.links := rfl
@[simp] theorem modEvent_plaits (i : Nat) (f : Event → Event) : (modEvent i f s).plaits = s.plaits := rfl
@[simp] theorem modEvent_patterns (i : Nat) (f : Event → Event) : (modEvent i f s).patterns = s.patterns := rfl
@[simp] theorem modEvent_interval (i : Nat) (f : Event → Event) : (modEvent i f s).interval = s.interval := rfl
@[simp] theorem modEvent_od (i : Nat) (f : Event → Event) : (modEvent i f s).od = s.od := rfl
@[simp] theorem modEvent_tick (i : Nat) (f : Event → Event) : (modEvent i f s).tick = s.tick := rfl
@[simp] theorem modEvent_out (i : Nat) (f : Event → Event) : (modEvent i f s).out = s.out := rfl
@[simp] theorem modEvent_pending (i : Nat) (f : Event → Event) : (modEvent i f s).pending = s.pending := rfl
@[simp] theorem modEvent_free (i : Nat) (f : Event → Event) : (modEvent i f s).free = s.free := rfl

/-! ### modXfer -/

@[simp] theorem modXfer_cfg (k : Nat) (f : XferRun → XferRun) : (modXfer k f s).cfg = s.cfg := rfl
@[simp] theorem modXfer_pins (k : Nat) (f : XferRun → XferRun) : (modXfer k f s).pins = s.pins := rfl
@[simp] theorem modXfer_seq (k : Nat) (f : XferRun → XferRun) : (modXfer k f s).seq = s.seq := rfl
@[simp] theorem modXfer_always (k : Nat) (f : XferRun → XferRun) : (modXfer k f s).always = s.always := rfl
@[simp] theorem modXfer_power (k : Nat) (f : XferRun → XferRun) : (modXfer k f s).power = s.power := rfl
@[simp] theorem modXfer_tap (k : Nat) (f : XferRun → XferRun) : (modXfer k f s).tap = s.tap := rfl
@[simp] theorem modXfer_fuses (k : Nat) (f : XferRun → XferRun) : (modXfer k f s).fuses = s.fuses := rfl
@[simp] theorem modXfer_flash (k : Nat) (f : XferRun → XferRun) : (modXfer k f s).flash = s.flash := rfl
@[simp] theorem modXfer_fw (k : Nat) (f : XferRun → XferRun) : (modXfer k f s).fw = s.fw := rfl
@[simp] theorem modXfer_lc (k : Nat) (f : XferRun → XferRun) : (modXfer k f s).lc = s.lc := rfl
@[simp] theorem modXfer_keys (k : Nat) (f : XferRun → XferRun) : (modXfer k f s).keys = s.keys := rfl
@[simp] theorem modXfer_dict (k : Nat) (f : XferRun → XferRun) : (modXfer k f s).dict = s.dict := rfl
@[simp] theorem modXfer_recovery (k : Nat) (f : XferRun → XferRun) : (modXfer k f s).recovery = s.recovery := rfl
@[simp] theorem modXfer_log (k : Nat) (f : XferRun → XferRun) : (modXfer k f s).log = s.log := rfl
@[simp] theorem modXfer_dumps (k : Nat) (f : XferRun → XferRun) : (modXfer k f s).dumps = s.dumps := rfl
@[simp] theorem modXfer_tension (k : Nat) (f : XferRun → XferRun) : (modXfer k f s).tension = s.tension := rfl
@[simp] theorem modXfer_parts (k : Nat) (f : XferRun → XferRun) : (modXfer k f s).parts = s.parts := rfl
@[simp] theorem modXfer_sources (k : Nat) (f : XferRun → XferRun) : (modXfer k f s).sources = s.sources := rfl
@[simp] theorem modXfer_domain (k : Nat) (f : XferRun → XferRun) : (modXfer k f s).domain = s.domain := rfl
@[simp] theorem modXfer_gang (k : Nat) (f : XferRun → XferRun) : (modXfer k f s).gang = s.gang := rfl
@[simp] theorem modXfer_shuttle (k : Nat) (f : XferRun → XferRun) : (modXfer k f s).shuttle = s.shuttle := rfl
@[simp] theorem modXfer_purl (k : Nat) (f : XferRun → XferRun) : (modXfer k f s).purl = s.purl := rfl
@[simp] theorem modXfer_ports (k : Nat) (f : XferRun → XferRun) : (modXfer k f s).ports = s.ports := rfl
@[simp] theorem modXfer_tally (k : Nat) (f : XferRun → XferRun) : (modXfer k f s).tally = s.tally := rfl
@[simp] theorem modXfer_fabric (k : Nat) (f : XferRun → XferRun) : (modXfer k f s).fabric = s.fabric := rfl
@[simp] theorem modXfer_links (k : Nat) (f : XferRun → XferRun) : (modXfer k f s).links = s.links := rfl
@[simp] theorem modXfer_plaits (k : Nat) (f : XferRun → XferRun) : (modXfer k f s).plaits = s.plaits := rfl
@[simp] theorem modXfer_patterns (k : Nat) (f : XferRun → XferRun) : (modXfer k f s).patterns = s.patterns := rfl
@[simp] theorem modXfer_interval (k : Nat) (f : XferRun → XferRun) : (modXfer k f s).interval = s.interval := rfl
@[simp] theorem modXfer_od (k : Nat) (f : XferRun → XferRun) : (modXfer k f s).od = s.od := rfl
@[simp] theorem modXfer_tick (k : Nat) (f : XferRun → XferRun) : (modXfer k f s).tick = s.tick := rfl
@[simp] theorem modXfer_out (k : Nat) (f : XferRun → XferRun) : (modXfer k f s).out = s.out := rfl
@[simp] theorem modXfer_pending (k : Nat) (f : XferRun → XferRun) : (modXfer k f s).pending = s.pending := rfl
@[simp] theorem modXfer_free (k : Nat) (f : XferRun → XferRun) : (modXfer k f s).free = s.free := rfl

/-! ### setOutcome -/

@[simp] theorem setOutcome_cfg (d a b c e : Nat) : (setOutcome d a b c e s).cfg = s.cfg := rfl
@[simp] theorem setOutcome_pins (d a b c e : Nat) : (setOutcome d a b c e s).pins = s.pins := rfl
@[simp] theorem setOutcome_seq (d a b c e : Nat) : (setOutcome d a b c e s).seq = s.seq := rfl
@[simp] theorem setOutcome_always (d a b c e : Nat) : (setOutcome d a b c e s).always = s.always := rfl
@[simp] theorem setOutcome_power (d a b c e : Nat) : (setOutcome d a b c e s).power = s.power := rfl
@[simp] theorem setOutcome_tap (d a b c e : Nat) : (setOutcome d a b c e s).tap = s.tap := rfl
@[simp] theorem setOutcome_fuses (d a b c e : Nat) : (setOutcome d a b c e s).fuses = s.fuses := rfl
@[simp] theorem setOutcome_flash (d a b c e : Nat) : (setOutcome d a b c e s).flash = s.flash := rfl
@[simp] theorem setOutcome_fw (d a b c e : Nat) : (setOutcome d a b c e s).fw = s.fw := rfl
@[simp] theorem setOutcome_lc (d a b c e : Nat) : (setOutcome d a b c e s).lc = s.lc := rfl
@[simp] theorem setOutcome_keys (d a b c e : Nat) : (setOutcome d a b c e s).keys = s.keys := rfl
@[simp] theorem setOutcome_dict (d a b c e : Nat) : (setOutcome d a b c e s).dict = s.dict := rfl
@[simp] theorem setOutcome_recovery (d a b c e : Nat) : (setOutcome d a b c e s).recovery = s.recovery := rfl
@[simp] theorem setOutcome_log (d a b c e : Nat) : (setOutcome d a b c e s).log = s.log := rfl
@[simp] theorem setOutcome_dumps (d a b c e : Nat) : (setOutcome d a b c e s).dumps = s.dumps := rfl
@[simp] theorem setOutcome_tension (d a b c e : Nat) : (setOutcome d a b c e s).tension = s.tension := rfl
@[simp] theorem setOutcome_parts (d a b c e : Nat) : (setOutcome d a b c e s).parts = s.parts := rfl
@[simp] theorem setOutcome_sources (d a b c e : Nat) : (setOutcome d a b c e s).sources = s.sources := rfl
@[simp] theorem setOutcome_domain (d a b c e : Nat) : (setOutcome d a b c e s).domain = s.domain := rfl
@[simp] theorem setOutcome_gang (d a b c e : Nat) : (setOutcome d a b c e s).gang = s.gang := rfl
@[simp] theorem setOutcome_shuttle (d a b c e : Nat) : (setOutcome d a b c e s).shuttle = s.shuttle := rfl
@[simp] theorem setOutcome_purl (d a b c e : Nat) : (setOutcome d a b c e s).purl = s.purl := rfl
@[simp] theorem setOutcome_ports (d a b c e : Nat) : (setOutcome d a b c e s).ports = s.ports := rfl
@[simp] theorem setOutcome_tally (d a b c e : Nat) : (setOutcome d a b c e s).tally = s.tally := rfl
@[simp] theorem setOutcome_fabric (d a b c e : Nat) : (setOutcome d a b c e s).fabric = s.fabric := rfl
@[simp] theorem setOutcome_links (d a b c e : Nat) : (setOutcome d a b c e s).links = s.links := rfl
@[simp] theorem setOutcome_plaits (d a b c e : Nat) : (setOutcome d a b c e s).plaits = s.plaits := rfl
@[simp] theorem setOutcome_patterns (d a b c e : Nat) : (setOutcome d a b c e s).patterns = s.patterns := rfl
@[simp] theorem setOutcome_interval (d a b c e : Nat) : (setOutcome d a b c e s).interval = s.interval := rfl
@[simp] theorem setOutcome_od (d a b c e : Nat) : (setOutcome d a b c e s).od = s.od := rfl
@[simp] theorem setOutcome_tick (d a b c e : Nat) : (setOutcome d a b c e s).tick = s.tick := rfl
@[simp] theorem setOutcome_out (d a b c e : Nat) : (setOutcome d a b c e s).out = s.out := rfl
@[simp] theorem setOutcome_pending (d a b c e : Nat) : (setOutcome d a b c e s).pending = s.pending := rfl
@[simp] theorem setOutcome_free (d a b c e : Nat) : (setOutcome d a b c e s).free = s.free := rfl

/-! ### modRegion -/

@[simp] theorem modRegion_cfg (k : Nat) (f : Region → Region) : (modRegion k f s).cfg = s.cfg := rfl
@[simp] theorem modRegion_pins (k : Nat) (f : Region → Region) : (modRegion k f s).pins = s.pins := rfl
@[simp] theorem modRegion_seq (k : Nat) (f : Region → Region) : (modRegion k f s).seq = s.seq := rfl
@[simp] theorem modRegion_always (k : Nat) (f : Region → Region) : (modRegion k f s).always = s.always := rfl
@[simp] theorem modRegion_power (k : Nat) (f : Region → Region) : (modRegion k f s).power = s.power := rfl
@[simp] theorem modRegion_tap (k : Nat) (f : Region → Region) : (modRegion k f s).tap = s.tap := rfl
@[simp] theorem modRegion_fuses (k : Nat) (f : Region → Region) : (modRegion k f s).fuses = s.fuses := rfl
@[simp] theorem modRegion_flash (k : Nat) (f : Region → Region) : (modRegion k f s).flash = s.flash := rfl
@[simp] theorem modRegion_fw (k : Nat) (f : Region → Region) : (modRegion k f s).fw = s.fw := rfl
@[simp] theorem modRegion_lc (k : Nat) (f : Region → Region) : (modRegion k f s).lc = s.lc := rfl
@[simp] theorem modRegion_keys (k : Nat) (f : Region → Region) : (modRegion k f s).keys = s.keys := rfl
@[simp] theorem modRegion_dict (k : Nat) (f : Region → Region) : (modRegion k f s).dict = s.dict := rfl
@[simp] theorem modRegion_recovery (k : Nat) (f : Region → Region) : (modRegion k f s).recovery = s.recovery := rfl
@[simp] theorem modRegion_log (k : Nat) (f : Region → Region) : (modRegion k f s).log = s.log := rfl
@[simp] theorem modRegion_dumps (k : Nat) (f : Region → Region) : (modRegion k f s).dumps = s.dumps := rfl
@[simp] theorem modRegion_tension (k : Nat) (f : Region → Region) : (modRegion k f s).tension = s.tension := rfl
@[simp] theorem modRegion_parts (k : Nat) (f : Region → Region) : (modRegion k f s).parts = s.parts := rfl
@[simp] theorem modRegion_sources (k : Nat) (f : Region → Region) : (modRegion k f s).sources = s.sources := rfl
@[simp] theorem modRegion_domain (k : Nat) (f : Region → Region) : (modRegion k f s).domain = s.domain := rfl
@[simp] theorem modRegion_gang (k : Nat) (f : Region → Region) : (modRegion k f s).gang = s.gang := rfl
@[simp] theorem modRegion_shuttle (k : Nat) (f : Region → Region) : (modRegion k f s).shuttle = s.shuttle := rfl
@[simp] theorem modRegion_purl (k : Nat) (f : Region → Region) : (modRegion k f s).purl = s.purl := rfl
@[simp] theorem modRegion_ports (k : Nat) (f : Region → Region) : (modRegion k f s).ports = s.ports := rfl
@[simp] theorem modRegion_fabric (k : Nat) (f : Region → Region) : (modRegion k f s).fabric = s.fabric := rfl
@[simp] theorem modRegion_links (k : Nat) (f : Region → Region) : (modRegion k f s).links = s.links := rfl
@[simp] theorem modRegion_plaits (k : Nat) (f : Region → Region) : (modRegion k f s).plaits = s.plaits := rfl
@[simp] theorem modRegion_host (k : Nat) (f : Region → Region) : (modRegion k f s).host = s.host := rfl
@[simp] theorem modRegion_patterns (k : Nat) (f : Region → Region) : (modRegion k f s).patterns = s.patterns := rfl
@[simp] theorem modRegion_interval (k : Nat) (f : Region → Region) : (modRegion k f s).interval = s.interval := rfl
@[simp] theorem modRegion_od (k : Nat) (f : Region → Region) : (modRegion k f s).od = s.od := rfl
@[simp] theorem modRegion_tick (k : Nat) (f : Region → Region) : (modRegion k f s).tick = s.tick := rfl
@[simp] theorem modRegion_out (k : Nat) (f : Region → Region) : (modRegion k f s).out = s.out := rfl
@[simp] theorem modRegion_pending (k : Nat) (f : Region → Region) : (modRegion k f s).pending = s.pending := rfl
@[simp] theorem modRegion_free (k : Nat) (f : Region → Region) : (modRegion k f s).free = s.free := rfl

/-! ### modNode -/

@[simp] theorem modNode_cfg (a b c : Nat) (f : Node → Node) : (modNode a b c f s).cfg = s.cfg := rfl
@[simp] theorem modNode_pins (a b c : Nat) (f : Node → Node) : (modNode a b c f s).pins = s.pins := rfl
@[simp] theorem modNode_seq (a b c : Nat) (f : Node → Node) : (modNode a b c f s).seq = s.seq := rfl
@[simp] theorem modNode_always (a b c : Nat) (f : Node → Node) : (modNode a b c f s).always = s.always := rfl
@[simp] theorem modNode_power (a b c : Nat) (f : Node → Node) : (modNode a b c f s).power = s.power := rfl
@[simp] theorem modNode_tap (a b c : Nat) (f : Node → Node) : (modNode a b c f s).tap = s.tap := rfl
@[simp] theorem modNode_fuses (a b c : Nat) (f : Node → Node) : (modNode a b c f s).fuses = s.fuses := rfl
@[simp] theorem modNode_flash (a b c : Nat) (f : Node → Node) : (modNode a b c f s).flash = s.flash := rfl
@[simp] theorem modNode_fw (a b c : Nat) (f : Node → Node) : (modNode a b c f s).fw = s.fw := rfl
@[simp] theorem modNode_lc (a b c : Nat) (f : Node → Node) : (modNode a b c f s).lc = s.lc := rfl
@[simp] theorem modNode_keys (a b c : Nat) (f : Node → Node) : (modNode a b c f s).keys = s.keys := rfl
@[simp] theorem modNode_dict (a b c : Nat) (f : Node → Node) : (modNode a b c f s).dict = s.dict := rfl
@[simp] theorem modNode_recovery (a b c : Nat) (f : Node → Node) : (modNode a b c f s).recovery = s.recovery := rfl
@[simp] theorem modNode_log (a b c : Nat) (f : Node → Node) : (modNode a b c f s).log = s.log := rfl
@[simp] theorem modNode_dumps (a b c : Nat) (f : Node → Node) : (modNode a b c f s).dumps = s.dumps := rfl
@[simp] theorem modNode_tension (a b c : Nat) (f : Node → Node) : (modNode a b c f s).tension = s.tension := rfl
@[simp] theorem modNode_parts (a b c : Nat) (f : Node → Node) : (modNode a b c f s).parts = s.parts := rfl
@[simp] theorem modNode_sources (a b c : Nat) (f : Node → Node) : (modNode a b c f s).sources = s.sources := rfl
@[simp] theorem modNode_domain (a b c : Nat) (f : Node → Node) : (modNode a b c f s).domain = s.domain := rfl
@[simp] theorem modNode_gang (a b c : Nat) (f : Node → Node) : (modNode a b c f s).gang = s.gang := rfl
@[simp] theorem modNode_shuttle (a b c : Nat) (f : Node → Node) : (modNode a b c f s).shuttle = s.shuttle := rfl
@[simp] theorem modNode_purl (a b c : Nat) (f : Node → Node) : (modNode a b c f s).purl = s.purl := rfl
@[simp] theorem modNode_ports (a b c : Nat) (f : Node → Node) : (modNode a b c f s).ports = s.ports := rfl
@[simp] theorem modNode_fabric (a b c : Nat) (f : Node → Node) : (modNode a b c f s).fabric = s.fabric := rfl
@[simp] theorem modNode_links (a b c : Nat) (f : Node → Node) : (modNode a b c f s).links = s.links := rfl
@[simp] theorem modNode_plaits (a b c : Nat) (f : Node → Node) : (modNode a b c f s).plaits = s.plaits := rfl
@[simp] theorem modNode_host (a b c : Nat) (f : Node → Node) : (modNode a b c f s).host = s.host := rfl
@[simp] theorem modNode_patterns (a b c : Nat) (f : Node → Node) : (modNode a b c f s).patterns = s.patterns := rfl
@[simp] theorem modNode_interval (a b c : Nat) (f : Node → Node) : (modNode a b c f s).interval = s.interval := rfl
@[simp] theorem modNode_od (a b c : Nat) (f : Node → Node) : (modNode a b c f s).od = s.od := rfl
@[simp] theorem modNode_tick (a b c : Nat) (f : Node → Node) : (modNode a b c f s).tick = s.tick := rfl
@[simp] theorem modNode_out (a b c : Nat) (f : Node → Node) : (modNode a b c f s).out = s.out := rfl
@[simp] theorem modNode_pending (a b c : Nat) (f : Node → Node) : (modNode a b c f s).pending = s.pending := rfl
@[simp] theorem modNode_free (a b c : Nat) (f : Node → Node) : (modNode a b c f s).free = s.free := rfl

/-! ### modSource -/

@[simp] theorem modSource_cfg (a b : Nat) (f : FabSource → FabSource) : (modSource a b f s).cfg = s.cfg := rfl
@[simp] theorem modSource_pins (a b : Nat) (f : FabSource → FabSource) : (modSource a b f s).pins = s.pins := rfl
@[simp] theorem modSource_seq (a b : Nat) (f : FabSource → FabSource) : (modSource a b f s).seq = s.seq := rfl
@[simp] theorem modSource_always (a b : Nat) (f : FabSource → FabSource) : (modSource a b f s).always = s.always := rfl
@[simp] theorem modSource_power (a b : Nat) (f : FabSource → FabSource) : (modSource a b f s).power = s.power := rfl
@[simp] theorem modSource_tap (a b : Nat) (f : FabSource → FabSource) : (modSource a b f s).tap = s.tap := rfl
@[simp] theorem modSource_fuses (a b : Nat) (f : FabSource → FabSource) : (modSource a b f s).fuses = s.fuses := rfl
@[simp] theorem modSource_flash (a b : Nat) (f : FabSource → FabSource) : (modSource a b f s).flash = s.flash := rfl
@[simp] theorem modSource_fw (a b : Nat) (f : FabSource → FabSource) : (modSource a b f s).fw = s.fw := rfl
@[simp] theorem modSource_lc (a b : Nat) (f : FabSource → FabSource) : (modSource a b f s).lc = s.lc := rfl
@[simp] theorem modSource_keys (a b : Nat) (f : FabSource → FabSource) : (modSource a b f s).keys = s.keys := rfl
@[simp] theorem modSource_dict (a b : Nat) (f : FabSource → FabSource) : (modSource a b f s).dict = s.dict := rfl
@[simp] theorem modSource_recovery (a b : Nat) (f : FabSource → FabSource) : (modSource a b f s).recovery = s.recovery := rfl
@[simp] theorem modSource_log (a b : Nat) (f : FabSource → FabSource) : (modSource a b f s).log = s.log := rfl
@[simp] theorem modSource_dumps (a b : Nat) (f : FabSource → FabSource) : (modSource a b f s).dumps = s.dumps := rfl
@[simp] theorem modSource_tension (a b : Nat) (f : FabSource → FabSource) : (modSource a b f s).tension = s.tension := rfl
@[simp] theorem modSource_parts (a b : Nat) (f : FabSource → FabSource) : (modSource a b f s).parts = s.parts := rfl
@[simp] theorem modSource_sources (a b : Nat) (f : FabSource → FabSource) : (modSource a b f s).sources = s.sources := rfl
@[simp] theorem modSource_domain (a b : Nat) (f : FabSource → FabSource) : (modSource a b f s).domain = s.domain := rfl
@[simp] theorem modSource_gang (a b : Nat) (f : FabSource → FabSource) : (modSource a b f s).gang = s.gang := rfl
@[simp] theorem modSource_shuttle (a b : Nat) (f : FabSource → FabSource) : (modSource a b f s).shuttle = s.shuttle := rfl
@[simp] theorem modSource_purl (a b : Nat) (f : FabSource → FabSource) : (modSource a b f s).purl = s.purl := rfl
@[simp] theorem modSource_ports (a b : Nat) (f : FabSource → FabSource) : (modSource a b f s).ports = s.ports := rfl
@[simp] theorem modSource_tally (a b : Nat) (f : FabSource → FabSource) : (modSource a b f s).tally = s.tally := rfl
@[simp] theorem modSource_links (a b : Nat) (f : FabSource → FabSource) : (modSource a b f s).links = s.links := rfl
@[simp] theorem modSource_plaits (a b : Nat) (f : FabSource → FabSource) : (modSource a b f s).plaits = s.plaits := rfl
@[simp] theorem modSource_host (a b : Nat) (f : FabSource → FabSource) : (modSource a b f s).host = s.host := rfl
@[simp] theorem modSource_patterns (a b : Nat) (f : FabSource → FabSource) : (modSource a b f s).patterns = s.patterns := rfl
@[simp] theorem modSource_interval (a b : Nat) (f : FabSource → FabSource) : (modSource a b f s).interval = s.interval := rfl
@[simp] theorem modSource_od (a b : Nat) (f : FabSource → FabSource) : (modSource a b f s).od = s.od := rfl
@[simp] theorem modSource_tick (a b : Nat) (f : FabSource → FabSource) : (modSource a b f s).tick = s.tick := rfl
@[simp] theorem modSource_out (a b : Nat) (f : FabSource → FabSource) : (modSource a b f s).out = s.out := rfl
@[simp] theorem modSource_pending (a b : Nat) (f : FabSource → FabSource) : (modSource a b f s).pending = s.pending := rfl
@[simp] theorem modSource_free (a b : Nat) (f : FabSource → FabSource) : (modSource a b f s).free = s.free := rfl

/-! ### modTray -/

@[simp] theorem modTray_cfg (k : Nat) (f : TrayRegion → TrayRegion) : (modTray k f s).cfg = s.cfg := rfl
@[simp] theorem modTray_pins (k : Nat) (f : TrayRegion → TrayRegion) : (modTray k f s).pins = s.pins := rfl
@[simp] theorem modTray_seq (k : Nat) (f : TrayRegion → TrayRegion) : (modTray k f s).seq = s.seq := rfl
@[simp] theorem modTray_always (k : Nat) (f : TrayRegion → TrayRegion) : (modTray k f s).always = s.always := rfl
@[simp] theorem modTray_power (k : Nat) (f : TrayRegion → TrayRegion) : (modTray k f s).power = s.power := rfl
@[simp] theorem modTray_tap (k : Nat) (f : TrayRegion → TrayRegion) : (modTray k f s).tap = s.tap := rfl
@[simp] theorem modTray_fuses (k : Nat) (f : TrayRegion → TrayRegion) : (modTray k f s).fuses = s.fuses := rfl
@[simp] theorem modTray_flash (k : Nat) (f : TrayRegion → TrayRegion) : (modTray k f s).flash = s.flash := rfl
@[simp] theorem modTray_fw (k : Nat) (f : TrayRegion → TrayRegion) : (modTray k f s).fw = s.fw := rfl
@[simp] theorem modTray_lc (k : Nat) (f : TrayRegion → TrayRegion) : (modTray k f s).lc = s.lc := rfl
@[simp] theorem modTray_keys (k : Nat) (f : TrayRegion → TrayRegion) : (modTray k f s).keys = s.keys := rfl
@[simp] theorem modTray_dict (k : Nat) (f : TrayRegion → TrayRegion) : (modTray k f s).dict = s.dict := rfl
@[simp] theorem modTray_recovery (k : Nat) (f : TrayRegion → TrayRegion) : (modTray k f s).recovery = s.recovery := rfl
@[simp] theorem modTray_log (k : Nat) (f : TrayRegion → TrayRegion) : (modTray k f s).log = s.log := rfl
@[simp] theorem modTray_dumps (k : Nat) (f : TrayRegion → TrayRegion) : (modTray k f s).dumps = s.dumps := rfl
@[simp] theorem modTray_tension (k : Nat) (f : TrayRegion → TrayRegion) : (modTray k f s).tension = s.tension := rfl
@[simp] theorem modTray_parts (k : Nat) (f : TrayRegion → TrayRegion) : (modTray k f s).parts = s.parts := rfl
@[simp] theorem modTray_sources (k : Nat) (f : TrayRegion → TrayRegion) : (modTray k f s).sources = s.sources := rfl
@[simp] theorem modTray_domain (k : Nat) (f : TrayRegion → TrayRegion) : (modTray k f s).domain = s.domain := rfl
@[simp] theorem modTray_gang (k : Nat) (f : TrayRegion → TrayRegion) : (modTray k f s).gang = s.gang := rfl
@[simp] theorem modTray_shuttle (k : Nat) (f : TrayRegion → TrayRegion) : (modTray k f s).shuttle = s.shuttle := rfl
@[simp] theorem modTray_purl (k : Nat) (f : TrayRegion → TrayRegion) : (modTray k f s).purl = s.purl := rfl
@[simp] theorem modTray_ports (k : Nat) (f : TrayRegion → TrayRegion) : (modTray k f s).ports = s.ports := rfl
@[simp] theorem modTray_tally (k : Nat) (f : TrayRegion → TrayRegion) : (modTray k f s).tally = s.tally := rfl
@[simp] theorem modTray_links (k : Nat) (f : TrayRegion → TrayRegion) : (modTray k f s).links = s.links := rfl
@[simp] theorem modTray_plaits (k : Nat) (f : TrayRegion → TrayRegion) : (modTray k f s).plaits = s.plaits := rfl
@[simp] theorem modTray_host (k : Nat) (f : TrayRegion → TrayRegion) : (modTray k f s).host = s.host := rfl
@[simp] theorem modTray_patterns (k : Nat) (f : TrayRegion → TrayRegion) : (modTray k f s).patterns = s.patterns := rfl
@[simp] theorem modTray_interval (k : Nat) (f : TrayRegion → TrayRegion) : (modTray k f s).interval = s.interval := rfl
@[simp] theorem modTray_od (k : Nat) (f : TrayRegion → TrayRegion) : (modTray k f s).od = s.od := rfl
@[simp] theorem modTray_tick (k : Nat) (f : TrayRegion → TrayRegion) : (modTray k f s).tick = s.tick := rfl
@[simp] theorem modTray_out (k : Nat) (f : TrayRegion → TrayRegion) : (modTray k f s).out = s.out := rfl
@[simp] theorem modTray_pending (k : Nat) (f : TrayRegion → TrayRegion) : (modTray k f s).pending = s.pending := rfl
@[simp] theorem modTray_free (k : Nat) (f : TrayRegion → TrayRegion) : (modTray k f s).free = s.free := rfl

/-! ### modPattern -/

@[simp] theorem modPattern_cfg (k : Nat) (f : Pattern → Pattern) : (modPattern k f s).cfg = s.cfg := rfl
@[simp] theorem modPattern_pins (k : Nat) (f : Pattern → Pattern) : (modPattern k f s).pins = s.pins := rfl
@[simp] theorem modPattern_seq (k : Nat) (f : Pattern → Pattern) : (modPattern k f s).seq = s.seq := rfl
@[simp] theorem modPattern_always (k : Nat) (f : Pattern → Pattern) : (modPattern k f s).always = s.always := rfl
@[simp] theorem modPattern_power (k : Nat) (f : Pattern → Pattern) : (modPattern k f s).power = s.power := rfl
@[simp] theorem modPattern_tap (k : Nat) (f : Pattern → Pattern) : (modPattern k f s).tap = s.tap := rfl
@[simp] theorem modPattern_fuses (k : Nat) (f : Pattern → Pattern) : (modPattern k f s).fuses = s.fuses := rfl
@[simp] theorem modPattern_flash (k : Nat) (f : Pattern → Pattern) : (modPattern k f s).flash = s.flash := rfl
@[simp] theorem modPattern_fw (k : Nat) (f : Pattern → Pattern) : (modPattern k f s).fw = s.fw := rfl
@[simp] theorem modPattern_lc (k : Nat) (f : Pattern → Pattern) : (modPattern k f s).lc = s.lc := rfl
@[simp] theorem modPattern_keys (k : Nat) (f : Pattern → Pattern) : (modPattern k f s).keys = s.keys := rfl
@[simp] theorem modPattern_dict (k : Nat) (f : Pattern → Pattern) : (modPattern k f s).dict = s.dict := rfl
@[simp] theorem modPattern_recovery (k : Nat) (f : Pattern → Pattern) : (modPattern k f s).recovery = s.recovery := rfl
@[simp] theorem modPattern_log (k : Nat) (f : Pattern → Pattern) : (modPattern k f s).log = s.log := rfl
@[simp] theorem modPattern_dumps (k : Nat) (f : Pattern → Pattern) : (modPattern k f s).dumps = s.dumps := rfl
@[simp] theorem modPattern_tension (k : Nat) (f : Pattern → Pattern) : (modPattern k f s).tension = s.tension := rfl
@[simp] theorem modPattern_parts (k : Nat) (f : Pattern → Pattern) : (modPattern k f s).parts = s.parts := rfl
@[simp] theorem modPattern_sources (k : Nat) (f : Pattern → Pattern) : (modPattern k f s).sources = s.sources := rfl
@[simp] theorem modPattern_domain (k : Nat) (f : Pattern → Pattern) : (modPattern k f s).domain = s.domain := rfl
@[simp] theorem modPattern_gang (k : Nat) (f : Pattern → Pattern) : (modPattern k f s).gang = s.gang := rfl
@[simp] theorem modPattern_shuttle (k : Nat) (f : Pattern → Pattern) : (modPattern k f s).shuttle = s.shuttle := rfl
@[simp] theorem modPattern_purl (k : Nat) (f : Pattern → Pattern) : (modPattern k f s).purl = s.purl := rfl
@[simp] theorem modPattern_ports (k : Nat) (f : Pattern → Pattern) : (modPattern k f s).ports = s.ports := rfl
@[simp] theorem modPattern_tally (k : Nat) (f : Pattern → Pattern) : (modPattern k f s).tally = s.tally := rfl
@[simp] theorem modPattern_fabric (k : Nat) (f : Pattern → Pattern) : (modPattern k f s).fabric = s.fabric := rfl
@[simp] theorem modPattern_links (k : Nat) (f : Pattern → Pattern) : (modPattern k f s).links = s.links := rfl
@[simp] theorem modPattern_plaits (k : Nat) (f : Pattern → Pattern) : (modPattern k f s).plaits = s.plaits := rfl
@[simp] theorem modPattern_host (k : Nat) (f : Pattern → Pattern) : (modPattern k f s).host = s.host := rfl
@[simp] theorem modPattern_interval (k : Nat) (f : Pattern → Pattern) : (modPattern k f s).interval = s.interval := rfl
@[simp] theorem modPattern_od (k : Nat) (f : Pattern → Pattern) : (modPattern k f s).od = s.od := rfl
@[simp] theorem modPattern_tick (k : Nat) (f : Pattern → Pattern) : (modPattern k f s).tick = s.tick := rfl
@[simp] theorem modPattern_out (k : Nat) (f : Pattern → Pattern) : (modPattern k f s).out = s.out := rfl
@[simp] theorem modPattern_pending (k : Nat) (f : Pattern → Pattern) : (modPattern k f s).pending = s.pending := rfl
@[simp] theorem modPattern_free (k : Nat) (f : Pattern → Pattern) : (modPattern k f s).free = s.free := rfl

/-! ### modLaunch -/

@[simp] theorem modLaunch_cfg (k : Nat) (f : Launch → Launch) : (modLaunch k f s).cfg = s.cfg := rfl
@[simp] theorem modLaunch_pins (k : Nat) (f : Launch → Launch) : (modLaunch k f s).pins = s.pins := rfl
@[simp] theorem modLaunch_seq (k : Nat) (f : Launch → Launch) : (modLaunch k f s).seq = s.seq := rfl
@[simp] theorem modLaunch_always (k : Nat) (f : Launch → Launch) : (modLaunch k f s).always = s.always := rfl
@[simp] theorem modLaunch_power (k : Nat) (f : Launch → Launch) : (modLaunch k f s).power = s.power := rfl
@[simp] theorem modLaunch_tap (k : Nat) (f : Launch → Launch) : (modLaunch k f s).tap = s.tap := rfl
@[simp] theorem modLaunch_fuses (k : Nat) (f : Launch → Launch) : (modLaunch k f s).fuses = s.fuses := rfl
@[simp] theorem modLaunch_flash (k : Nat) (f : Launch → Launch) : (modLaunch k f s).flash = s.flash := rfl
@[simp] theorem modLaunch_fw (k : Nat) (f : Launch → Launch) : (modLaunch k f s).fw = s.fw := rfl
@[simp] theorem modLaunch_lc (k : Nat) (f : Launch → Launch) : (modLaunch k f s).lc = s.lc := rfl
@[simp] theorem modLaunch_keys (k : Nat) (f : Launch → Launch) : (modLaunch k f s).keys = s.keys := rfl
@[simp] theorem modLaunch_dict (k : Nat) (f : Launch → Launch) : (modLaunch k f s).dict = s.dict := rfl
@[simp] theorem modLaunch_recovery (k : Nat) (f : Launch → Launch) : (modLaunch k f s).recovery = s.recovery := rfl
@[simp] theorem modLaunch_log (k : Nat) (f : Launch → Launch) : (modLaunch k f s).log = s.log := rfl
@[simp] theorem modLaunch_dumps (k : Nat) (f : Launch → Launch) : (modLaunch k f s).dumps = s.dumps := rfl
@[simp] theorem modLaunch_tension (k : Nat) (f : Launch → Launch) : (modLaunch k f s).tension = s.tension := rfl
@[simp] theorem modLaunch_parts (k : Nat) (f : Launch → Launch) : (modLaunch k f s).parts = s.parts := rfl
@[simp] theorem modLaunch_sources (k : Nat) (f : Launch → Launch) : (modLaunch k f s).sources = s.sources := rfl
@[simp] theorem modLaunch_domain (k : Nat) (f : Launch → Launch) : (modLaunch k f s).domain = s.domain := rfl
@[simp] theorem modLaunch_gang (k : Nat) (f : Launch → Launch) : (modLaunch k f s).gang = s.gang := rfl
@[simp] theorem modLaunch_shuttle (k : Nat) (f : Launch → Launch) : (modLaunch k f s).shuttle = s.shuttle := rfl
@[simp] theorem modLaunch_purl (k : Nat) (f : Launch → Launch) : (modLaunch k f s).purl = s.purl := rfl
@[simp] theorem modLaunch_ports (k : Nat) (f : Launch → Launch) : (modLaunch k f s).ports = s.ports := rfl
@[simp] theorem modLaunch_tally (k : Nat) (f : Launch → Launch) : (modLaunch k f s).tally = s.tally := rfl
@[simp] theorem modLaunch_fabric (k : Nat) (f : Launch → Launch) : (modLaunch k f s).fabric = s.fabric := rfl
@[simp] theorem modLaunch_links (k : Nat) (f : Launch → Launch) : (modLaunch k f s).links = s.links := rfl
@[simp] theorem modLaunch_plaits (k : Nat) (f : Launch → Launch) : (modLaunch k f s).plaits = s.plaits := rfl
@[simp] theorem modLaunch_host (k : Nat) (f : Launch → Launch) : (modLaunch k f s).host = s.host := rfl
@[simp] theorem modLaunch_interval (k : Nat) (f : Launch → Launch) : (modLaunch k f s).interval = s.interval := rfl
@[simp] theorem modLaunch_od (k : Nat) (f : Launch → Launch) : (modLaunch k f s).od = s.od := rfl
@[simp] theorem modLaunch_tick (k : Nat) (f : Launch → Launch) : (modLaunch k f s).tick = s.tick := rfl
@[simp] theorem modLaunch_out (k : Nat) (f : Launch → Launch) : (modLaunch k f s).out = s.out := rfl
@[simp] theorem modLaunch_pending (k : Nat) (f : Launch → Launch) : (modLaunch k f s).pending = s.pending := rfl
@[simp] theorem modLaunch_free (k : Nat) (f : Launch → Launch) : (modLaunch k f s).free = s.free := rfl

/-! ### setShReg -/

@[simp] theorem setShReg_cfg (k v : Nat) : (setShReg k v s).cfg = s.cfg := rfl
@[simp] theorem setShReg_pins (k v : Nat) : (setShReg k v s).pins = s.pins := rfl
@[simp] theorem setShReg_seq (k v : Nat) : (setShReg k v s).seq = s.seq := rfl
@[simp] theorem setShReg_always (k v : Nat) : (setShReg k v s).always = s.always := rfl
@[simp] theorem setShReg_power (k v : Nat) : (setShReg k v s).power = s.power := rfl
@[simp] theorem setShReg_tap (k v : Nat) : (setShReg k v s).tap = s.tap := rfl
@[simp] theorem setShReg_fuses (k v : Nat) : (setShReg k v s).fuses = s.fuses := rfl
@[simp] theorem setShReg_flash (k v : Nat) : (setShReg k v s).flash = s.flash := rfl
@[simp] theorem setShReg_fw (k v : Nat) : (setShReg k v s).fw = s.fw := rfl
@[simp] theorem setShReg_lc (k v : Nat) : (setShReg k v s).lc = s.lc := rfl
@[simp] theorem setShReg_keys (k v : Nat) : (setShReg k v s).keys = s.keys := rfl
@[simp] theorem setShReg_dict (k v : Nat) : (setShReg k v s).dict = s.dict := rfl
@[simp] theorem setShReg_recovery (k v : Nat) : (setShReg k v s).recovery = s.recovery := rfl
@[simp] theorem setShReg_log (k v : Nat) : (setShReg k v s).log = s.log := rfl
@[simp] theorem setShReg_dumps (k v : Nat) : (setShReg k v s).dumps = s.dumps := rfl
@[simp] theorem setShReg_tension (k v : Nat) : (setShReg k v s).tension = s.tension := rfl
@[simp] theorem setShReg_parts (k v : Nat) : (setShReg k v s).parts = s.parts := rfl
@[simp] theorem setShReg_sources (k v : Nat) : (setShReg k v s).sources = s.sources := rfl
@[simp] theorem setShReg_domain (k v : Nat) : (setShReg k v s).domain = s.domain := rfl
@[simp] theorem setShReg_gang (k v : Nat) : (setShReg k v s).gang = s.gang := rfl
@[simp] theorem setShReg_purl (k v : Nat) : (setShReg k v s).purl = s.purl := rfl
@[simp] theorem setShReg_ports (k v : Nat) : (setShReg k v s).ports = s.ports := rfl
@[simp] theorem setShReg_tally (k v : Nat) : (setShReg k v s).tally = s.tally := rfl
@[simp] theorem setShReg_fabric (k v : Nat) : (setShReg k v s).fabric = s.fabric := rfl
@[simp] theorem setShReg_links (k v : Nat) : (setShReg k v s).links = s.links := rfl
@[simp] theorem setShReg_plaits (k v : Nat) : (setShReg k v s).plaits = s.plaits := rfl
@[simp] theorem setShReg_host (k v : Nat) : (setShReg k v s).host = s.host := rfl
@[simp] theorem setShReg_patterns (k v : Nat) : (setShReg k v s).patterns = s.patterns := rfl
@[simp] theorem setShReg_interval (k v : Nat) : (setShReg k v s).interval = s.interval := rfl
@[simp] theorem setShReg_od (k v : Nat) : (setShReg k v s).od = s.od := rfl
@[simp] theorem setShReg_tick (k v : Nat) : (setShReg k v s).tick = s.tick := rfl
@[simp] theorem setShReg_out (k v : Nat) : (setShReg k v s).out = s.out := rfl
@[simp] theorem setShReg_pending (k v : Nat) : (setShReg k v s).pending = s.pending := rfl
@[simp] theorem setShReg_free (k v : Nat) : (setShReg k v s).free = s.free := rfl

/-! ### setCarry -/

@[simp] theorem setCarry_cfg (c : Carry) : (setCarry c s).cfg = s.cfg := rfl
@[simp] theorem setCarry_pins (c : Carry) : (setCarry c s).pins = s.pins := rfl
@[simp] theorem setCarry_seq (c : Carry) : (setCarry c s).seq = s.seq := rfl
@[simp] theorem setCarry_always (c : Carry) : (setCarry c s).always = s.always := rfl
@[simp] theorem setCarry_power (c : Carry) : (setCarry c s).power = s.power := rfl
@[simp] theorem setCarry_tap (c : Carry) : (setCarry c s).tap = s.tap := rfl
@[simp] theorem setCarry_fuses (c : Carry) : (setCarry c s).fuses = s.fuses := rfl
@[simp] theorem setCarry_flash (c : Carry) : (setCarry c s).flash = s.flash := rfl
@[simp] theorem setCarry_fw (c : Carry) : (setCarry c s).fw = s.fw := rfl
@[simp] theorem setCarry_lc (c : Carry) : (setCarry c s).lc = s.lc := rfl
@[simp] theorem setCarry_keys (c : Carry) : (setCarry c s).keys = s.keys := rfl
@[simp] theorem setCarry_dict (c : Carry) : (setCarry c s).dict = s.dict := rfl
@[simp] theorem setCarry_recovery (c : Carry) : (setCarry c s).recovery = s.recovery := rfl
@[simp] theorem setCarry_log (c : Carry) : (setCarry c s).log = s.log := rfl
@[simp] theorem setCarry_dumps (c : Carry) : (setCarry c s).dumps = s.dumps := rfl
@[simp] theorem setCarry_tension (c : Carry) : (setCarry c s).tension = s.tension := rfl
@[simp] theorem setCarry_parts (c : Carry) : (setCarry c s).parts = s.parts := rfl
@[simp] theorem setCarry_sources (c : Carry) : (setCarry c s).sources = s.sources := rfl
@[simp] theorem setCarry_gang (c : Carry) : (setCarry c s).gang = s.gang := rfl
@[simp] theorem setCarry_shuttle (c : Carry) : (setCarry c s).shuttle = s.shuttle := rfl
@[simp] theorem setCarry_purl (c : Carry) : (setCarry c s).purl = s.purl := rfl
@[simp] theorem setCarry_ports (c : Carry) : (setCarry c s).ports = s.ports := rfl
@[simp] theorem setCarry_tally (c : Carry) : (setCarry c s).tally = s.tally := rfl
@[simp] theorem setCarry_fabric (c : Carry) : (setCarry c s).fabric = s.fabric := rfl
@[simp] theorem setCarry_links (c : Carry) : (setCarry c s).links = s.links := rfl
@[simp] theorem setCarry_plaits (c : Carry) : (setCarry c s).plaits = s.plaits := rfl
@[simp] theorem setCarry_host (c : Carry) : (setCarry c s).host = s.host := rfl
@[simp] theorem setCarry_patterns (c : Carry) : (setCarry c s).patterns = s.patterns := rfl
@[simp] theorem setCarry_interval (c : Carry) : (setCarry c s).interval = s.interval := rfl
@[simp] theorem setCarry_od (c : Carry) : (setCarry c s).od = s.od := rfl
@[simp] theorem setCarry_tick (c : Carry) : (setCarry c s).tick = s.tick := rfl
@[simp] theorem setCarry_out (c : Carry) : (setCarry c s).out = s.out := rfl
@[simp] theorem setCarry_pending (c : Carry) : (setCarry c s).pending = s.pending := rfl
@[simp] theorem setCarry_free (c : Carry) : (setCarry c s).free = s.free := rfl

/-! ### dropCarry -/

@[simp] theorem dropCarry_cfg (p : Nat) : (dropCarry p s).cfg = s.cfg := rfl
@[simp] theorem dropCarry_pins (p : Nat) : (dropCarry p s).pins = s.pins := rfl
@[simp] theorem dropCarry_seq (p : Nat) : (dropCarry p s).seq = s.seq := rfl
@[simp] theorem dropCarry_always (p : Nat) : (dropCarry p s).always = s.always := rfl
@[simp] theorem dropCarry_power (p : Nat) : (dropCarry p s).power = s.power := rfl
@[simp] theorem dropCarry_tap (p : Nat) : (dropCarry p s).tap = s.tap := rfl
@[simp] theorem dropCarry_fuses (p : Nat) : (dropCarry p s).fuses = s.fuses := rfl
@[simp] theorem dropCarry_flash (p : Nat) : (dropCarry p s).flash = s.flash := rfl
@[simp] theorem dropCarry_fw (p : Nat) : (dropCarry p s).fw = s.fw := rfl
@[simp] theorem dropCarry_lc (p : Nat) : (dropCarry p s).lc = s.lc := rfl
@[simp] theorem dropCarry_keys (p : Nat) : (dropCarry p s).keys = s.keys := rfl
@[simp] theorem dropCarry_dict (p : Nat) : (dropCarry p s).dict = s.dict := rfl
@[simp] theorem dropCarry_recovery (p : Nat) : (dropCarry p s).recovery = s.recovery := rfl
@[simp] theorem dropCarry_log (p : Nat) : (dropCarry p s).log = s.log := rfl
@[simp] theorem dropCarry_dumps (p : Nat) : (dropCarry p s).dumps = s.dumps := rfl
@[simp] theorem dropCarry_tension (p : Nat) : (dropCarry p s).tension = s.tension := rfl
@[simp] theorem dropCarry_parts (p : Nat) : (dropCarry p s).parts = s.parts := rfl
@[simp] theorem dropCarry_sources (p : Nat) : (dropCarry p s).sources = s.sources := rfl
@[simp] theorem dropCarry_gang (p : Nat) : (dropCarry p s).gang = s.gang := rfl
@[simp] theorem dropCarry_shuttle (p : Nat) : (dropCarry p s).shuttle = s.shuttle := rfl
@[simp] theorem dropCarry_purl (p : Nat) : (dropCarry p s).purl = s.purl := rfl
@[simp] theorem dropCarry_ports (p : Nat) : (dropCarry p s).ports = s.ports := rfl
@[simp] theorem dropCarry_tally (p : Nat) : (dropCarry p s).tally = s.tally := rfl
@[simp] theorem dropCarry_fabric (p : Nat) : (dropCarry p s).fabric = s.fabric := rfl
@[simp] theorem dropCarry_links (p : Nat) : (dropCarry p s).links = s.links := rfl
@[simp] theorem dropCarry_plaits (p : Nat) : (dropCarry p s).plaits = s.plaits := rfl
@[simp] theorem dropCarry_host (p : Nat) : (dropCarry p s).host = s.host := rfl
@[simp] theorem dropCarry_patterns (p : Nat) : (dropCarry p s).patterns = s.patterns := rfl
@[simp] theorem dropCarry_interval (p : Nat) : (dropCarry p s).interval = s.interval := rfl
@[simp] theorem dropCarry_od (p : Nat) : (dropCarry p s).od = s.od := rfl
@[simp] theorem dropCarry_tick (p : Nat) : (dropCarry p s).tick = s.tick := rfl
@[simp] theorem dropCarry_out (p : Nat) : (dropCarry p s).out = s.out := rfl
@[simp] theorem dropCarry_pending (p : Nat) : (dropCarry p s).pending = s.pending := rfl
@[simp] theorem dropCarry_free (p : Nat) : (dropCarry p s).free = s.free := rfl

/-! ### What the changed field becomes -/

@[simp] theorem emit_out (o : Out) : (emit o s).out = o :: s.out := rfl
theorem setOd_od (i j v : Nat) : (setOd i j v s).od = tput s.od (obj i j) v := rfl
theorem setLink_links (p : Nat) (f : Link → Link) :
    (setLink p f s).links = { s.links with ports := tput s.links.ports p (f (linkAt s p)) } := rfl

/-- The fields of the host channel that an update of one of them leaves. -/
@[simp] theorem setQueue_ctxs (q : Nat) (f : Queue → Queue) : (setQueue q f s).host.ctxs = s.host.ctxs := rfl
@[simp] theorem setQueue_objs (q : Nat) (f : Queue → Queue) : (setQueue q f s).host.objs = s.host.objs := rfl
@[simp] theorem setQueue_events (q : Nat) (f : Queue → Queue) : (setQueue q f s).host.events = s.host.events := rfl
@[simp] theorem setQueue_descs (q : Nat) (f : Queue → Queue) : (setQueue q f s).host.descs = s.host.descs := rfl
@[simp] theorem setQueue_xfers (q : Nat) (f : Queue → Queue) : (setQueue q f s).host.xfers = s.host.xfers := rfl
@[simp] theorem setCtx_queues (c : Nat) (f : Ctx → Ctx) : (setCtx c f s).host.queues = s.host.queues := rfl
@[simp] theorem setCtx_objs (c : Nat) (f : Ctx → Ctx) : (setCtx c f s).host.objs = s.host.objs := rfl
@[simp] theorem setCtx_events (c : Nat) (f : Ctx → Ctx) : (setCtx c f s).host.events = s.host.events := rfl
@[simp] theorem setCtx_descs (c : Nat) (f : Ctx → Ctx) : (setCtx c f s).host.descs = s.host.descs := rfl
@[simp] theorem setCtx_xfers (c : Nat) (f : Ctx → Ctx) : (setCtx c f s).host.xfers = s.host.xfers := rfl
@[simp] theorem modObj_ctxs (i : Nat) (f : MemObj → MemObj) : (modObj i f s).host.ctxs = s.host.ctxs := rfl
@[simp] theorem modObj_queues (i : Nat) (f : MemObj → MemObj) : (modObj i f s).host.queues = s.host.queues := rfl
@[simp] theorem modObj_events (i : Nat) (f : MemObj → MemObj) : (modObj i f s).host.events = s.host.events := rfl
@[simp] theorem modObj_descs (i : Nat) (f : MemObj → MemObj) : (modObj i f s).host.descs = s.host.descs := rfl
@[simp] theorem modEvent_ctxs (i : Nat) (f : Event → Event) : (modEvent i f s).host.ctxs = s.host.ctxs := rfl
@[simp] theorem modEvent_queues (i : Nat) (f : Event → Event) : (modEvent i f s).host.queues = s.host.queues := rfl
@[simp] theorem modEvent_objs (i : Nat) (f : Event → Event) : (modEvent i f s).host.objs = s.host.objs := rfl
@[simp] theorem modEvent_descs (i : Nat) (f : Event → Event) : (modEvent i f s).host.descs = s.host.descs := rfl
@[simp] theorem setOutcome_ctxs (d a b c e : Nat) : (setOutcome d a b c e s).host.ctxs = s.host.ctxs := rfl
@[simp] theorem setOutcome_queues (d a b c e : Nat) : (setOutcome d a b c e s).host.queues = s.host.queues := rfl
@[simp] theorem setOutcome_objs (d a b c e : Nat) : (setOutcome d a b c e s).host.objs = s.host.objs := rfl
@[simp] theorem setOutcome_events (d a b c e : Nat) : (setOutcome d a b c e s).host.events = s.host.events := rfl

/-! ### Entries read back -/

/-- A stored object reads as written. -/
@[simp] theorem setting_setOd_self (i j v : Nat) : setting (setOd i j v s) i j = v := by
  simp only [setting, setOd_od, tgetD_tput_self]

theorem setting_setOd_ne (i j k l v : Nat) (h : obj k l ≠ obj i j) : setting (setOd i j v s) k l = setting s k l := by
  simp only [setting, setOd_od, tgetD_tput_ne _ _ _ h]

/-- A counter advances by one; every other object keeps its value. -/
@[simp] theorem setting_count_self (i j : Nat) : setting (count i j s) i j = setting s i j + 1 := setting_setOd_self s i j _

theorem setting_count_ne (i j k l : Nat) (h : obj k l ≠ obj i j) : setting (count i j s) k l = setting s k l :=
  setting_setOd_ne s i j k l _ h

theorem tget_count_ne (i j k : Nat) (h : k ≠ obj i j) : tget (count i j s).od k = tget s.od k := tget_tput_ne _ _ h

@[simp] theorem linkAt_setLink_self (p : Nat) (f : Link → Link) : linkAt (setLink p f s) p = f (linkAt s p) := by
  simp [linkAt, setLink]

theorem linkAt_setLink_ne (p q : Nat) (f : Link → Link) (h : q ≠ p) : linkAt (setLink p f s) q = linkAt s q := by
  simp [linkAt, setLink, tgetD_tput_ne _ _ _ h]

@[simp] theorem queueAt_setQueue_self (q : Nat) (f : Queue → Queue) : queueAt (setQueue q f s) q = f (queueAt s q) := by
  simp [queueAt, setQueue]

theorem queueAt_setQueue_ne (p q : Nat) (f : Queue → Queue) (h : p ≠ q) : queueAt (setQueue q f s) p = queueAt s p := by
  simp [queueAt, setQueue, tgetD_tput_ne _ _ _ h]

@[simp] theorem ctxAt_setCtx_self (c : Nat) (f : Ctx → Ctx) : ctxAt (setCtx c f s) c = (ctxAt s c).map f := by
  simp [ctxAt, setCtx]

theorem ctxAt_setCtx_ne (c d : Nat) (f : Ctx → Ctx) (h : d ≠ c) : ctxAt (setCtx c f s) d = ctxAt s d := by
  simp [ctxAt, setCtx, tget_tmod_ne _ _ h]

@[simp] theorem regionAt_modRegion_self (k : Nat) (f : Region → Region) :
    regionAt (modRegion k f s) k = (regionAt s k).map f := by
  simp [regionAt, modRegion]

theorem regionAt_modRegion_ne (k j : Nat) (f : Region → Region) (h : j ≠ k) :
    regionAt (modRegion k f s) j = regionAt s j := by
  simp [regionAt, modRegion, tget_tmod_ne _ _ h]

@[simp] theorem patternAt_modPattern_self (k : Nat) (f : Pattern → Pattern) :
    patternAt (modPattern k f s) k = (patternAt s k).map f := by
  simp [patternAt, modPattern]

theorem patternAt_modPattern_ne (k j : Nat) (f : Pattern → Pattern) (h : j ≠ k) :
    patternAt (modPattern k f s) j = patternAt s j := by
  simp [patternAt, modPattern, tget_tmod_ne _ _ h]

/-- The outcome of a descriptor is set once. -/
theorem setOutcome_desc (d a b c e : Nat) (x : Desc) (h : tget s.host.descs d = some x) :
    tget (setOutcome d a b c e s).host.descs d =
      some (if x.outcome.isNone then { x with outcome := some (a, b, c, e) } else x) := by
  simp [setOutcome, h]

theorem setOutcome_desc_ne (d j a b c e : Nat) (h : j ≠ d) :
    tget (setOutcome d a b c e s).host.descs j = tget s.host.descs j := by
  simp [setOutcome, tget_tmod_ne _ _ h]

end Sys2Proof.Machine
end

