-- ==== Sys2Proof/Laws/Ops.lean ====
section
/-! SUPPORT. Laws of the shared operations: for each, once, what it can change and what it does. -/

namespace Sys2Proof.Machine

open Sys2Proof

/-! ### Outputs, objects, draws -/

theorem emit_only (o : Out) (s : State) : OnlyChanges [.out] s (emit o s) := by
  intro f hf; cases f <;> first | rfl | simp at hf

theorem setOd_only (i j v : Nat) (s : State) : OnlyChanges [.od] s (setOd i j v s) := by
  intro f hf; cases f <;> first | rfl | simp at hf

theorem count_only (i j : Nat) (s : State) : OnlyChanges [.od] s (count i j s) := setOd_only i j _ s

theorem setOd_odKept (i j v : Nat) (s : State) : OdKept [obj i j] s (setOd i j v s) := fun k hk =>
  tget_tput_ne _ _ (by simpa using hk)

theorem count_odKept (i j : Nat) (s : State) : OdKept [obj i j] s (count i j s) := setOd_odKept i j _ s

theorem setPerSession_only (k i j v : Nat) (s : State) : OnlyChanges [.dict] s (setPerSession k i j v s) := by
  intro f hf; cases f <;> first | rfl | simp at hf

theorem setMine_only (r : OdReq) (i j v : Nat) (s : State) : OnlyChanges [.dict] s (setMine r i j v s) := by
  unfold setMine
  split
  · exact setPerSession_only _ i j v s
  · exact .refl _ s

theorem draw_only (n : Nat) (s : State) : OnlyChanges [.free] s (draw n s).2 := by
  intro f hf; cases f <;> first | rfl | simp at hf

theorem freshNat_only (s : State) : OnlyChanges [.free] s (freshNat s).2 := by
  intro f hf; cases f <;> first | rfl | simp at hf

theorem freshBytes_only (n : Nat) (s : State) : OnlyChanges [.free] s (freshBytes n s).2 := by
  intro f hf; cases f <;> first | rfl | simp at hf

/-! ### The tacking log -/

theorem logPut_only (r : BitVec 256) (s : State) : OnlyChanges [.log, .od] s (logPut r s) := by
  unfold logPut
  intro f hf
  dsimp only
  split
  · cases f <;> first | rfl | simp at hf
  · split
    · cases f <;> first | rfl | simp at hf
    · cases f <;> first | (split <;> rfl) | simp at hf

theorem tackRaw_only (t : Tack) (s : State) : OnlyChanges [.log, .od] s (tackRaw t s) := by
  unfold tackRaw
  split
  · refine .trans ?_ (logPut_only _ _)
    intro f hf; cases f <;> first | rfl | simp at hf
  · exact .refl _ s

theorem trigger_only (src : Nat) (s : State) : OnlyChanges [.log, .od] s (trigger src s) := by
  unfold trigger
  split
  · refine OnlyChanges.trans (t := tackRaw
      { rtype := 7, island := 0, partition := 0, context := 0, object := 2 ^ src, sigIsland := 62, sigEp := 0,
        sigLseq := 0, detail := 0 } s) (tackRaw_only _ s) ?_
    intro f hf; cases f <;> first | rfl | simp at hf
  · exact .refl _ s

/-- A record changes the log and its loss counter. -/
theorem tack_only (t : Tack) (s : State) : OnlyChanges [.log, .od] s (tack t s) := by
  unfold tack
  split
  · dsimp only
    split
    · exact (tackRaw_only t s).trans (trigger_only 3 _)
    · exact tackRaw_only t s
  · exact .refl _ s

theorem logPut_odKept (r : BitVec 256) (s : State) : OdKept [obj 0xA020 0xA] s (logPut r s) := by
  unfold logPut
  dsimp only
  split
  · exact count_odKept _ _ s
  · split
    · exact count_odKept _ _ _
    · split
      · exact (count_odKept 0xA020 0xA s).trans (OdKept.of_od rfl)
      · exact OdKept.of_od rfl

theorem tackRaw_odKept (t : Tack) (s : State) : OdKept [obj 0xA020 0xA] s (tackRaw t s) := by
  unfold tackRaw
  split
  · exact (OdKept.of_od rfl).trans (logPut_odKept _ _)
  · exact .refl _ s

theorem trigger_odKept (src : Nat) (s : State) : OdKept [obj 0xA020 0xA] s (trigger src s) := by
  unfold trigger
  split
  · exact (tackRaw_odKept _ s).trans (OdKept.of_od rfl)
  · exact .refl _ s

theorem tack_odKept (t : Tack) (s : State) : OdKept [obj 0xA020 0xA] s (tack t s) := by
  unfold tack
  split
  · dsimp only
    split
    · exact (tackRaw_odKept t s).trans (trigger_odKept 3 _)
    · exact tackRaw_odKept t s
  · exact .refl _ s

/-- With the log off nothing is written. -/
theorem tack_off (t : Tack) (s : State) (h : setting s 0xA020 1 ≠ 1) : tack t s = s := by
  unfold tack tackOn
  simp [h]

/-- The log keeps its bound. -/
theorem logPut_bound (r : BitVec 256) (s : State) (h : s.log.recs.length ≤ 65536) :
    (logPut r s).log.recs.length ≤ 65536 := by
  unfold logPut
  dsimp only
  split
  · exact h
  · split
    · exact h
    · by_cases hc : s.log.recs.length ≥ 65536 <;>
        simp [logCapacity, hc] <;> omega

theorem tackRaw_bound (t : Tack) (s : State) (h : s.log.recs.length ≤ 65536) :
    (tackRaw t s).log.recs.length ≤ 65536 := by
  unfold tackRaw
  split
  · exact logPut_bound _ _ h
  · exact h

theorem trigger_bound (src : Nat) (s : State) (h : s.log.recs.length ≤ 65536) :
    (trigger src s).log.recs.length ≤ 65536 := by
  unfold trigger
  split
  · exact tackRaw_bound _ s h
  · exact h

theorem tack_bound (t : Tack) (s : State) (h : s.log.recs.length ≤ 65536) : (tack t s).log.recs.length ≤ 65536 := by
  unfold tack
  split
  · dsimp only
    split
    · exact trigger_bound 3 _ (tackRaw_bound t s h)
    · exact tackRaw_bound t s h
  · exact h

/-! ### Beats (R52, R53) -/

theorem sendBeats_only (p : PortId) (c n : Nat) (o : Out) (s : State) :
    OnlyChanges [.ports, .out] s (sendBeats p c n o s) := by
  unfold sendBeats
  intro f hf
  dsimp only
  split <;> cases f <;> first | rfl | simp at hf

/-- With credits, an enabled port and nothing before it a message goes at once. -/
theorem sendBeats_goes (p : PortId) (c n : Nat) (o : Out) (s : State) (up : portUp s p = true)
    (cr : n ≤ creditOf s.ports.owned p c) (w : s.ports.waitOut = []) :
    sendBeats p c n o s =
      emit o { s with ports.owned := creditSet s.ports.owned p c (creditOf s.ports.owned p c - n) } := by
  unfold sendBeats
  simp [up, cr, w]

theorem sendBeats_grows (p : PortId) (c n : Nat) (o : Out) (s : State) : OutGrows s (sendBeats p c n o s) := by
  unfold sendBeats
  dsimp only
  split
  · exact ⟨[o], rfl⟩
  · exact ⟨[], rfl⟩

theorem flushWaiting_only (s : State) : OnlyChanges [.ports, .out] s (flushWaiting s) := by
  unfold flushWaiting
  refine .trans ?_ (OnlyChanges.each _ (fun w s => sendBeats_only _ _ _ _ s) _ _)
  intro f hf; cases f <;> first | rfl | simp at hf

/-- With nothing waiting nothing changes. -/
theorem flushWaiting_none (s : State) (h : s.ports.waitOut = []) : flushWaiting s = s := by
  unfold flushWaiting
  rw [h]
  simp only [each_nil]
  obtain ⟨⟩ := s
  simp only at h
  simp [← h]

theorem meshIssue_only (p : MeshPurpose) (a l : Nat) (w : Bool) (pid : Option Nat) (d : Bytes) (s : State) :
    OnlyChanges [.ports, .out] s (meshIssue p a l w pid d s) := by
  unfold meshIssue
  refine .trans ?_ (sendBeats_only _ _ _ _ _)
  intro f hf; cases f <;> first | rfl | simp at hf

theorem meshAnswer_only (p o src tag st : Nat) (poison : Bool) (d : Bytes) (s : State) :
    OnlyChanges [.ports, .out] s (meshAnswer p o src tag st poison d s) := sendBeats_only _ _ _ _ s

theorem meshIssue_grows (p : MeshPurpose) (a l : Nat) (w : Bool) (pid : Option Nat) (d : Bytes) (s : State) :
    OutGrows s (meshIssue p a l w pid d s) := by
  unfold meshIssue
  dsimp only
  exact OutGrows.trans ⟨[], rfl⟩ (sendBeats_grows _ _ _ _ _)

theorem sendMsi_only (a d : Nat) (s : State) : OnlyChanges [.ports, .out] s (sendMsi a d s) := by
  unfold sendMsi
  split
  · exact .refl _ s
  · exact meshIssue_only _ _ _ _ _ _ s

@[simp] theorem sendMsi_zero (d : Nat) (s : State) : sendMsi 0 d s = s := by simp [sendMsi]

theorem sendMsi_grows (a d : Nat) (s : State) : OutGrows s (sendMsi a d s) := by
  unfold sendMsi
  split
  · exact .refl s
  · exact meshIssue_grows _ _ _ _ _ _ s

/-! ### Link flit ports, VL0 messages (R183) -/

theorem setLink_only (p : Nat) (f : Link → Link) (s : State) : OnlyChanges [.links] s (setLink p f s) := by
  intro g hg; cases g <;> first | rfl | simp at hg

theorem queueMgmtTo_only (p src dst ty : Nat) (m : Bytes) (s : State) :
    OnlyChanges [.links, .out] s (queueMgmtTo p src dst ty m s) := by
  intro g hg; cases g <;> first | rfl | simp at hg

@[simp] theorem queueMgmtTo_tells (p src dst ty : Nat) (m : Bytes) (s : State) :
    Tells (.linkMsg p ty m) s (queueMgmtTo p src dst ty m s) := ⟨[], [], rfl⟩

theorem queueMgmtTo_grows (p src dst ty : Nat) (m : Bytes) (s : State) : OutGrows s (queueMgmtTo p src dst ty m s) :=
  ⟨[.linkMsg p ty m], rfl⟩

/-! ### Answers of the dictionary engine (R414, R416, R424, R426) -/

theorem vl0Respond_only (m : DictMsg) (b : Bytes) (s : State) : OnlyChanges [.links, .out] s (vl0Respond m b s) := by
  unfold vl0Respond
  split
  · exact queueMgmtTo_only _ _ _ _ _ s
  · exact .refl _ s

theorem vl0Respond_grows (m : DictMsg) (b : Bytes) (s : State) : OutGrows s (vl0Respond m b s) := by
  unfold vl0Respond
  split
  · exact queueMgmtTo_grows _ _ _ _ _ s
  · exact .refl s

/-- A response changes the queue and mailbox of its path, and the port that it leaves by. -/
theorem respond_only (p : OdPath) (b : Bytes) (s : State) :
    OnlyChanges [.out, .dict, .ports, .links] s (respond p b s) := by
  have dict : ∀ d : Dict, OnlyChanges [.out, .dict, .ports, .links] s { s with dict := d } := by
    intro d f hf; cases f <;> first | rfl | simp at hf
  unfold respond
  cases p with
  | i3c =>
    dsimp only
    split
    · exact .refl _ s
    · exact .trans (dict _) ((emit_only _ _).mono (by simp))
  | vl0 =>
    dsimp only
    split
    · exact .refl _ s
    · exact .trans (dict _) ((vl0Respond_only _ _ _).mono (by simp))
  | mailbox =>
    dsimp only
    split
    · exact .trans (dict _) ((sendMsi_only _ _ _).mono (by simp))
    · exact dict _
  | debug =>
    dsimp only
    split
    · exact .trans (dict _) ((sendMsi_only _ _ _).mono (by simp))
    · exact dict _

theorem respond_grows (p : OdPath) (b : Bytes) (s : State) : OutGrows s (respond p b s) := by
  unfold respond
  cases p with
  | i3c =>
    dsimp only
    split
    · exact .refl s
    · exact ⟨[_], rfl⟩
  | vl0 =>
    dsimp only
    split
    · exact .refl s
    · exact OutGrows.trans ⟨[], rfl⟩ (vl0Respond_grows _ _ _)
  | mailbox =>
    dsimp only
    split
    · exact OutGrows.trans ⟨[], rfl⟩ (sendMsi_grows _ _ _)
    · exact ⟨[], rfl⟩
  | debug =>
    dsimp only
    split
    · exact OutGrows.trans ⟨[], rfl⟩ (sendMsi_grows _ _ _)
    · exact ⟨[], rfl⟩

theorem deliver_only (r : OdReq) (b : Bytes) (s : State) :
    OnlyChanges [.out, .dict, .ports, .links, .free] s (deliver r b s) := by
  unfold deliver
  split
  · refine .trans ?_ ((respond_only _ _ _).mono (by simp))
    intro f hf; cases f <;> first | rfl | simp at hf
  · exact (respond_only _ _ _).mono (by simp)

theorem deliver_grows (r : OdReq) (b : Bytes) (s : State) : OutGrows s (deliver r b s) := by
  unfold deliver
  split
  · exact .trans ⟨[], rfl⟩ (respond_grows _ _ _)
  · exact respond_grows _ _ _

theorem countAnswer_only (a : Nat) (s : State) : OnlyChanges [.od] s (countAnswer a s) := by
  unfold countAnswer
  intro f hf
  cases f <;> first | (dsimp only; split <;> split <;> rfl) | simp at hf

theorem countAnswer_odKept (a : Nat) (s : State) : OdKept answerObjs s (countAnswer a s) := by
  have c : ∀ j s, (j = 1 ∨ j = 2 ∨ j = 3) → OdKept answerObjs s (count 0xB0A0 j s) := by
    rintro j s (rfl | rfl | rfl) <;> exact (count_odKept _ _ s).mono (by simp [answerObjs])
  unfold countAnswer
  dsimp only
  split <;> split
  · exact .trans (.trans (c 1 s (by simp)) (c 2 _ (by simp))) (c 3 _ (by simp))
  · exact .trans (c 1 s (by simp)) (c 3 _ (by simp))
  · exact .trans (c 1 s (by simp)) (c 2 _ (by simp))
  · exact c 1 s (by simp)

/-- An answer changes what every answer may change, and nothing else. -/
theorem answer_only (r : OdReq) (op i j a m n : Nat) (d : Bytes) (s : State) :
    OnlyChanges answerFields s (answer r op i j a m n d s) := by
  unfold answer
  refine .trans ?_ ((deliver_only _ _ _).mono (by simp [answerFields]))
  exact .trans ((countAnswer_only _ _).mono (by simp [answerFields])) ((emit_only _ _).mono (by simp [answerFields]))

theorem answer_odKept (r : OdReq) (op i j a m n : Nat) (d : Bytes) (s : State) :
    OdKept answerObjs s (answer r op i j a m n d s) := by
  unfold answer
  refine (countAnswer_odKept a s).trans (OdKept.of_od ?_)
  exact deliver_only _ _ _ .od (by simp)

/-- The answer is handed over. -/
theorem answer_tells (r : OdReq) (op i j a m n : Nat) (d : Bytes) (s : State) :
    Tells (.od r (op + 0x80) (typeOf s i j) i j a m n (if a = 0 then d else [])) s (answer r op i j a m n d s) := by
  unfold answer
  obtain ⟨post, h⟩ := deliver_grows r (odBytes r op (typeOf s i j) i j a m n (if a = 0 then d else []))
    (emit (.od r (op + 0x80) (typeOf s i j) i j a m n (if a = 0 then d else [])) (countAnswer a s))
  refine Tells.later ?_ post h
  refine Tells.earlier (tells_emit _ _) [] ?_
  exact countAnswer_only a s .out (by simp)

theorem answer_answers (r : OdReq) (op i j a : Nat) (d : Bytes) (s : State) :
    Answers r op i j a (if a = 0 then d else []) s (answer r op i j a 0 0 d s) :=
  ⟨_, _, _, answer_tells r op i j a 0 0 d s⟩

/-! ### Writes (R414, R426) -/

theorem odWrite_down (r : OdReq) (i j : Nat) (d : Bytes) (own : State → Own) (s : State) (h : pathUp s r = false) :
    odWrite r i j d own s = s := by
  simp [odWrite, h]

theorem odWrite_gate (r : OdReq) (i j : Nat) (d : Bytes) (own : State → Own) (s : State) (h : pathUp s r = true)
    (g : writeGate s r i j d ≠ 0) : odWrite r i j d own s = answer r 2 i j (writeGate s r i j d) 0 0 [] s := by
  simp [odWrite, h, g]

theorem odWrite_ok (r : OdReq) (i j : Nat) (d : Bytes) (own : State → Own) (s t : State) (h : Accepts r i j d s)
    (o : own s = .ok t) : odWrite r i j d own s = answer r 2 i j 0 0 0 [] t := by
  simp [odWrite, h.1, h.2, o]

theorem odWrite_abort (r : OdReq) (i j : Nat) (d : Bytes) (own : State → Own) (s : State) (a : Nat)
    (h : Accepts r i j d s) (o : own s = .abort a) : odWrite r i j d own s = answer r 2 i j a 0 0 [] s := by
  simp [odWrite, h.1, h.2, o]

theorem odWrite_later (r : OdReq) (i j : Nat) (d : Bytes) (own : State → Own) (s t : State) (h : Accepts r i j d s)
    (o : own s = .later t) : odWrite r i j d own s = t := by
  simp [odWrite, h.1, h.2, o]

/-- A row that is one write, refused by its gate. -/
theorem writeRefused_gate {c : Instr} {r : OdReq} {i j : Nat} {d : Bytes} {own : State → Own} {s : State}
    (e : exec c s = .next (odWrite r i j d own s)) (h : pathUp s r = true) (g : writeGate s r i j d ≠ 0) :
    WriteRefused c s r i j (writeGate s r i j d) := by
  refine ⟨_, e, ?_⟩
  rw [odWrite_gate r i j d own s h g]
  have := answer_answers r 2 i j (writeGate s r i j d) [] s
  simp only [g, if_false] at this
  exact ⟨this, answer_only _ _ _ _ _ _ _ _ _, answer_odKept _ _ _ _ _ _ _ _ _⟩

/-- A row that is one write, refused by its owning rule. -/
theorem writeRefused_own {c : Instr} {r : OdReq} {i j a : Nat} {d : Bytes} {own : State → Own} {s : State}
    (e : exec c s = .next (odWrite r i j d own s)) (h : Accepts r i j d s) (o : own s = .abort a) (ha : a ≠ 0) :
    WriteRefused c s r i j a := by
  refine ⟨_, e, ?_⟩
  rw [odWrite_abort r i j d own s a h o]
  have := answer_answers r 2 i j a [] s
  simp only [ha, if_false] at this
  exact ⟨this, answer_only _ _ _ _ _ _ _ _ _, answer_odKept _ _ _ _ _ _ _ _ _⟩

/-- A row that is one write, carried out: what its owning rule leaves is answered. -/
theorem writes_own {c : Instr} {r : OdReq} {i j : Nat} {d : Bytes} {own : State → Own} {s u : State} {fs : List Field}
    {ks : List Nat} {P : State → Prop} (e : exec c s = .next (odWrite r i j d own s)) (h : Accepts r i j d s)
    (o : own s = .ok u) (fr : OnlyChanges fs s u) (od : OdKept ks s u) (out : OutGrows s u)
    (p : ∀ t, OnlyChanges answerFields u t → OdKept answerObjs u t → P t) : Writes c s r i j fs ks P := by
  refine ⟨_, e, ?_⟩
  rw [odWrite_ok r i j d own s u h o]
  have a := answer_answers r 2 i j 0 [] u
  obtain ⟨pre, hp⟩ := out
  obtain ⟨ty, m, n, tl⟩ := a
  exact ⟨⟨ty, m, n, by simpa using tl.earlier pre hp⟩, p _ (answer_only _ _ _ _ _ _ _ _ _) (answer_odKept _ _ _ _ _ _ _ _ _),
    fr.append (answer_only _ _ _ _ _ _ _ _ _), (od.mono (fun _ h => List.mem_append_left _ h)).trans
      ((answer_odKept _ _ _ _ _ _ _ _ _).mono fun _ h => List.mem_append_right _ h)⟩

/-! ### Host channel: references, outcomes, faults -/

theorem modObj_only (i : Nat) (f : MemObj → MemObj) (s : State) : OnlyChanges [.host] s (modObj i f s) := by
  intro g hg; cases g <;> first | rfl | simp at hg

theorem modEvent_only (i : Nat) (f : Event → Event) (s : State) : OnlyChanges [.host] s (modEvent i f s) := by
  intro g hg; cases g <;> first | rfl | simp at hg

theorem setOutcome_only (d a b c e : Nat) (s : State) : OnlyChanges [.host] s (setOutcome d a b c e s) := by
  intro g hg; cases g <;> first | rfl | simp at hg

theorem interrupt_only (i : Nat) (e : Event) (s : State) : OnlyChanges [.host, .ports, .out] s (interrupt i e s) := by
  unfold interrupt
  split
  · exact .refl _ s
  · dsimp only
    refine .trans ?_ ((meshIssue_only _ _ _ _ _ _ _).mono (by simp))
    intro g hg; cases g <;> first | rfl | simp at hg

theorem releaseWait_only (i : Nat) (e : Nat × Desc) (s : State) :
    OnlyChanges [.host, .log, .od] s (releaseWait i e s) := by
  unfold releaseWait tackWaitEnd
  exact ((tack_only _ s).mono (by simp)).trans ((setOutcome_only _ _ _ _ _ _).mono (by simp))

theorem releaseWaiters_only (i : Nat) (s : State) : OnlyChanges [.host, .log, .od] s (releaseWaiters i s) := by
  have all : ∀ xs s, OnlyChanges [.host, .log, .od] s (each xs (releaseWait i) s) :=
    OnlyChanges.each _ fun e s => releaseWait_only i e s
  unfold releaseWaiters
  dsimp only
  split
  · exact (all _ s).trans (all _ _)
  · split
    · exact ((all _ s).trans (releaseWait_only _ _ _)).trans ((modEvent_only _ _ _).mono (by simp))
    · exact all _ s

/-- Signalling changes the host channel, the log, and for an event with an interrupt a mesh port. -/
theorem signalEvent_only (i st : Nat) (s : State) :
    OnlyChanges [.host, .log, .od, .ports, .out] s (signalEvent i st s) := by
  unfold signalEvent
  dsimp only
  split
  · exact .refl _ s
  · have h0 : ∀ r, OnlyChanges [.host, .log, .od, .ports, .out] s (tack r s) := fun r => (tack_only r s).mono (by simp)
    have h1 : ∀ f u, OnlyChanges [.host, .log, .od, .ports, .out] u (modEvent i f u) :=
      fun f u => (modEvent_only i f u).mono (by simp)
    have h2 : ∀ u, OnlyChanges [.host, .log, .od, .ports, .out] u
        (if (eventAt s i).intr = true then interrupt i (eventAt s i) u else u) := by
      intro u
      split
      · exact (interrupt_only _ _ u).mono (by simp)
      · exact .refl _ u
    have h3 := fun u => (releaseWaiters_only i u).mono (gs := [.host, .log, .od, .ports, .out]) (by simp)
    split
    · exact ((((h0 _).trans (h1 _ _)).trans (h2 _)).trans (h3 _)).trans (h1 _ _)
    · exact (((h0 _).trans (h1 _ _)).trans (h2 _)).trans (h3 _)

/-- An event that is not UNSIGNALLED is not signalled. -/
theorem signalEvent_other (i st : Nat) (s : State) (h : (eventAt s i).state ≠ 1) : signalEvent i st s = s := by
  simp [signalEvent, h]

theorem abandon_only (i : Nat) (s : State) : OnlyChanges [.host, .log, .od, .ports, .out] s (abandon i s) := by
  unfold abandon
  dsimp only
  split
  · exact (signalEvent_only i _ s).trans ((count_only _ _ _).mono (by simp))
  · exact .refl _ s

theorem dropRefs_only (d : Desc) (s : State) : OnlyChanges [.host, .log, .od, .ports, .out] s (dropRefs d s) := by
  have h1 : ∀ i s, OnlyChanges [.host, .log, .od, .ports, .out] s (unrefObj i s) :=
    fun i s => (modObj_only _ _ s).mono (by simp)
  have h2 : ∀ i s, OnlyChanges [.host, .log, .od, .ports, .out] s (unrefEvent i (opc d == 0x08) s) :=
    fun i s => ((modEvent_only _ _ s).mono (by simp)).trans (abandon_only i _)
  unfold dropRefs
  exact (OnlyChanges.each _ h1 _ s).trans (OnlyChanges.each _ h2 _ _)

/-- A descriptor without references drops none. -/
@[simp] theorem dropRefs_none (d : Desc) (s : State) (h : d.objs = []) (k : d.evs = []) : dropRefs d s = s := by
  simp [dropRefs, h, k]

end Sys2Proof.Machine
end

