-- ==== Sys2Proof/Tests/Slice0.lean ====
section
/-! SUPPORT. Tests of the model: one step each on small states, and for every statement with hypotheses a state that meets
them. -/

namespace Sys2Proof.Tests

set_option Elab.async false

open Sys2Proof Sys2Proof.Machine

/-! ### What a test asks of a step -/

/-- Every field of the state. -/
def fields : List Field :=
  [.cfg, .pins, .seq, .always, .power, .tap, .fuses, .flash, .fw, .lc, .keys, .dict, .recovery, .log, .dumps, .tension,
   .parts, .sources, .domain, .gang, .shuttle, .purl, .ports, .tally, .fabric, .links, .plaits, .host, .patterns,
   .interval, .od, .tick, .out, .pending, .free]

/-- Two states agree on a field. -/
def same (s t : State) : Field → Bool
  | .cfg => t.cfg == s.cfg
  | .pins => t.pins == s.pins
  | .seq => t.seq == s.seq
  | .always => t.always == s.always
  | .power => t.power == s.power
  | .tap => t.tap == s.tap
  | .fuses => t.fuses == s.fuses
  | .flash => t.flash == s.flash
  | .fw => t.fw == s.fw
  | .lc => t.lc == s.lc
  | .keys => t.keys == s.keys
  | .dict => t.dict == s.dict
  | .recovery => t.recovery == s.recovery
  | .log => t.log == s.log
  | .dumps => t.dumps == s.dumps
  | .tension => t.tension == s.tension
  | .parts => t.parts == s.parts
  | .sources => t.sources == s.sources
  | .domain => t.domain == s.domain
  | .gang => t.gang == s.gang
  | .shuttle => t.shuttle == s.shuttle
  | .purl => t.purl == s.purl
  | .ports => t.ports == s.ports
  | .tally => t.tally == s.tally
  | .fabric => t.fabric == s.fabric
  | .links => t.links == s.links
  | .plaits => t.plaits == s.plaits
  | .host => t.host == s.host
  | .patterns => t.patterns == s.patterns
  | .interval => t.interval == s.interval
  | .od => t.od == s.od
  | .tick => t.tick == s.tick
  | .out => t.out == s.out
  | .pending => t.pending == s.pending
  | .free => t.free == s.free

/-- Nothing but the listed fields differs. -/
def only (fs : List Field) (s t : State) : Bool := fields.all fun f => fs.contains f || same s t f

/-- The listed fields agree. -/
def keep (fs : List Field) (s t : State) : Bool := fs.all (same s t)

/-- No stored object but the listed ones differs. -/
def odKept (ks : List Nat) (s t : State) : Bool :=
  ((s.od ++ t.od).map (·.1)).all fun k => ks.contains k || tget t.od k == tget s.od k

/-- The step goes on to a state of which something holds. -/
def goes (o : Host.Outcome State Fault Refusal) (P : State → Bool) : Bool :=
  match o with
  | .next t => P t
  | _ => false

/-- Outputs of a step. -/
def said (s t : State) : List Out := t.out.take (t.out.length - s.out.length)

/-- The step changes only what is listed. -/
def does (c : Instr) (s : State) (fs : List Field) (P : State → Bool) : Bool := goes (exec c s) fun t => P t && only fs s t

/-- The step changes nothing. -/
def idle (c : Instr) (s : State) : Bool := does c s [] fun _ => true

/-- A dictionary request is answered. -/
def told (r : OdReq) (op idx sub abort : Nat) (data : Bytes) (s t : State) : Bool :=
  (said s t).any fun o => match o with
    | .od q p _ i j a _ _ d => q == r && p == op + 0x80 && i == idx && j == sub && a == abort && d == data
    | _ => false

/-- A WRITE is carried out. -/
def writes (c : Instr) (s : State) (r : OdReq) (idx sub : Nat) (fs : List Field) (ks : List Nat) (P : State → Bool) :
    Bool :=
  goes (exec c s) fun t => told r 2 idx sub 0 [] s t && P t && only (fs ++ answerFields) s t &&
    odKept (ks ++ answerObjs) s t

/-- A WRITE is refused. -/
def refuses (c : Instr) (s : State) (r : OdReq) (idx sub abort : Nat) : Bool :=
  goes (exec c s) fun t => told r 2 idx sub abort [] s t && only answerFields s t && odKept answerObjs s t

/-- A secured request is answered. -/
def secures (c : Instr) (s : State) (k st : Nat) (fs : List Field) (ks : List Nat) (P : State → Bool) : Bool :=
  goes (exec c s) fun t => P t && only (fs ++ answerFields) s t && odKept ks s t &&
    (said s t).any fun o => match o with | .secured i x _ => i == k && x == st | _ => false

/-- An SPDM request is answered. -/
def speaks (c : Instr) (s : State) (code : Nat) (fs : List Field) (ks : List Nat) (P : State → Bool) : Bool :=
  goes (exec c s) fun t => P t && only (fs ++ answerFields) s t && odKept ks s t &&
    (said s t).any fun o => match o with | .spdm _ x _ => x == code | _ => false

/-! ### States -/

/-- A session that holds the OPR right of the charter of `up`. -/
def opr : Session :=
  { id := 1, path := .mailbox, opened := true, leaf := [], digest := zeroBytes 48, transcript := [], secret := [] }

/-- A LIVE pin: its parent, level, kind, purpose, OBJ_A and held slot. -/
def pinOf (parent level kind purpose objA slot : Nat) : Pin :=
  { parent := parent, parentGen := 0, gen := 0, level := level, kind := kind, state := 1, purpose := purpose, objA := objA,
    objB := 0, heldSlot := slot, source := 0, childSerial := 0 }

/-- A LIVE partition of eight contexts, key indices 1 to 8, four patterns. -/
def part0 : Partition :=
  { partOfBytes [] with state := 1, ctxCount := 8, kidxBase := 1, kidxCount := 8, rootQuota := 4, heldQuota := 8,
                        patCount := 4, frameCount := 64, pin := 5, hash := zeroBytes 48 }

/-- KZ-8 as an accelerator that runs, a member of a domain, with partition 0 and an operator's session. -/
def up : State :=
  { State.reset with
    cfg := .kz8, seq := { Seq.reset with phase := 10, mgmtReset := false },
    power := { Power.reset with holdupArmed := true, enabled := [.mesh 0, .mem 0, .link 0, .link 1], ctlRdy := [0] },
    domain := { Domain.reset with charter := some [], sessions := [(0, opr)], state := 2, memberSlot := some 1 },
    keys := { Keys.reset with
      pins := [(0, pinOf 0 0 0 0 0 0), (1, pinOf 0 1 1 0x10 0 0), (2, pinOf 0 1 1 0x11 0 0), (3, pinOf 1 2 1 0x20 0 0),
               (4, pinOf 3 3 2 0x30 0 0), (5, pinOf 4 4 1 0x40 0 0)],
      held := [(0, [1]), (1, [2])], entropy := 1, keyDrbg := { live := true, requests := 0 },
      roundDrbg := { live := true, requests := 0 }, inc := some 7 },
    parts := [(0, part0)] }

/-- A request over the mailbox in the operator's session, and one outside a session. -/
def rq : OdReq := { path := .mailbox, sess := some 0, txn := 0 }
def rm : OdReq := { path := .mailbox, sess := none, txn := 0 }

def ri : OdReq := { path := .i3c, sess := none, txn := 0 }

/-- A mesh request at port 0: class, opcode, beats, target, fabric lane, key index, address, data, byte enables. -/
def mreq (vch opc beats tgt vl kidx addr : Nat) (data : Bytes) (be : List Bool) : MeshReq :=
  { port := 0, vch := vch,
    hdr := BitVec.ofNat 256 (opc + 2 ^ 8 * (beats - 1) + 2 ^ 16 * 9 + 2 ^ 32 * tgt + 2 ^ 34 * vl + 2 ^ 64 * kidx +
      2 ^ 96 * 3 + 2 ^ 128 * addr),
    data := data, be := be }

/-- `up` with credits on mesh port 0 and on its memory port, a cached key at index 1 for partition 0, requester 3 of
partition 0. -/
def meshy : State :=
  { up with
    keys.pins := up.keys.pins ++ [(6, pinOf 5 5 1 0x50 1 0)],
    keys.kidx := [(1, { pin := 6, gen := 0, partition := 0, infra := false, kind := 1, state := 1, orphaned := false })],
    keys.cache := [(6, { gen := 0, orphaned := false, lastUse := 0 })],
    sources := [(0, { partition := 0, srcId := 3, valid := true, confirmed := true })],
    ports := { Ports.reset with
      granted := [(.mesh 0, 0, 64), (.mesh 0, 1, 64), (.mesh 0, 2, 64), (.mesh 0, 3, 64), (.mesh 0, 4, 64), (.mesh 0, 5, 64)],
      owned := [(.mesh 0, 0, 64), (.mesh 0, 1, 64), (.mem 0, 0, 64), (.mem 1, 0, 64), (.link 0, 0, 64)] } }

/-- A LINKED port to endpoint 9. -/
def linkUp0 : Link :=
  { noLink with
    state := 4, phyUp := true, phyEn := true, epochs := [{ epoch := 1, pin := 8, txGroup := 0, txCtrl := 0, rxGroup := 0, rxCtrl := 0 }],
    initiator := true, secretSlot := some 0, owe := List.replicate 8 0, credits := List.replicate 8 64,
    partnerCredits := List.replicate 8 64, allot := List.replicate 8 64 }

/-- `meshy` as endpoint 5, link 0 LINKED, every endpoint routed over it. -/
def netted : State :=
  { meshy with links := { Links.reset with ports := [(0, linkUp0)] }, od := [(obj 0x5000 1, 5)],
               fabric := { Fabric.reset with routes := [(0, { base := 0, mask := 0, ports := 1, valid := true, epoch := 0 })] } }

/-- A region of partition 0 on tray 9: key index 2, slot 1, its first path resident. -/
def region0 : Region :=
  { state := 2, damaged := false, mirror := false, ordered := true, checked := false, mirrorLost := false, sizeLog2 := 21,
    partition := 0, kidx := 2, trayRegion := 3, pin := 7, pinGen := 0, primaryEp := 9, mirrorEp := 0, mirrorRegion := 0,
    spanRekeys := 0, lineMacFails := 0, poisonedReads := 0, roots := List.replicate 8 1, accessKey := 0, ownerEpoch := 1,
    trayInc := none, mirrorInc := none, cells := 16, creator := none, wholeDamaged := false, lastProbe := 0 }

def nodeOf (level minor : Nat) : Node :=
  { slot := 1, level := level, index := 0, state := 1,
    counters := if level = 0 then 1 :: List.replicate 32 minor else List.replicate 8 1, lastUse := 0, acks := 0, shadow := none }

/-- `netted` with that region; `minor` is the MINOR counter of each line of the first leaf. -/
def pooled (minor : Nat) : State :=
  { netted with
    keys.pins := netted.keys.pins ++ [(7, pinOf 5 5 1 0x51 1 0)],
    keys.kidx := netted.keys.kidx ++
      [(2, { pin := 7, gen := 0, partition := 0, infra := false, kind := 2, state := 1, orphaned := false })],
    keys.cache := netted.keys.cache ++ [(7, { gen := 0, orphaned := false, lastUse := 0 })],
    tally.regions := [(1, region0)], tally.nodes := (List.range 4).map fun k => nodeOf k minor }

/-- `netted` with link 0 in some other state. -/
def linkIs (f : Link → Link) : State := { netted with links.ports := [(0, f linkUp0)] }

/-- A message from endpoint 9 to this block: type, lane, ADDR, CNT, TAG, RETRY, operation, status, key, body, lines. -/
def fmsg (msg vl addr cnt tag retry aop status key : Nat) (body : Bytes) (lines : List PoolLine) : FMsg :=
  { srcEp := 9, dstEp := 5, vl := vl,
    hdr := fhdrWord ⟨msg, 32 + body.length, retry, 0, aop, tag, 0, addr, cnt, 0, status, 0, 0, 0, 0, key, 0⟩,
    body := body, lines := lines }

/-- Fields of a message that a row names, without its lines. -/
def tells (p msg status : Nat) (poison : Bool) (body : Bytes) (lines : List PoolLine) (m : FMsg) (s t : State) : Bool :=
  (said s t).any fun o => match o with
    | .fabric q a => q == p && a.srcEp == 5 && a.dstEp == m.srcEp && a.vl == 2 && a.body == body && a.lines == lines &&
        (fhdrOf a.hdr).msg == msg && (fhdrOf a.hdr).tag == (fhdrOf m.hdr).tag && (fhdrOf a.hdr).seq == (fhdrOf m.hdr).seq &&
        (fhdrOf a.hdr).status == status && (fhdrOf a.hdr).poison == bit poison
    | _ => false

/-- An ACTIVE context of partition 0, and a started descriptor of context 0 with an operation and parameter bytes 8 on. -/
def ctx0 : Ctx :=
  { state := 1, partition := 0, pasid := 0, faultReason := 0, ownerProc := 0, resets := 0, overflow := [], spill := false,
    intrBase := 0, intrLog2 := 0, msiAddr := 0, msiData := 0, faultEvent := 0, faultRecord := [], intrSeq := 0,
    bouncePins := [0, 0], floors := [0, 0], patFloor := 0 }
def descOf (op : Nat) (rest : Bytes) : Desc :=
  { queue := 0, seq := 1, alive := 0, bytes := le 8 (op * 2 ^ 32) ++ rest ++ zeroBytes (56 - rest.length), key := [], badAlive := false,
    started := true, startTick := 0, objs := [], evs := [], node := none, outcome := none, launch := none, order := 1, pin := 0 }

/-- A state with context 0 and one descriptor, number 0. -/
def hosted (s : State) (d : Desc) : State := { s with host.ctxs := [(0, ctx0)], host.descs := [(0, d)] }

/-- 320 bytes of a plait record: identifier 7, LEAF, operation, COUNT, parent, partition 0, children. -/
def plBytes (leaf op count parent : Nat) (children : List Nat) : Bytes :=
  slice (le 64 (7 + 2 ^ 16 * leaf + 2 ^ 17 * bit (parent == 0) + 2 ^ 20 * op + 2 ^ 48 * parent + 2 ^ 64 * count + 2 ^ 128 +
    2 ^ 144 * children.length) ++ children.flatMap fun c => le 4 c) 0 320

def step0 : PStep :=
  { step := 5, join := 77, startTick := 0, limit := 1000, desc := none, sat := false, slots := [], ready := [], leavesReady := 0,
    go := false, nextUp := 0, down := [], seen := [], held := [], source := [], listed := true, rfail := none, closed := false,
    list := [] }

/-- `netted` with record 7 running a step, and a message of it from an endpoint. -/
def plaited (b : Bytes) : State :=
  { netted with plaits := [(7, { bytes := b, run := some step0, last := none, leafStep := none, slots := [] })] }
def pmsg (src pm step join chunk n contrib : Nat) (data : Bytes) : PMsg :=
  { srcEp := src, dstEp := 5,
    hdr := phdrWord ⟨pm, false, false, false, 7, step, chunk, 0, 0, n, contrib, join⟩, data := data }

/-- Memory object 1 of context 0: LOCAL, 1 MiB of package memory under key index 1. -/
def obj1 : MemObj :=
  { state := 1, kind := 1, read := true, write := true, ctx := 0, partition := 0, gen := 0, base := 0, length := 0x100000,
    kidx := 1, dev := 1, host := 1 }

/-- A transfer takes a turn: it stands at `y` and makes its next access. -/
def turns (c : Instr) (job : Nat) (s : State) (y : XferRun) : Bool :=
  goes (exec c s) fun t => t == nextAccess job { s with host.xfers := tput s.host.xfers job y }

/-- The outcome of descriptor 0. -/
def outcome0 (t : State) : Option (Nat × Nat × Nat × Nat) := (tget t.host.descs 0).bind (·.outcome)

/-- A READY pattern of one chain, a launch of it by descriptor 1, and descriptor 0 as its node. -/
def pattern0 : Pattern :=
  { state := 2, ctx := 0, partition := 0, chainsM1 := 0, chainPrio := 0, nodes := 1, frameBase := 0, paramSeq := 3, event := 0,
    launches := 1, entry := [0], image := zeroBytes 64, params := [], objs := [], evs := [], sigs := [] }
def launch0 : Launch :=
  { state := 1, qid := 0, desc := 1, launchNo := 1, fences := 0, paramSeq := 3, params := [], first := none, satSeen := false,
    chains := [none], faultHandle := 0, faultOffset := 0 }

/-! ### The queue, time, resets, start-up, power -/

/-- Premises of Obligations.IdleTick that can be met together, and what the commands then do. -/
theorem wit_IdleTick :
    up.pending = [] ∧ goes (step up) (fun t => t.tick = up.tick + 1 && keep [.cfg, .pins, .seq, .power, .tap,
    .fuses, .flash, .fw, .lc, .dumps, .sources, .domain, .gang, .interval, .pending] up t) = true := by
  decide +kernel

/-- Premises of Obligations.EveryCommandAnswers that can be met together, and what the commands then do. -/
theorem wit_EveryCommandAnswers :
    namesAbsent up (.portClockStop (.link 15)) = true ∧
    namesAbsent up (.portClockStop (.link 0)) = false ∧ namesAbsent up (.portClockStop (.mesh 0)) = false := by
  decide +kernel

/-- Premises of Obligations.WholeResets that can be met together, and what the commands then do. -/
theorem wit_WholeResets :
    up.lc.progress ≠ 2 ∧ up.seq.tamperHold = false ∧ Accepts rq 0x9001 1 (le 2 0x5253) up ∧
    goes (exec (.resetPin 4) up) (fun t => t.always.lastResetCause = 2 && t.parts == [] && t.od == [] && keep [.cfg, .tap, .tick, .out, .pending, .free] up t) = true ∧
    idle (.resetPin 3) up = true ∧
    goes (exec (.tamperPin 2) up) (fun t => t.always.lastResetCause = 4 && t.seq.tamperHold && t.always.tamperEvents = 1) = true ∧
    goes (exec .tamperSensor up) (fun t => t.always.lastResetCause = 5) = true ∧
    goes (exec (.softReset rq 0x5253) up) (fun t => t.always.lastResetCause = 3 && keep [.cfg, .tap, .tick, .out, .pending, .free] up t) = true ∧
    does (.resetPin 4) { up with lc.progress := 2 } [.seq] (fun t => t.seq.deferred == some 2) = true ∧
    does .tamperSensor { up with lc.progress := 2 } [.seq] (fun t => t.seq.deferred == some 5) = true ∧
    goes (exec .powerOn up) (fun t => t.tick = 0 && t.parts == [] && keep [.cfg, .pending] up t) = true := by
  decide +kernel

/-- Premises of Obligations.ManagementReset that can be met together, and what the commands then do. -/
theorem wit_ManagementReset :
    Accepts rq 0x9001 2 (le 2 0x4D52) up ∧
    does (.mgmtReset rq 0x4D52) up [.seq, .keys, .dict, .recovery, .tension, .parts, .domain, .tally, .links, .od, .out, .free]
      (fun t => t.seq.mgmtReset && t.seq.lastMgmtCause = 2 && t.domain.sessions == [] && t.domain.charter == up.domain.charter) = true ∧
    does .tamperClear { up with seq.tamperHold := true } [.seq] (fun t => !t.seq.tamperHold) = true ∧
    (let s := { up with seq.mgmtReset := true, fw.active := 0 };
      s.seq.mgmtReset = true ∧ 8 ≤ s.seq.phase ∧ s.fw.step = 0 ∧ basting s = false ∧ s.always.failedStarts < 2) := by
  decide +kernel

/-- The block as it is when its supply and its clock are there: start-up is at step 0, the fuses are blank. -/
def cold : State := { State.reset with cfg := .kz8 }

/-- Premises of Obligations.StartUp that can be met together, and what the commands then do. -/
theorem wit_StartUp :
    let s := { up with keys.entropy := 0, seq.phase := 4 }
    cold.seq.phase = 0 ∧ cold.seq.held = false ∧ cold.power.refclk = true ∧ cold.seq.tamperHold = false ∧
    cold.pins.profile ≠ 3 ∧ (lcGroups (plainFuse cold 6)).isSome = true ∧
    goes (exec (.startUpRelease cold.pins) cold) (fun t => t.seq.basting = 3 && t.fuses.rootState = 4) = true ∧
    goes (exec (.startUpRelease { cold.pins with profile := 3 }) cold) (fun t => t.seq.basting = 2) = true ∧
    (lcGroups (plainFuse { cold with fuses.words := [(6, 2)] } 6)).isNone = true ∧
    goes (exec (.startUpRelease cold.pins) { cold with fuses.words := [(6, 2)] }) (fun t => t.seq.basting = 4) = true ∧
    s.keys.entropy = 0 ∧ 4 ≤ s.seq.phase ∧ rctFails 0 = true := by
  decide +kernel

/-- Premises of Obligations.StartUp that can be met together, and what the commands then do. -/
theorem wit_StartUp2 :
    let s := { up with keys.entropy := 0, seq.phase := 4 }
    let w : BitVec 1024 := (0x5555555555555555#64).replicate 16
    let m := { up with seq.phase := 5, seq.tried := [0, 1] }
    let f := { up with seq.phase := 7 }
    does (.entropyStartupTestEnd 0) s [.seq, .keys, .od] (fun t => t.keys.entropy = 2 && setting t 0x2030 2 = 1) = true ∧
    rctFails w = false ∧ aptFails w = false ∧
    does (.entropyStartupTestEnd w) s [.seq, .keys] (fun t => t.keys.entropy = 1 && t.keys.keyDrbg.live && t.seq.phase = 5) = true ∧
    m.seq.phase = 5 ∧ basting m = false ∧ (slotOrder m).filter (fun k => !m.seq.tried.contains k) = [] ∧
    goes (exec .firmwareMeasurementDone m) (fun t => t.always.lastResetCause = 7 && t.always.failedStarts = 1) = true ∧
    f.seq.phase = 7 ∧ basting f = false ∧ panelSize f = 1 ∧
    does .firmwareReady f [.seq, .always, .power, .fw, .keys, .recovery, .log, .tension, .domain, .gang, .ports, .tally, .fabric, .links,
         .host, .od, .out, .free] (fun t => t.seq.phase = 10 && t.recovery.hbRunning && t.fw.aliasIssued && !t.seq.mgmtReset) = true := by
  decide +kernel

/-- Premises of Obligations.PowerAndClocks that can be met together, and what the commands then do. -/
theorem wit_PowerAndClocks :
    let q := { up with power.quiescing := true }
    let l := { up with power.pfailLow := true, tick := 7 }
    let h := { up with power.holdupArmed := false, tick := 100000 }
    up.power.pfailLow = false ∧ up.power.quiescing = false ∧ up.power.quiesced = false ∧
    does (.pfailGlitch 2) up [.power, .od] (fun t => setting t 0x9004 4 = 1 && t.power.holdupArmed && odKept [obj 0x9004 4] up t) = true ∧
    does .pfailFall { up with fuses.root := [1], tension.scratch := [] } [.power, .fuses, .flash, .lc, .keys, .tension, .tally, .od, .out]
      (fun t => t.power.pfailLow && !t.power.holdupArmed && t.power.quiescing && t.fuses.root == [] && t.keys.cache == [] &&
        t.tension.closed) = true ∧
    q.power.quiescing = true ∧ q.fuses.blow = none ∧ q.lc.progress ≠ 2 ∧ (∀ x ∈ q.flash.reqs, x.op ≠ 1) ∧
    does .quiesceComplete q [.power, .ports, .links] (fun t => t.power.quiesced && !portUp t (.mesh 0) && !portUp t (.link 1)) = true ∧
    does .pfailRise l [.power] (fun t => !t.power.pfailLow && t.power.pfailHighSince = 7) = true ∧
    does .holdupArmTimer h [.power] (fun t => t.power.holdupArmed) = true ∧
    does (.islandDroop 0 1300) up [.power] (fun t => tget t.power.period 0 == some 1250) = true ∧
    does (.portClockStop (.link 0)) up [.power] (fun t => t.power.stopped.contains (.link 0)) = true := by
  decide +kernel

/-- Premises of Obligations.PowerAndClocks that can be met together, and what the commands then do. -/
theorem wit_PowerAndClocks2 :
    does (.portClockResume (.link 0)) { up with power.stopped := [.link 0] }
      [.power, .keys, .log, .tension, .ports, .tally, .fabric, .links, .host, .od, .out, .free] (fun t => t.power.stopped == []) = true ∧
    does (.refclkLoss 4) up [.power] (fun t => !t.power.refclk) = true ∧
    does .refclkReturn { up with power.refclk := false, seq.held := true } [.power, .seq] (fun t => t.power.refclk && !t.seq.held) = true ∧
    does .refclkRecalibrate up [.power] (fun t => t.power.recalibrations = 1) = true ∧
    does (.throttleChange 5) up [.power, .keys, .log, .tension, .tally, .fabric, .links, .od, .out, .free] (fun t => t.power.throttle = 5) = true ∧
    follower up = false ∧ Accepts rq 0x9030 1 [1] up ∧ idleForRetention up = true ∧
    writes (.retentionEnter rq) up rq 0x9030 1 [.power, .keys, .log, .tension, .gang, .shuttle, .tally, .fabric, .host]
      [obj 0xB090 1, obj 0xB090 3] (fun t => t.power.retention && t.power.enabled == []) = true ∧
    (let r := { up with power.retention := true, power.enabled := [] };
      Accepts ri 0x9030 1 [0] r ∧ goes (exec (.retentionExit ri) r) (fun t => told ri 2 0x9030 1 0 [] r t && !t.power.retention) = true) := by
  decide +kernel

/-! ### Tension, credits, pins, key indices -/

def unit0 : UnitDesc :=
  { ingress := .link 0, egress := .mesh 0, cls := 1, partition := some 0, context := none, cost := 32, vl := 0, dst := 0,
    pins := [], path := none, booked := 0 }

def rec0 : UnitRec :=
  { desc := unit0, cls := 1, pillow := 0, bobbin := 0, seq := 0, issued := false }

/-- Premises of Obligations.UnitsAreAdmitted that can be met together, and what the commands then do. -/
theorem wit_UnitsAreAdmitted :
    let c := { meshy with tension.closed := true }
    let g := { unit0 with pins := [9] }
    let b := { meshy with tension.backlog := (List.range 8).map fun i => (i, 500) }
    unitPorts meshy unit0 = true ∧ running meshy = true ∧ unit0.cost ≤ 32 ∧ unit0.cls ≤ 5 ∧
    does (.unitAdmit unit0) c [.tension] (fun t => t.tension.held == [(unit0, [])]) = true ∧
    unitEnds meshy g = some stKeyGone ∧
    does (.unitAdmit g) meshy [.tension, .od, .out] (fun t => t.out == [.unit 0 stKeyGone] && t.tension.held == [] &&
      setting t 0x2000 5 = 1 && odKept [obj 0x2000 5] meshy t) = true ∧
    unitEnds meshy unit0 = none ∧ unitBars meshy unit0 = [] ∧
    does (.unitAdmit unit0) meshy [.keys, .tension, .tally, .od] (fun t => t.tension.held == [] && t.tension.nextUnit = 1 &&
      tget t.tension.units 0 == some { rec0 with pillow := nextPillow meshy, bobbin := leastBobbin meshy (nextPillow meshy) } &&
      odKept [obj 0xB000 1, obj 0xB000 2] meshy t) = true ∧
    unitEnds b unit0 = none ∧ unitBars b unit0 = [1] ∧ unit0.path = none ∧
    does (.unitAdmit unit0) b [.keys, .tension, .od] (fun t => t.tension.held == [(unit0, [1])] && setting t 0xB030 1 = 1) = true := by
  decide +kernel

/-- Premises of Obligations.TicketsAndPositions that can be met together, and what the commands then do. -/
theorem wit_TicketsAndPositions :
    let g : Grant := { island := 1, partition := 0, pillow := 0, left := 40, lastFrame := 3 }
    let s := { up with tension.grants := [g], tension.ticketsOut := [(0, 50)],
                       tension.pillows := [(0, { frames := 7, taken := [], releasing := [] })] }
    let e := { up with tension.grants := [g], tension.ticketsOut := [(0, 50)],
                       tension.pillows := [(0, { frames := 6, taken := [], releasing := [] })] }
    let u := { up with tension.units := [(4, rec0), (5, rec0)], tension.nextUnit := 6, tension.backlog := [(0, 64)] }
    s.tension.held = [] ∧ (s.tension.grants.find? fun g => g.island == 1 && g.partition == 0 && g.pillow == 0) = some g ∧
    g.lastFrame + 4 ≤ (pillowAt s 0).frames ∧
    does (.ticketGrantExpiry 1 0 0) s [.tension] (fun t => t.tension.grants == [] && ticketsOut t 0 0 = 10) = true ∧
    idle (.ticketGrantExpiry 1 0 0) e = true ∧
    issuesNext u 4 rec0 = true ∧ issuesNext u 5 rec0 = false ∧ idle (.unitIssue 5) u = true ∧
    does (.unitIssue 4) u [.tension, .od] (fun t => tget t.tension.units 4 == some { rec0 with issued := true } &&
      backlogOf t 0 = 32 && setting t 0xB000 3 = 32 && setting t 0xB001 1 = 32 &&
      odKept [obj 0xB000 3, obj 0xB001 1] u t) = true := by
  decide +kernel

/-- Premises of Obligations.TicketsAndPositions that can be met together, and what the commands then do. -/
theorem wit_TicketsAndPositions2 :
    let g : Grant := { island := 1, partition := 0, pillow := 0, left := 40, lastFrame := 3 }
    let s := { up with tension.grants := [g], tension.ticketsOut := [(0, 50)],
                       tension.pillows := [(0, { frames := 7, taken := [], releasing := [] })] }
    let v := { up with tension.units := [(4, { rec0 with issued := true }), (5, { rec0 with issued := true })] }
    idle (.unitEgress 5) v = true ∧
    does (.unitEgress 4) v [.tension, .out] (fun t => !thas t.tension.units 4 && t.out == [.unit 4 0]) = true ∧
    Accepts rq 0x7400 1 [2] up ∧ Accepts rq 0x7400 1 [16] up ∧ (∀ p, tget up.parts 0 = some p → p.state < 2) ∧
    writes (.reservedSlotsWrite rq 0 2) up rq 0x7400 1 [] [obj 0x7400 1] (fun t => reservedSlots t 0 = 2) = true ∧
    refuses (.reservedSlotsWrite rq 0 255) up rq 0x7400 1 abRange = true ∧
    does (.frameBoundaryApply 0) s [.tension] (fun t => (pillowAt t 0).frames = 8) = true := by
  decide +kernel

/-- Premises of Obligations.CreditsAndControllers that can be met together, and what the commands then do. -/
theorem wit_CreditsAndControllers :
    let n := { meshy with ports.granted := [] }
    portExists up (.link 1) = true ∧ portUp { up with power.enabled := [] } (.link 1) = false ∧
    idle (.creditReturn (.link 1) 0 3) { up with power.enabled := [] } = true ∧ Calm meshy ∧
    0 < meshPortsOf up.cfg ∧ portUp meshy (.mesh 0) = true ∧
    does (.creditReturn (.mesh 0) 1 3) meshy [.ports] (fun t => creditOf t.ports.owned (.mesh 0) 1 = 67) = true ∧
    0 < memPortsOf up.cfg ∧ portUp meshy (.mem 0) = true ∧
    does (.creditReturn (.mem 0) 0 3) meshy [.ports] (fun t => creditOf t.ports.owned (.mem 0) 0 = 67) = true ∧
    creditOf n.ports.granted (.mesh 0) 5 = 0 ∧
    does (.beatWithoutCredit (.mesh 0) 5) n [.od] (fun t => setting t 0xB031 1 = 1 && odKept [obj 0xB031 1] n t) = true := by
  decide +kernel

/-- Premises of Obligations.CreditsAndControllers that can be met together, and what the commands then do. -/
theorem wit_CreditsAndControllers2 :
    let d := { meshy with power.enabled := [.mesh 0], power.ctlRdy := [] }
    let y := { d with cfg := KzConfig.kz8, pins.profile := 2 }
    let z := { d with seq.phase := 5 }
    idle (.beatWithoutCredit (.mesh 0) 5) meshy = true ∧
    does (.memCtlRdyFall 0) meshy [.power, .ports] (fun t => t.power.ctlRdy == [] && !portUp t (.mem 0) &&
      creditOf t.ports.owned (.mem 0) 0 = 0 && portUp t (.mesh 0)) = true ∧
    0 ∉ z.power.ctlRdy ∧ profile z ≠ 2 ∧ running z = false ∧
    does (.memCtlRdyRise 0 300) z [.power, .ports] (fun t => t.power.ctlRdy == [0] && t.power.enabled == [.mesh 0] &&
      creditOf t.ports.owned (.mem 0) 0 = 256) = true ∧
    0 ∉ d.power.ctlRdy ∧ profile d ≠ 2 ∧ running d = true ∧ d.power.retention = false ∧ d.power.quiesced = false ∧ Calm d ∧
    does (.memCtlRdyRise 0 0) d [.power, .ports] (fun t => t.power.ctlRdy == [0] && t.power.enabled.contains (.mem 0) &&
      creditOf t.ports.owned (.mem 0) 0 = 1) = true ∧
    profile y = 2 ∧ idle (.memCtlRdyRise 0 9) y = true := by
  decide +kernel

/-- Premises of Obligations.PinsCachedAndInvalidated that can be met together, and what the commands then do. -/
theorem wit_PinsCachedAndInvalidated :
    let m := { meshy with keys.cache := [], keys.missQueue := [6, 3] }
    let x := { meshy with keys.cache := [], keys.missQueue := [9] }
    m.ports.inReqs = [] ∧ m.ports.heldReqs = [] ∧ live x 9 = false ∧
    does .pinCacheFillDone x [.keys] (fun t => t.keys.missQueue == [] && t.keys.cache == []) = true ∧
    live m 6 = true ∧ m.keys.cache.length < cacheRoom m ∧
    does .pinCacheFillDone m [.keys, .od] (fun t => t.keys.missQueue == [3] && (tget t.keys.cache 6).isSome &&
      odKept [obj 0x2000 4] m t) = true ∧
    Accepts rq 0x2002 1 (le 4 0x10006) meshy ∧ 5 ≤ (pinAt meshy 6).level ∧ live meshy 0x10006 = false ∧
    refuses (.pinInvalidate rq 0x10006) meshy rq 0x2002 1 abState = true := by
  decide +kernel

/-- Premises of Obligations.PinsCachedAndInvalidated that can be met together, and what the commands then do. -/
theorem wit_PinsCachedAndInvalidated2 :
    let v := { meshy with keys.pins := tput meshy.keys.pins 6 { pinOf 5 5 1 0x50 1 0 with state := 2, gen := 1 } }
    let i := { v with keys.inval := [(6, { squash := true, absorbed := [], startTick := 0 })], keys.kidx := [] }
    let j := { i with tension.units := [(0, { rec0 with desc := { unit0 with pins := [6] } })] }
    Accepts rq 0x2002 1 (le 4 6) meshy ∧ live meshy 6 = true ∧ meshy.keys.inval = [] ∧ Calm meshy ∧
    writes (.pinInvalidate rq 6) meshy rq 0x2002 1 [.keys, .tension, .tally] [] (fun t => (pinAt t 6).state = 2 &&
      !live t 6 && thas t.keys.inval 6 && (pinAt t 6).gen = 1) = true ∧
    thas j.keys.inval 6 = true ∧ subtreeInUse j 6 = true ∧ idle (.invalidationSweep 6) j = true ∧
    thas i.keys.inval 6 = true ∧ subtreeInUse i 6 = false ∧ i.keys.invalWaiting = [] ∧ i.tally.regions = [] ∧ Calm i ∧
    thas i.keys.pins 6 = true ∧ (pinAt i 6).state = 2 ∧ below i 6 6 = true ∧
    does (.invalidationSweep 6) i [.keys, .od] (fun t => !thas t.keys.inval 6 && (pinAt t 6).state = 0 &&
      (pinAt t 6).gen = 1 && odKept [obj 0x2000 6] i t) = true := by
  decide +kernel

/-- An alternating window of raw samples, which passes both health tests. -/
def fine : BitVec 1024 := (0x5555555555555555#64).replicate 16

/-- Premises of Obligations.KeyIndicesAndEntropy that can be met together, and what the commands then do. -/
theorem wit_KeyIndicesAndEntropy :
    Accepts rq 0x2101 1 (le 4 0) meshy ∧ tget meshy.parts 0 = some part0 ∧ part0.state = 1 ∧
    live meshy (pinHandle part0.pin part0.pinGen) = true ∧ freeKidx meshy 0 false = some 2 ∧ freePin meshy = some 7 ∧
    (pinAt meshy 5).childSerial < 0xFFFFFFFF ∧
    writes (.kidxBind rq 0) meshy rq 0x2101 1 [.keys, .dict] [] (fun t =>
      (tget t.keys.kidx 2).map (fun x => (x.pin, x.partition, x.kind, x.state)) == some (7, 0, 1, 1) &&
      (pinAt t 7).state = 1 && (pinAt t 7).purpose = 0x50 && (pinAt t 7).level = 5 && perSession t 1 0x2101 3 = 2) = true ∧
    Accepts rq 0x2101 2 (le 2 0) meshy ∧ kidxAt meshy 0 = none ∧ Calm meshy ∧
    refuses (.kidxUnbind rq 0) meshy rq 0x2101 2 abRange = true ∧
    Accepts rq 0x2101 2 (le 2 1) meshy ∧ (kidxAt meshy 1).isSome = true ∧ meshy.keys.inval = [] := by
  decide +kernel

/-- Premises of Obligations.KeyIndicesAndEntropy that can be met together, and what the commands then do. -/
theorem wit_KeyIndicesAndEntropy2 :
    let f := { up with keys.entropy := 2, keys.entropyFails := 1, tick := 1000 }
    let g := { f with seq.phase := 5 }
    writes (.kidxUnbind rq 1) meshy rq 0x2101 2 [.keys, .tension, .tally] [] (fun t =>
      (kidxAt t 1).map (·.state) == some 2 && (pinAt t 6).state = 2) = true ∧
    up.keys.entropy = 1 ∧ rctFails 0 = true ∧ aptFails 0 = true ∧
    does (.entropyHealthFail 0) up [.keys, .od] (fun t => t.keys.entropy = 2 && t.keys.entropyFails = 1 &&
      setting t 0x2030 2 = 1 && setting t 0x2030 3 = 1 && odKept [obj 0x2030 2, obj 0x2030 3] up t) = true ∧
    f.keys.entropy = 2 ∧ f.keys.entropyFailTick + 1000 ≤ f.tick ∧
    goes (exec (.entropyRetest 0) f) (fun t => t.keys.entropy = 2 && t.keys.entropyFails = 2) = true ∧
    rctFails fine = false ∧ aptFails fine = false ∧ g.keys.seedPending = 0 ∧ g.seq.phase = 5 ∧
    g.domain.activationWaits = false ∧ g.links.ports = [] ∧ Calm g := by
  decide +kernel

/-- Premises of Obligations.KeyIndicesAndEntropy that can be met together, and what the commands then do. -/
theorem wit_KeyIndicesAndEntropy3 :
    let f := { up with keys.entropy := 2, keys.entropyFails := 1, tick := 1000 }
    let g := { f with seq.phase := 5 }
    let c := { up with fuses.lcWord := 0xFF }
    goes (exec (.entropyRetest fine) g) (fun t => t.keys.entropy = 1 && t.keys.keyDrbg.live && t.keys.roundDrbg.live &&
      t.keys.entropyFails = 0 && setting t 0x2030 4 = 2) = true ∧
    pathUp up rq = true ∧ readGate up rq 0x2030 5 false = 0 ∧ isOpen up = true ∧
    goes (exec (.rawSampleRead rq) up) (fun t => only answerFields up t && odKept answerObjs up t &&
      (said up t).any fun o => match o with | .od _ 0x81 _ 0x2030 5 0 _ _ d => d.length == 128 | _ => false) = true ∧
    pathUp c rq = true ∧ readGate c rq 0x2030 5 false = 0 ∧ isOpen c = false ∧
    goes (exec (.rawSampleRead rq) c) (fun t => told rq 1 0x2030 5 abState [] c t && only answerFields c t) = true := by
  decide +kernel

/-! ### Mesh requests -/

def full128 : List Bool := List.replicate 128 true

/-- Premises of Obligations.MeshRequestsAreChecked that can be met together, and what the commands then do. -/
theorem wit_MeshRequestsAreChecked :
    let q := mreq 2 1 1 1 0 1 0 [] []
    let bad := mreq 3 1 1 1 0 1 0 [] []
    let off := { meshy with power.enabled := [] }
    let dry := { meshy with ports.granted := [] }
    (mhdrOf q).tgt = 1 ∧ q.port < meshPortsOf meshy.cfg ∧ portUp off (.mesh 0) = false ∧ idle (.meshPkgRead q) off = true ∧
    meshWellFormed bad = false ∧ portUp dry (.mesh 0) = true ∧ creditOf dry.ports.granted (.mesh 0) 3 < meshBeats (mhdrOf bad) ∧
    does (.meshFabricFence bad) dry [.od] (fun t => setting t 0xB031 1 = 1 && odKept [obj 0xB031 1] dry t) = true ∧
    underCredit meshy bad = true ∧ AnswerGoes 0 32 meshy ∧
    does (.meshPkgRead bad) meshy [.ports, .out] (fun t =>
      ((said meshy t).any fun o => match o with | .meshRsp 0 0x81 3 9 st true _  => st == stMalformed | _ => false) &&
      creditOf t.ports.granted (.mesh 0) 3 = 64 && t.ports.inReqs == []) = true := by
  decide +kernel

/-- Premises of Obligations.PackageMemory that can be met together, and what the commands then do. -/
theorem wit_PackageMemory :
    let r := mreq 2 1 1 1 0 1 0x400 [] []
    let x := mreq 2 1 1 1 0 2 0x400 [] []
    Arrives r meshy ∧ (mhdrOf r).tgt = 1 ∧ (mhdrOf r).opc = 1 ∧ Arrives x meshy ∧ pkgBar meshy x ≠ stDone ∧
    AnswerGoes 0 (beatsOf 128) meshy ∧
    does (.meshPkgRead x) meshy [.ports, .od, .out] (fun t =>
      ((said meshy t).any fun o => match o with | .meshRsp 0 0x81 3 9 st true _ => st == pkgBar meshy x | _ => false) &&
      t.ports.inReqs == [] && odKept [obj 0x2000 5, obj 0xB072 4] meshy t) = true ∧
    pkgBar meshy r = stDone ∧ keyReady meshy (kidxPin meshy 1) = true ∧ memReady meshy r = true ∧ portFull meshy r = false ∧
    meshy.ports.merge = [] ∧ thas meshy.ports.inReqs meshy.ports.nextIn = false ∧
    does (.meshPkgRead r) meshy [.ports, .keys, .od, .out] (fun t =>
      (tget t.ports.inReqs 0).map (fun y => (y.waiting, y.partition)) == some ([0, 1], some 0) && t.ports.nextIn = 1 &&
      setting t 0xB000 4 = 2 && t.ports.memReads.any (fun e => e.2.laddr == 16 && e.2.req == some 0 && e.2.firstLine == 0) &&
      odKept [obj 0xB000 4] meshy t) = true := by
  decide +kernel

/-- Premises of Obligations.PackageMemory that can be met together, and what the commands then do. -/
theorem wit_PackageMemory2 :
    let w := mreq 2 2 1 1 0 1 0x400 (zeroBytes 128) full128
    let m := mreq 2 2 1 1 0 1 0x400 (zeroBytes 128) (true :: List.replicate 127 false)
    Arrives w meshy ∧ pkgBar meshy w = stDone ∧ memReady meshy w = true ∧ (∀ i, i < reqLines w → fullLine w i = true) ∧
    AnswerGoes 0 1 meshy ∧
    goes (exec (.meshPkgWrite w) meshy) (fun t => !thas t.ports.inReqs 0 && setting t 0xB000 4 = 2) = true ∧
    Arrives m meshy ∧ pkgBar meshy m = stDone ∧ memReady meshy m = true ∧
    (∀ i, i < reqLines m → partLine m i = decide (i = 0)) ∧ (∀ i, i < reqLines m → i ≠ 0 → noLine m i = true) ∧
    does (.meshPkgWrite m) meshy [.ports, .keys, .od, .out] (fun t =>
      t.ports.merge == [(0, { laddr := 16, kidx := 1, data := zeroBytes 64, mask := lineMask m 0, state := 0,
                              writes := [(0, 0)], reads := [], superseded := false })] &&
      (tget t.ports.inReqs 0).map (·.waiting) == some [0]) = true := by
  decide +kernel

/-- Premises of Obligations.ControllerAndMeshAnswers that can be met together, and what the commands then do. -/
theorem wit_ControllerAndMeshAnswers :
    let e : Merge := ⟨16, 1, zeroBytes 64, List.replicate 64 true, 0, [], [], false⟩
    let p := { e with mask := List.replicate 64 false }
    let s := { meshy with ports.merge := [(0, e), (1, { p with laddr := 32 }), (2, { e with state := 1 })] }
    let q := mreq 2 1 1 1 0 1 0x400 [] []
    let rd : MemRead := { laddr := 16, kidx := 1, lines := 1, req := some 0, firstLine := 0, entry := none, issueTick := 0 }
    let ir : InReq := { port := 0, q := q, partition := some 0, waiting := [0, 1], done := [], ctrs := [], ready := [] }
    let r := { meshy with ports.memReads := [(5, rd)], ports.inReqs := [(0, ir)] }
    s.ports.inReqs = [] ∧ s.ports.heldReqs = [] ∧ idle (.mergeWindowExpire 2) s = true ∧ e.mask.all id = true ∧
    goes (exec (.mergeWindowExpire 0) s) (fun t => !thas t.ports.merge 0 && thas t.ports.merge 1 && setting t 0xB033 1 = 1 &&
      setting t 0xB000 4 = 1 && only [.ports, .od, .out] s t && odKept [obj 0xB033 1, obj 0xB000 4] s t) = true ∧
    p.mask.all id = false ∧ freeMemTag s (memPortOf s 32) = some 0 ∧
    goes (exec (.mergeWindowExpire 1) s) (fun t => tget t.ports.merge 1 == some { p with laddr := 32, state := 1 } &&
      setting t 0xB033 2 = 1 && only [.ports, .od, .out] s t && odKept [obj 0xB033 2, obj 0xB000 4] s t &&
      tget t.ports.memReads (memPortOf s 32 * 1024) == some { rd with laddr := 32, req := none, entry := some 1 }) = true ∧
    r.ports.heldReqs = [] ∧ (∀ e ∈ r.ports.inReqs, e.2.ready = []) ∧ profile r ≠ 2 ∧ portUp r (.mem 0) = true ∧
    does (.memReadData 0 5 (zeroBytes 512) 1) r [.ports] (fun t => !thas t.ports.memReads 5 &&
      tget t.ports.inReqs 0 == some { ir with waiting := [1], done := [(0, stPoisoned, [])] }) = true ∧
    tget r.ports.memReads 6 = none ∧
    does (.memReadData 0 6 [] 0) r [.od] (fun t => setting t 0xB031 2 = 1 && odKept [obj 0xB031 2] r t) = true ∧
    idle (.memReadTimeout 0 5) r = true := by
  decide +kernel

/-- Premises of Obligations.ControllerAndMeshAnswers that can be met together, and what the commands then do. -/
theorem wit_ControllerAndMeshAnswers2 :
    let q := mreq 2 1 1 1 0 1 0x400 [] []
    let rd : MemRead := { laddr := 16, kidx := 1, lines := 1, req := some 0, firstLine := 0, entry := none, issueTick := 0 }
    let ir : InReq := { port := 0, q := q, partition := some 0, waiting := [0, 1], done := [], ctrs := [], ready := [] }
    let r := { meshy with ports.memReads := [(5, rd)], ports.inReqs := [(0, ir)] }
    let z := { r with tick := 1000 }
    let o : OutReq := { port := 0, purpose := .msi, addr := 0, len := 4, write := true, pasid := none, issueTick := 0 }
    let y := { meshy with ports.outReqs := [(7, o), (8, { o with purpose := .completion 0 0 [] })] }
    let x := { y with tick := 10000 }
    does (.memReadTimeout 0 5) z [.ports, .od] (fun t => !thas t.ports.memReads 5 && setting t 0xB031 3 = 1 &&
      tget t.ports.inReqs 0 == some { ir with waiting := [1], done := [(0, stPoisoned, [])] }) = true ∧
    unsentReq y 7 = false ∧ beatsOf 0 ≤ creditOf y.ports.granted (.mesh 0) 0 ∧
    does (.meshResponse 7 { status := 0, poison := false, data := [] }) y [.ports, .out] (fun t => !thas t.ports.outReqs 7 &&
      thas t.ports.outReqs 8 && t.out == [.credit (.mesh 0) 0 (beatsOf 0)]) = true ∧
    does (.meshResponse 8 { status := 0, poison := false, data := [] }) y [.ports, .out] (fun t => !thas t.ports.outReqs 8) = true ∧
    tget y.ports.outReqs 9 = none ∧ running y = true ∧
    does (.meshResponse 9 { status := 0, poison := false, data := [] }) y [.od] (fun t => setting t 0xB031 9 = 1 &&
      odKept [obj 0xB031 9] y t) = true ∧
    idle (.meshRspTimeout 7) y = true ∧ o.issueTick + setting x 0x7002 1 ≤ x.tick ∧
    does (.meshRspTimeout 7) x [.ports] (fun t => !thas t.ports.outReqs 7 && thas t.ports.outReqs 8) = true := by
  decide +kernel

/-! ### Pooled memory, the register window -/

def poolAddr : Nat := 2 * 2 ^ 52

/-- Premises of Obligations.PooledRequests that can be met together, and what the commands then do. -/
theorem wit_PooledRequests :
    let r := mreq 1 1 1 2 1 0 poolAddr [] []
    let s := pooled 0
    let u := pooled 1
    Arrives r s ∧ (mhdrOf r).tgt = 2 ∧ thas s.ports.inReqs s.ports.nextIn = false ∧
    poolBar s r = stDone ∧ poolTarget s (mhdrOf r) = some (1, region0, 0) ∧ (mhdrOf r).flag = false ∧
    sourceRoom s 3 0 = true ∧ portFull s r = false ∧ cached s (pinHandle 7 0) = true ∧ tagNeed r ≤ 65536 ∧
    missingLeaves s 1 r = [] ∧ nodesBooked s + levelsOf 21 * (poolLeaves r).length ≤ 8192 ∧
    (∀ i ∈ poolTouched r, lineBusy s 1 (poolLine r + i) = false) ∧
    (∀ i, i < reqLines r → (linePairs s 1 r).any (fun p => p.1 == i && p.2.2 == 0) = true) ∧ AnswerGoes 0 1 s ∧
    does (.meshFabricRead r) s [.keys, .ports, .tally, .fabric, .od, .out] (fun t =>
      (said s t).any (fun o => o == .meshRsp 0 0x81 3 9 0 false (zeroBytes 128)) && !thas t.ports.inReqs 0 &&
      t.tally.regions == s.tally.regions && t.fabric.out == [] && t.fabric.tray == s.fabric.tray) = true ∧
    (∀ p ∈ linePairs u 1 r, p.2.2 ≠ 0 ∧ p.2.2 ≠ 0xFFF) ∧ linePairs u 1 r ≠ [] ∧ poolBar u r = stDone ∧
    does (.meshFabricRead r) u [.keys, .log, .tension, .ports, .tally, .fabric, .links, .od, .out, .free] (fun t =>
      (tget t.ports.inReqs 0).map (fun x => (x.done, x.ctrs)) == some ([], linePairs u 1 r) &&
      (tget t.fabric.out 0).map (fun x => (x.msg, x.dst)) == some (1, 9)) = true := by
  decide +kernel

/-- Premises of Obligations.PooledRequests that can be met together, and what the commands then do. -/
theorem wit_PooledRequests2 :
    let w := mreq 1 2 1 2 1 0 poolAddr (zeroBytes 128) (List.replicate 128 true)
    let a := mreq 1 3 1 2 1 0 poolAddr (zeroBytes 128) (List.replicate 8 true ++ List.replicate 120 false)
    let f := mreq 1 4 1 2 1 0 0 [] []
    let s := pooled 0
    let e : FabSource := ⟨3, 0, 1, [0, 1, 0, 0], [none, none, none, none], 1, [], none⟩
    let v := { s with fabric.sources := [e] }
    Arrives w s ∧ poolBar s w = stDone ∧ (∀ i, i < reqLines w → fullLine w i = true) ∧ s.tally.lineWrites = [] ∧
    spanStuck s 1 w = [] ∧ s.fabric.out = [] ∧
    does (.meshFabricWrite w) s [.keys, .log, .tension, .ports, .tally, .fabric, .links, .od, .out, .free] (fun t =>
      (tget t.ports.inReqs 0).map (fun x => (x.done, x.ready.isEmpty)) == some ([], true) && lineBusy t 1 0 && lineBusy t 1 1 &&
      t.fabric.out.any (fun x => x.2.msg == 2 && x.2.dst == 9)) = true ∧
    Arrives a s ∧ poolBar s a = stDone ∧ (mhdrOf a).opc = 3 ∧
    does (.meshFabricAtomic a) s [.keys, .log, .tension, .ports, .tally, .fabric, .links, .od, .out, .free] (fun t =>
      (tget t.ports.inReqs 0).map (·.waiting) == some [0] && t.fabric.out.any (fun x => x.2.msg == 5 && x.2.dst == 9)) = true ∧
    Arrives f s ∧ poolFormOk f = true ∧ profile s = 0 ∧ ownEndpoint s ≠ 0 ∧ portFull s f = false ∧ sourceOf s 3 0 = none ∧
    does (.meshFabricFence f) s [.log, .ports, .fabric, .od, .out] (fun t =>
      (said s t).any (fun o => o == .meshRsp 0 0x84 3 9 0 false []) && !thas t.ports.inReqs 0 && t.fabric.out == []) = true ∧
    sourceOf v 3 0 = some e ∧ e.fences = [] ∧ 0 < nth e.counts e.gen 0 ∧
    does (.meshFabricFence f) v [.log, .ports, .fabric, .out] (fun t =>
      (tget t.ports.inReqs 0).map (fun x => (x.waiting, x.done)) == some ([0], []) &&
      (sourceOf t 3 0).map (fun x => (x.fences, x.gen, x.counts)) == some ([(0, 1)], 2, e.counts)) = true := by
  decide +kernel

/-- Premises of Obligations.RegisterWindow that can be met together, and what the commands then do. -/
theorem wit_RegisterWindow :
    let s := { up with dict.mailbox.reqLen := 20, dict.mailbox.kind := 0x05, dict.debugBox.reqLen := 4, dict.debugBox.kind := 0x06 }
    let b := { up with dict.mailbox.state := 1 }
    serviceUp s = true ∧ s.dict.mailbox.state ≠ 1 ∧ kindOk false s.dict.mailbox.kind = true ∧
    does (.mailboxGo 1) s [.dict] (fun t => t.dict.mailbox.state = 1 && t.dict.mailQ == [mailMsg s.dict.mailbox] &&
      t.dict.debugBox == s.dict.debugBox) = true ∧
    does (.mailboxGo 1) b [.od] (fun t => setting t 0xB0A0 6 = 1 && odKept [obj 0xB0A0 6] b t) = true ∧
    up.dict.mailbox.reqLen = 0 ∧ does (.mailboxGo 1) up [.od] (fun t => setting t 0xB0A0 6 = 1) = true ∧
    kindOk true s.dict.debugBox.kind = true ∧
    does (.debugMailboxGo 1) s [.dict] (fun t => t.dict.debugBox.state = 1 && t.dict.debugQ == [mailMsg s.dict.debugBox]) = true := by
  decide +kernel

/-- Premises of Obligations.RegisterWindow that can be met together, and what the commands then do. -/
theorem wit_RegisterWindow2 :
    let s := { up with dict.mailbox.reqLen := 20, dict.mailbox.kind := 0x05, dict.debugBox.reqLen := 4, dict.debugBox.kind := 0x06 }
    let q := mreq 5 1 2 0 0 0 0 [] []
    does (.registerWrite 0x13FF8 true 7) s [.dict] (fun t => tget t.dict.mailbox.reqBuf 2047 == some 7) = true ∧
    does (.registerWrite 0 true 0x7F0010) s [.dict] (fun t => t.dict.mailbox.reqLen = 16 && t.dict.mailbox.kind = 0x7F) = true ∧
    serviceUp State.reset = false ∧ idle (.registerWrite 0 true 1) State.reset = true ∧
    (mhdrOf q).tgt = 0 ∧ underCredit meshy q = true ∧ regForm q = none ∧ AnswerGoes 0 1 meshy ∧
    does (.meshRegisterRequestMalformed q) meshy [.ports, .out] (fun t =>
      (said meshy t).any (fun o => o == .meshRsp 0 0x81 3 9 stMalformed false (zeroBytes 128))) = true := by
  decide +kernel

/-! ### Link flit ports -/

def crossed : Link :=
  { noLink with phyUp := true, phyEn := true, allot := List.replicate 8 64 }

/-- Premises of Obligations.LinkPortStates that can be met together, and what the commands then do. -/
theorem wit_LinkPortStates :
    let d := linkIs fun _ => { noLink with state := 6, reason := 3 }
    let tr := linkIs fun _ => { crossed with state := 1, phyUp := false }
    let tr0 := { tr with domain.charter := none }
    let ho := linkIs fun _ => { noLink with state := 5 }
    0 < linkPortsOf netted.cfg ∧ (linkAt d 0).state ≠ 1 ∧
    does (.phyUpRise 0) d [.links] (fun t => linkAt t 0 == { linkAt d 0 with phyUp := true }) = true ∧
    (linkAt tr0 0).state = 1 ∧ canStitch tr0 = false ∧
    does (.phyUpRise 0) tr0 [.links] (fun t => (linkAt t 0).state = 2 && (linkAt t 0).credits == [4, 0, 0, 0, 0, 0, 0, 0] &&
      (linkAt t 0).owe == [60, 0, 0, 0, 0, 0, 0, 0]) = true ∧
    canStitch tr = true ∧ (linkAt tr 0).epochs = [] ∧ (linkAt tr 0).secretSlot = none ∧
    does (.phyUpFall 0) { d with links.ports := [(0, { noLink with state := 6, phyUp := true })] } [.links]
      (fun t => !(linkAt t 0).phyUp && (linkAt t 0).state = 6) = true ∧
    Calm netted ∧ netted.tension.units = [] ∧ (linkAt netted 0).state = 4 ∧
    does (.phyUpFall 0) netted [.keys, .tension, .tally, .fabric, .links] (fun t => (linkAt t 0).state = 5 &&
      !(linkAt t 0).phyEn && (linkAt t 0).epochs == [] && (linkAt t 0).queue == [] && (linkAt t 0).credits == List.replicate 8 0) = true ∧
    (linkAt ho 0).state = 5 ∧ (linkAt ho 0).phyUp = false := by
  decide +kernel

/-- Premises of Obligations.LinkPortStates that can be met together, and what the commands then do. -/
theorem wit_LinkPortStates2 :
    let d := linkIs fun _ => { noLink with state := 6, reason := 3 }
    let ho := linkIs fun _ => { noLink with state := 5 }
    let ds := linkIs fun _ => noLink
    does (.holdRetrain 0) ho [.links] (fun t => (linkAt t 0).state = 1 && (linkAt t 0).phyEn &&
      (linkAt t 0).allot == (List.range 8).map (fun v => setting ho 0x4007 (v + 1))) = true ∧
    idle (.holdRetrain 0) netted = true ∧
    Accepts rq 0x4004 1 [0] netted ∧
    writes (.linkAdminDown rq 0) netted rq 0x4004 1 [.keys, .tension, .tally, .fabric] [obj 0x4004 1] (fun t =>
      setting t 0x4004 1 = 0 && (linkAt t 0).state = 0 && !(linkAt t 0).phyEn && (linkAt t 0).epochs == []) = true ∧
    Accepts rq 0x4004 1 [1] ds ∧ (linkAt ds 0).state = 0 ∧ running ds = true ∧ ds.power.retention = false ∧ ds.power.quiesced = false ∧
    writes (.linkAdminUp rq 0) ds rq 0x4004 1 [] [obj 0x4004 1] (fun t => setting t 0x4004 1 = 1 && (linkAt t 0).state = 1 &&
      (linkAt t 0).phyEn) = true ∧
    Accepts rq 0x4003 1 (le 1 0) d ∧ (linkAt d 0).state = 6 ∧
    writes (.linkRelease rq 0) d rq 0x4003 1 [] [] (fun t => (linkAt t 0).state = 1 && (linkAt t 0).phyEn && (linkAt t 0).reason = 0) = true ∧
    refuses (.linkRelease rq 0) netted rq 0x4003 1 abState = true := by
  decide +kernel

/-- A flit whose header holds a number. -/
def flitOf (n : Nat) : Bytes := le 16 n ++ zeroBytes 240

/-- Premises of Obligations.FlitsReceived that can be met together, and what the commands then do. -/
theorem wit_FlitsReceived :
    let off := linkIs fun x => { x with phyEn := false }
    let dn := linkIs fun x => { x with phyUp := false }
    let cl := linkIs fun _ => { crossed with state := 2, credits := [4, 0, 0, 0, 0, 0, 0, 0], partnerCredits := [4, 0, 0, 0, 0, 0, 0, 0] }
    (linkAt off 0).phyEn = false ∧ idle (.groupReceive 0 []) off = true ∧ idle (.clearFlitReceive 0 []) off = true ∧
    (linkAt dn 0).phyEn = true ∧ (linkAt dn 0).phyUp = false ∧
    does (.ctrlFlitReceive 0 []) dn [.od] (fun t => setting t 0xB031 4 = 1 && odKept [obj 0xB031 4] dn t) = true ∧
    does (.rxFlitWhileDown 0) dn [.od] (fun t => setting t 0xB031 4 = 1 && odKept [obj 0xB031 4] dn t) = true ∧
    LinkQuiet 0 netted ∧ LinkQuiet 0 cl ∧
    does (.idleFlitReceive 0 (zeroBytes 256)) netted [.od] (fun t => setting t 0xB000 6 = 1 && odKept [obj 0xB000 6] netted t) = true := by
  decide +kernel

/-- Premises of Obligations.FlitsReceived that can be met together, and what the commands then do. -/
theorem wit_FlitsReceived2 :
    let cl := linkIs fun _ => { crossed with state := 2, credits := [4, 0, 0, 0, 0, 0, 0, 0], partnerCredits := [4, 0, 0, 0, 0, 0, 0, 0] }
    let cf := 4 * 2 ^ 4 * 0 + 5 * 2 ^ 68
    let cfl := slice (flitOf cf) 0 240 ++ le 4 (crc32c (slice (flitOf cf) 0 240)) ++ zeroBytes 12
    does (.idleFlitReceive 0 [1]) netted [.od, .links] (fun t => linkCounter t 0 5 = 1) = true ∧
    does (.rxFlitBad 0) netted [.od, .links] (fun t => linkCounter t 0 4 = 1 && (linkAt t 0).nakPending && (linkAt t 0).ackDue) = true ∧
    (linkAt netted 0).nakFor = none ∧
    does (.clearFlitReceive 0 cfl) netted [.od, .links] (fun t => linkCounter t 0 12 = 1) = true ∧
    (hdrOf cfl).vl = 0 ∧ num cfl 240 4 = crc32c (slice cfl 0 240) ∧ (slice cfl 16 224).all (· == 0) = true ∧ (hdrOf cfl).crdVl = 0 ∧
    does (.clearFlitReceive 0 cfl) cl [.od, .links] (fun t => nth (linkAt t 0).credits 0 0 = 9 &&
      nth (linkAt t 0).partnerCredits 0 0 = 3 && nth (linkAt t 0).owe 0 0 = 1) = true := by
  decide +kernel

/-- Premises of Obligations.FlitsReceived that can be met together, and what the commands then do. -/
theorem wit_FlitsReceived3 :
    let cl := linkIs fun _ => { crossed with state := 2, credits := [4, 0, 0, 0, 0, 0, 0, 0], partnerCredits := [4, 0, 0, 0, 0, 0, 0, 0] }
    let ctl := flitOf (3 + 2 ^ 13 + (2 ^ 24 - 1) * 2 ^ 40)
    does (.ctrlFlitReceive 0 ctl) cl [.od, .links] (fun t => linkCounter t 0 12 = 1) = true ∧
    Calm netted ∧ eparEpoch (linkAt netted 0) (hdrOf ctl).epar = some ⟨1, 8, 0, 0, 0, 0⟩ ∧ rebuild 0 (hdrOf ctl).gseq = some 0 ∧
    ctrlBad (hdrOf ctl) = false ∧ (hdrOf ctl).nak = 0 ∧
    takeAck netted.tick (hdrOf ctl).ack (linkAt netted 0) = (linkAt netted 0, false) ∧ (linkAt netted 0).tagTicks = [] ∧
    1 < setting netted 0x4000 7 ∧ 1 < setting netted 0x4000 8 ∧
    does (.groupReceive 0 [ctl]) cl [.od, .links] (fun t => linkCounter t 0 12 = 1) = true := by
  decide +kernel

/-- Premises of Obligations.FlitsReceived that can be met together, and what the commands then do. -/
theorem wit_FlitsReceived4 :
    let grp := flitOf (1 + 4 * 2 ^ 4 + 2 ^ 13 + (2 ^ 24 - 1) * 2 ^ 40)
    groupWhole [grp] = true ∧ (hdrOf grp).vl = 4 ∧ (hdrOf grp).keymode = 0 ∧ (hdrOf grp).cmark = 0 ∧ (hdrOf grp).cecho = 0 ∧
    (hdrOf grp).crdCnt = 0 ∧ takeAck netted.tick (hdrOf grp).ack (linkAt netted 0) = (linkAt netted 0, false) ∧
    1 ≤ nth (linkAt netted 0).partnerCredits 4 0 := by
  decide +kernel

/-- Premises of Obligations.FlitsFallDue that can be met together, and what the commands then do. -/
theorem wit_FlitsFallDue :
    let a := linkIs fun x => { x with ackDue := true }
    let c := linkIs fun _ => { crossed with state := 2, credits := [4, 0, 0, 0, 0, 0, 0, 0], owe := [3, 0, 0, 0, 0, 0, 0, 0] }
    let w := linkIs fun x => { x with owe := [0, 7, 0, 0, 0, 0, 0, 0] }
    let g : Sent := ⟨1, 0, [flitOf 1], false, []⟩
    let r := { linkIs (fun x => { x with replay := [g] }) with tick := 100000 }
    LinkQuiet 0 a ∧ (linkAt a 0).state = 4 ∧ txSeq (linkAt a 0) = some ⟨1, 8, 0, 0, 0, 0⟩ ∧
    0 + 1 + 2 ^ 20 < setting a 0x4000 1 ∧
    goes (exec (.ctrlFlitSendDue 0) a) (fun t => only [.links, .od, .out] a t && !(linkAt t 0).ackDue &&
      (txSeq (linkAt t 0)).map (·.txCtrl) == some 1 && setting t 0xB000 5 = 1 && t.out.length == 1) = true ∧
    idle (.ctrlFlitSendDue 0) netted = true ∧ LinkQuiet 0 c ∧ nth (linkAt c 0).owe 0 0 ≠ 0 ∧ nth (linkAt c 0).credits 0 0 ≠ 0 ∧
    goes (exec (.creditGroupSendDue 0) c) (fun t => only [.links, .od, .out] c t && nth (linkAt t 0).credits 0 0 = 3) = true ∧
    LinkQuiet 0 w ∧ (∃ c ∈ (linkAt w 0).owe, c ≠ 0) ∧ (linkAt w 0).replay = [] ∧
    goes (exec (.creditGroupSendDue 0) w) (fun t => (linkAt t 0).replay.length = 1 && linkCounter t 0 0 = 1) = true ∧
    LinkQuiet 0 r ∧ (linkAt r 0).replay ≠ [] ∧ (linkAt r 0).progressTick + setting r 0x4000 4 ≤ r.tick ∧
    (linkAt r 0).resends < setting r 0x4000 5 := by
  decide +kernel

/-- Premises of Obligations.FlitsFallDue that can be met together, and what the commands then do. -/
theorem wit_FlitsFallDue2 :
    let g : Sent := ⟨1, 0, [flitOf 1], false, []⟩
    let r := { linkIs (fun x => { x with replay := [g] }) with tick := 100000 }
    let h := { linkIs (fun x => { x with replay := [g], resends := 255 }) with tick := 100000 }
    let e := { netted with links.echoDue := [(9, 0)], tick := 10 }
    let k := { netted with links.cong := [(9, { rate := 32, halved := 0, raised := 0 })], tick := 100000 }
    does (.ackTimeoutResend 0) r [.links, .od, .out] (fun t => t.out == [.flits 0 [flitOf 1]] && (linkAt t 0).resends = 1 &&
      (linkAt t 0).progressTick = 100000 && linkCounter t 0 2 = 1 && (linkAt t 0).replay == [g]) = true ∧
    LinkQuiet 0 h ∧ setting h 0x4000 5 ≤ (linkAt h 0).resends ∧ Calm h ∧ h.tension.units = [] ∧
    does (.ackTimeoutResend 0) h [.keys, .tension, .tally, .fabric, .links] (fun t => (linkAt t 0).state = 5) = true ∧
    idle (.ackTimeoutResend 0) netted = true ∧ netted.tick < (linkAt netted 0).progressTick + setting netted 0x4000 4 ∧
    tget e.links.echoDue 9 = some 0 ∧ pickPort e 9 0 false = some 0 ∧ idle (.cmarkNopTimeout 9) { e with tick := 9 } = true ∧
    goes (exec (.cmarkNopTimeout 9) e) (fun t => only [.keys, .log, .tension, .tally, .links, .od, .out, .free] e t &&
      (said e t).any fun o => match o with
        | .fabric 0 m => decide (m.dstEp = 9 ∧ m.vl = 5 ∧ (fhdrOf m.hdr).msg = 0x0F)
        | _ => false) = true ∧
    tget k.links.cong 9 = some ⟨32, 0, 0⟩ ∧ 0 + setting k 0x4000 0xC ≤ k.tick ∧ idle (.cmarkRecoveryTick 9) { k with tick := 0 } = true ∧
    does (.cmarkRecoveryTick 9) k [.links] (fun t => tget t.links.cong 9 == some ⟨33, 0, 100000⟩) = true := by
  decide +kernel

def stitch0 : Stitch :=
  ⟨1, false, zeroBytes 132, [], [], [], [], 0, none, false⟩

/-- `netted` without a charter, link 0 in a handshake. -/
def stitching (y : Stitch) : State :=
  { netted with domain.charter := none, links.ports := [(0, { crossed with state := 3, stitch := some y })] }

/-- A KEY_SHARE of the right length with an empty certificate. -/
def share0 : Bytes := zeroBytes 6390

/-- Premises of Obligations.StitchHandshake that can be met together, and what the commands then do. -/
theorem wit_StitchHandshake :
    let a := stitching stitch0
    let c := { a with domain.memberSlot := none }
    let hi : Bytes := 2 :: (zeroBytes 35 ++ [1] ++ zeroBytes 95)
    let y : Stitch := { stitch0 with myHello := 2 :: (zeroBytes 35 ++ [2] ++ zeroBytes 95) }
    let b := stitching y
    let y2 := { stitch0 with step := 2 }
    let d := stitching y2
    let d2 := { d with domain.memberCert := [1], keys.keyDrbg := { live := false, requests := 0 } }
    LinkQuiet 0 a ∧ (linkAt a 0).state = 3 ∧ (linkAt a 0).stitch = some stitch0 ∧ hi.length = 132 ∧ num hi 0 1 = 2 ∧
    helloHash hi = helloCharter a ∧ helloCert hi ≠ helloCert y.myHello ∧ ofBe (helloCert hi) ≤ ofBe (helloCert y.myHello) ∧
    does (.stitchHello 0 hi) b [.links] (fun t => (linkAt t 0).stitch == some { y with hello := hi, initiator := false, step := 2 } &&
      (linkAt t 0).state = 3) = true ∧
    LinkQuiet 0 c ∧ ofBe (helloCert stitch0.myHello) < ofBe (helloCert hi) ∧ c.domain.memberSlot = none ∧
    does (.stitchHello 0 hi) c [.links] (fun t => (linkAt t 0).stitch == some { stitch0 with hello := hi, initiator := true, step := 2 }) = true ∧
    helloHash (patchBytes hi 131 [1]) ≠ helloCharter a ∧
    does (.stitchHello 0 (patchBytes hi 131 [1])) a [.links] (fun t => linkCounter t 0 14 = 1 && (linkAt t 0).state = 3) = true ∧
    LinkQuiet 0 d ∧ shareParts [] = none ∧ (linkAt d 0).stitchFails + 1 < setting d 0x4000 3 ∧ (linkAt d 0).epochs = [] ∧
    (linkAt d 0).secretSlot = none ∧ (shareParts share0).isSome = true ∧ (memberSeed d2).isSome = true := by
  decide +kernel

/-- Premises of Obligations.StitchHandshake that can be met together, and what the commands then do. -/
theorem wit_StitchHandshake2 :
    let y2 := { stitch0 with step := 2 }
    let d := stitching y2
    let d2 := { d with domain.memberCert := [1], keys.keyDrbg := { live := false, requests := 0 } }
    let d3 := { d with domain.memberCert := [1] }
    let y3 := { stitch0 with step := 3 }
    let f := { stitching y3 with keys.held := [], keys.pins := netted.keys.pins ++ [(8, pinOf 4 4 1 0x42 0 0)] }
    let y5 := { stitch0 with step := 5 }
    let g := { netted with links.ports := [(0, { linkUp0 with
      state := 3, stitch := some y5, epochs := [⟨1, 8, 0, 0, 1, 0⟩] })] }
    (samplerCert d2).isSome = true ∧ drbgServes d2 = false ∧ drbgServes d3 = true ∧ Calm d3 ∧ (freeSlot d3).isSome = true ∧
    LinkQuiet 0 f ∧ f.keys.held = [] ∧ (linksPin f).map (live f) = some true ∧ (freePin f).isSome = true ∧ Calm f ∧
    LinkQuiet 0 g ∧ (linkAt g 0).epochs = [⟨1, 8, 0, 0, 1, 0⟩] ∧ Calm g ∧ (linkAt g 0).partner = none ∧
    does (.stitchFinish 0 [0]) g [.links, .od, .out] (fun t => (linkAt t 0).state = 4 && (linkAt t 0).stitch == none &&
      (linkAt t 0).partner == some { ep := 0, port := 0, role := 1, certHash := zeroBytes 48 }) = true := by
  decide +kernel

/-- Premises of Obligations.StitchHandshake that can be met together, and what the commands then do. -/
theorem wit_StitchHandshake3 :
    let a := stitching stitch0
    let y5 := { stitch0 with step := 5 }
    let g := { netted with links.ports := [(0, { linkUp0 with
      state := 3, stitch := some y5, epochs := [⟨1, 8, 0, 0, 1, 0⟩] })] }
    let z := { a with tick := 10000000 }
    let z2 := { stitching { stitch0 with mismatch := true } with tick := 10000000 }
    ([1] : Bytes) ≠ le 1 (bit y5.initiator) ++ y5.t3 ∧ (linkAt g 0).stitchFails + 1 < setting g 0x4000 3 ∧ g.tension.units = [] ∧
    idle (.stitchTimeout 0) a = true ∧ LinkQuiet 0 z ∧ 0 + setting z 0x4000 2 ≤ z.tick ∧ LinkQuiet 0 z2 ∧
    setting z 0x4000 3 ≤ 3 ∧
    does (.stitchTimeout 0) { z with links.ports := [(0, { crossed with state := 3, stitch := some stitch0, stitchFails := 7 })] } [.fabric, .links]
      (fun t => linkCounter t 0 13 = 1 && (linkAt t 0).state = 6 && (linkAt t 0).reason = 3) = true := by
  decide +kernel

/-- Premises of Obligations.Rekeying that can be met together, and what the commands then do. -/
theorem wit_Rekeying :
    let x : Rekey := ⟨2, 0, 0, true, false, false, false⟩
    let s := { netted with keys.pins := netted.keys.pins ++ [(8, pinOf 4 4 1 0x42 0 0), (9, pinOf 8 5 1 0x52 0 0)] }
    let k := { s with links.ports := [(0, { linkUp0 with epochs := [⟨1, 9, 0, 0, 0, 0⟩, ⟨2, 10, 0, 0, 0, 0⟩], rekey := some x })] }
    let kr := { k with links.ports := [(0, { linkAt k 0 with replay := [⟨1, 0, [], false, []⟩] })] }
    let off := linkIs fun _ => noLink
    (linkAt s 0).counters.length = 20 ∧ Accepts rq 0x4006 1 (le 1 0) off ∧ linked off 0 = false ∧
    refuses (.rekeyNow rq 0) off rq 0x4006 1 abState = true ∧
    Accepts rq 0x4006 1 (le 1 0) s ∧ linked s 0 = true ∧ (linkAt s 0).rekey = none ∧ txSeq (linkAt s 0) = some ⟨1, 8, 0, 0, 0, 0⟩ ∧
    (linkAt s 0).queue = [] ∧ LinkQuiet 0 s ∧ (epochOf (linkAt (addHop 0 2 s) 0) 2).isSome = true ∧
    ofLe (le 4 7) ≠ 2 ∧ (linkAt s 0).protoTicks = [] ∧ 1 < setting s 0x4000 9 ∧
    does (.rekey 0 (le 4 7)) s [.links] (fun t => linkCounter t 0 10 = 1 && (linkAt t 0).protoTicks == [0]) = true ∧
    does (.rekeyAck 0 (le 4 2)) s [.links] (fun t => linkCounter t 0 10 = 1 && (linkAt t 0).state = 4) = true ∧
    linked kr 0 = true ∧ (linkAt kr 0).rekey = some x ∧ Calm kr := by
  decide +kernel

/-- Premises of Obligations.Rekeying that can be met together, and what the commands then do. -/
theorem wit_Rekeying2 :
    let x : Rekey := ⟨2, 0, 0, true, false, false, false⟩
    let s := { netted with keys.pins := netted.keys.pins ++ [(8, pinOf 4 4 1 0x42 0 0), (9, pinOf 8 5 1 0x52 0 0)] }
    let k := { s with links.ports := [(0, { linkUp0 with epochs := [⟨1, 9, 0, 0, 0, 0⟩, ⟨2, 10, 0, 0, 0, 0⟩], rekey := some x })] }
    let kr := { k with links.ports := [(0, { linkAt k 0 with replay := [⟨1, 0, [], false, []⟩] })] }
    let late := { k with tick := 1000 }
    ((linkAt kr 0).replay.any fun e => e.epoch == x.epoch - 1) = true ∧
    does (.rekeyAck 0 (le 4 2)) kr [.links] (fun t => (linkAt t 0).rekey == some { x with got := true } &&
      (linkAt t 0).epochs == (linkAt kr 0).epochs) = true ∧
    Calm k ∧ ((linkAt k 0).replay.any fun e => e.epoch == x.epoch - 1) = false ∧ (epochOf (linkAt k 0) 2).isSome = true ∧
    does (.rekeyAck 0 (le 4 2)) k [.links] (fun t => (linkAt t 0).rekey == some { x with got := true, txSwitched := true } &&
      (txSeq (linkAt t 0)).map (·.epoch) == some 2) = true ∧
    idle (.rekeyResendTimeout 0) k = true ∧ x.sentTick + 1000 ≤ late.tick ∧ x.resends < 3 ∧ (linkAt late 0).queue = [] ∧
    goes (exec (.rekeyResendTimeout 0) late) (fun t => only [.links, .od, .out] late t &&
      (said late t).contains (.linkMsg 0 5 (le 4 2)) &&
      (linkAt t 0).rekey.map (fun z => (z.epoch, z.resends, z.sentTick)) == some (2, 1, 1000)) = true ∧
    does (.rekeyResendTimeout 0) { late with links.ports := [(0, { linkAt k 0 with rekey := some { x with resends := 3 } })] }
      [.keys, .tension, .tally, .fabric, .links] (fun t => (linkAt t 0).state = 5 && linkCounter t 0 16 = 1) = true := by
  decide +kernel

/-! ### The panel, the flash port, the test port, fuses -/

/-- A member of a panel of four (GANG_ID 1) whose panel is in a state. -/
def gangs (panel : Nat) : State :=
  { up with pins.gangSize := 3, pins.gangId := 1, power.enabled := [.gangA, .gangB],
            gang := { Gang.reset with aUp := true, bUp := true, panel := panel } }

def frameOf (src seq : Nat) (b : GangBody) : GangFrame := { src := src, seq := seq, no := 5, body := b }

/-- Premises of Obligations.PanelExchange that can be met together, and what the commands then do. -/
theorem wit_PanelExchange :
    let g := gangs 0
    let k := frameOf 2 3 (.ack 7)
    let u := { gangs 1 with gang.unacked := [(7, (.a, k)), (8, (.b, k))] }
    let w := { gangs 1 with gang.seen := [(2, 3)] }
    let x := frameOf 2 1 (.exchange 2 4 0 8 77 [] 0 [])
    let y := frameOf 2 1 (.exchange 2 3 0 8 77 [] 0 [])
    let r := { g with seq.phase := 9, tick := 10000 }
    gangUsable up .a = false ∧ idle (.gangFrameReceive .a k) up = true ∧ gangUsable u .a = true ∧ tget u.gang.unacked 7 = some (.a, k) ∧
    does (.gangFrameReceive .a k) u [.gang] (fun t => t.gang.unacked == [(8, (.b, k))]) = true ∧
    (frameOf 2 3 (.invalidate 0x31)).seq ≤ tgetD w.gang.seen 2 0 ∧
    does (.gangFrameReceive .a (frameOf 2 3 (.invalidate 0x31))) w [.out] (fun t =>
      t.out == [.gang .a { src := 1, seq := 0, no := 0, body := .ack 5 }]) = true ∧
    gangUsable g .a = true ∧ memberId g = 1 ∧ panelSize g = 4 ∧ profile g = 0 ∧ bobbinsOf g.cfg = 8 ∧ tget g.gang.members 2 = none ∧
    tget g.gang.members 1 = none ∧
    goes (exec (.gangFrameReceive .a x) g) (fun t => only [.gang, .out] g t && t.gang.panel = 0 &&
      (tget t.gang.members 2).map (fun m => (m.size, m.profile, m.config, m.serial)) == some (4, 0, 8, 77)) = true ∧
    does (.gangFrameReceive .a y) g [.gang, .out] (fun t => t.gang.panel = 4 && t.gang.members == []) = true ∧
    r.seq.phase = 9 ∧ panelSize r ≠ 1 ∧ idle .gangRingTimeout { r with tick := 9999 } = true := by
  decide +kernel

/-- Premises of Obligations.PanelExchange that can be met together, and what the commands then do. -/
theorem wit_PanelExchange2 :
    let g := gangs 0
    let r := { g with seq.phase := 9, tick := 10000 }
    let f := { gangs 2 with domain.charter := none, keys.pins := up.keys.pins.eraseIdx 4 }
    let d := { g with seq.phase := 9, gang.aUp := false }
    does .gangRingTimeout r [.gang] (fun t => t.gang.panel = 4) = true ∧
    does (.gangLinkDown .a) { g with gang.aUp := false } [.gang] (fun t => !t.gang.aUp && t.gang.panel = 0) = true ∧
    does (.gangLinkDown .a) (gangs 1) [.gang, .od, .out] (fun t => t.gang.aBroken && t.gang.panel = 2 && t.gang.bUp &&
      setting t 0xB031 6 = 1 && odKept [obj 0xB031 6] (gangs 1) t) = true ∧
    gangUsable f .b = true ∧ hasDomain f = false ∧ f.domain.charter = none ∧ Calm f ∧
    goes (exec (.gangLinkDown .b) f) (fun t => t.gang.panel = 3 && t.gang.bBroken && !t.gang.bUp) = true ∧
    does (.gangLinkUp .b) { g with gang.bUp := false } [.gang] (fun t => t.gang.bUp) = true ∧
    d.seq.phase = 9 ∧ d.gang.aUp = false ∧ portUp d .gangA = true ∧
    goes (exec (.gangLinkUp .a) d) (fun t => t.gang.aUp && t.out.length == 1) = true := by
  decide +kernel

/-- Premises of Obligations.FlashAndTestPort that can be met together, and what the commands then do. -/
theorem wit_FlashAndTestPort :
    let f := { up with flash.reqs := [⟨1, 0x800100, some 3⟩, ⟨2, 0, none⟩], flash.user := [(3, [1]), (4, [2])] }
    let e := { up with flash.reqs := [⟨2, 0, none⟩] }
    let d := { up with tap.sel := 1 }
    let c := { up with fuses.lcWord := 0xFF }
    idle (.flashDone true) up = true ∧
    does (.flashDone false) f [.flash] (fun t => t.flash.reqs == [⟨2, 0, none⟩] && t.flash.user == f.flash.user) = true ∧
    does (.flashDone true) e [.flash, .od] (fun t => t.flash.reqs == [] && setting t 0xB031 7 = 1 && odKept [obj 0xB031 7] e t) = true ∧
    does (.flashDone true) f [.flash, .od] (fun t => t.flash.user == [(4, [2])] && setting t 0xB031 7 = 1) = true ∧
    4 ≤ up.seq.phase ∧ up.power.quiesced = false ∧
    does (.i3cDynamicAddress 9) up [.dict] (fun t => t.dict.i3cAddr = 9) = true ∧
    does .tapReset d [.tap] (fun t => t.tap.sel = 0) = true ∧ tapOpen up = true ∧ tapOpen c = false := by
  decide +kernel

/-- Premises of Obligations.FlashAndTestPort that can be met together, and what the commands then do. -/
theorem wit_FlashAndTestPort2 :
    let d := { up with tap.sel := 1 }
    let c := { up with fuses.lcWord := 0xFF }
    does (.tapInstructionLoad 0x30) up [.tap] (fun t => t.tap.sel = 2) = true ∧
    does (.tapInstructionLoad 0x20) c [.tap] (fun t => t.tap.sel = 3) = true ∧
    does (.tapInstructionLoad 0x55) up [.tap] (fun t => t.tap.sel = 3) = true ∧ idle .debugNop up = true ∧
    debugging up = false ∧ idle (.debugRead 1) up = true ∧ idle .debugHalt up = true ∧ debugging d = true ∧
    does (.debugRead (1 + 7 * 4)) d [.tap, .out, .free] (fun t => fld t.tap.dr.toNat 48 64 = 0 && fld t.tap.dr.toNat 0 48 = 29) = true ∧
    does .debugHalt d [.seq] (fun t => t.seq.halted) = true ∧
    does .debugResume { d with seq.halted := true } [.seq] (fun t => !t.seq.halted) = true := by
  decide +kernel

/-- Premises of Obligations.FuseBlows that can be met together, and what the commands then do. -/
theorem wit_FuseBlows :
    let s := { up with tap.sel := 2 }
    let b := { up with fuses.blow := some ⟨20, [3, 5], false, 0, none⟩ }
    let l := { up with fuses.blow := some ⟨20, [5], false, 0, none⟩ }
    let e := { up with fuses.blow := some ⟨8, [0], false, 1, some rq⟩ }
    s.tap.sel = 2 ∧ tapOpen s = true ∧ powerGood s = true ∧ fusesFree s = true ∧ unblown s 20 40 = [3, 5] ∧
    does (.fuseProgram 20 40) s [.fuses] (fun t => t.fuses.blow == some ⟨20, [3, 5], false, 0, none⟩) = true ∧
    idle (.fuseProgram 7 40) s = true ∧ idle (.fuseProgram 20 40) up = true ∧
    does (.fuseBlowDone true) b [.fuses] (fun t => fuseWord t 20 == 8 && fuseWord t 6 == fuseWord b 6 &&
      t.fuses.blow == some ⟨20, [5], false, 0, none⟩) = true ∧
    does (.fuseBlowDone true) l [.fuses] (fun t => fuseWord t 20 == 32 && t.fuses.blow == none) = true ∧
    goes (exec (.fuseBlowDone true) e) (fun t => told rq 2 0x2003 2 0 [] e t && t.fuses.blow == none && t.fuses.floor = 1) = true ∧
    does (.fuseBlowDone false) b [.fuses] (fun t => t.fuses.blow == some ⟨20, [3, 5], true, 0, none⟩) = true := by
  decide +kernel

/-- Premises of Obligations.FuseBlows that can be met together, and what the commands then do. -/
theorem wit_FuseBlows2 :
    let x := { up with fuses.blow := some ⟨20, [3, 5], true, 0, none⟩ }
    let m := { up with fw.epoch := 2 }
    does (.fuseBlowDone false) x [.fuses] (fun t => t.fuses.blow == none && t.fuses.words == x.fuses.words) = true ∧
    Accepts rq 0x2003 2 (le 1 65) up ∧ refuses (.raiseEpochFloor rq 65) up rq 0x2003 2 abRange = true ∧
    Accepts rq 0x2003 2 (le 1 2) m ∧ m.fuses.floor < 2 ∧
    does (.raiseEpochFloor rq 2) m [.fuses] (fun t => t.fuses.blow == some ⟨8, [0, 1], false, 1, some rq⟩) = true ∧
    Accepts rq 0x2003 1 (le 2 1) up ∧ refuses (.userFlashWipe rq 1) up rq 0x2003 1 abRange = true ∧
    Accepts rq 0x2003 1 (le 2 0x5749) up ∧ up.fuses.wipes ≠ 64 ∧
    does (.userFlashWipe rq 0x5749) up [.fuses] (fun t => t.fuses.blow == some ⟨7, [0], false, 2, some rq⟩) = true := by
  decide +kernel

/-! ### Firmware and life cycle -/

/-- Premises of Obligations.FirmwareStaging that can be met together, and what the commands then do. -/
theorem wit_FirmwareStaging :
    let g := { up with fw.total := 7509 }
    let c : Bytes := le 4 0 ++ le 2 2 ++ zeroBytes 2 ++ [7, 8] ++ zeroBytes 1022
    Accepts rq 0x9020 2 (le 4 7508) up ∧ refuses (.fwStageBegin rq 7508) up rq 0x9020 2 abRange = true ∧
    Accepts rq 0x9020 2 (le 4 7509) up ∧ powerGood up = true ∧ updating up = false ∧ up.fw.checking = false ∧
    refuses (.fwStageBegin rq 7509) { up with power.pfailLow := true } rq 0x9020 2 abState = true ∧
    writes (.fwStageBegin rq 7509) up rq 0x9020 2 [.flash, .fw] [] (fun t => t.fw.total = 7509 && t.fw.staged == [] &&
      tget t.flash.slots (inactiveSlot up) == some { arming := [], image := [] } && t.flash.user == up.flash.user &&
      (said up t).contains (.flash 2 (0x400000 * inactiveSlot up) 0x400000)) = true ∧
    Accepts rq 0x9020 3 c g ∧ num c 0 4 = g.fw.staged.length ∧ 0 < num c 4 2 ∧ num c 4 2 ≤ 1024 ∧ num c 0 4 + num c 4 2 ≤ g.fw.total ∧
    zeros c 6 2 = true ∧ zeros c (8 + num c 4 2) (1024 - num c 4 2) = true ∧ updating g = false ∧ g.fw.checking = false ∧
    writes (.fwStageChunk rq c) g rq 0x9020 3 [.flash, .fw] [] (fun t => t.fw.staged == [7, 8] &&
      (tget t.flash.slots (inactiveSlot g)).map (·.image) == some [7, 8] && t.flash.user == g.flash.user) = true := by
  decide +kernel

/-- Premises of Obligations.FirmwareStaging that can be met together, and what the commands then do. -/
theorem wit_FirmwareStaging2 :
    let g := { up with fw.total := 7509 }
    let c : Bytes := le 4 0 ++ le 2 2 ++ zeroBytes 2 ++ [7, 8] ++ zeroBytes 1022
    let d := { up with fw.total := 2, fw.staged := [7, 8] }
    let k := { d with fw.checking := true }
    refuses (.fwStageChunk rq c) d rq 0x9020 3 abRange = true ∧
    Accepts rq 0x9020 5 (le 1 1) g ∧ g.fw.staged.length < g.fw.total ∧ refuses (.fwStageCommit rq 1) g rq 0x9020 5 abState = true ∧
    Accepts rq 0x9020 5 (le 1 1) d ∧ updating d = false ∧
    writes (.fwStageCommit rq 1) d rq 0x9020 5 [.fw] [] (fun t => t.fw.checking && t.fw.status = 0xFF) = true ∧
    idle .fwStageCheckDone up = true ∧
    does .fwStageCheckDone k [.fw] (fun t => !t.fw.checking && !t.fw.staged_ok && t.fw.status ≠ 0 && t.fw.staged == [7, 8]) = true := by
  decide +kernel

/-- Premises of Obligations.FirmwareActivation that can be met together, and what the commands then do. -/
theorem wit_FirmwareActivation :
    let s := { up with fw.staged_ok := true }
    let w := { s with domain.pending := 2 }
    let b := { s with seq.basting := 2, seq.tamperHold := false }
    Accepts rq 0x9020 6 (le 1 1) up ∧ refuses (.fwActivate rq 1) up rq 0x9020 6 abState = true ∧
    Accepts rq 0x9020 6 (le 1 1) s ∧ powerGood s = true ∧ updating s = false ∧ basting s = false ∧
    w.domain.pending ≠ 0 ∧ updating w = false ∧
    goes (exec (.fwActivate rq 1) w) (fun t => told rq 2 0x9020 6 0 [] w t && t.domain.activationWaits && t.fw == w.fw &&
      only (.domain :: answerFields) w t) = true ∧
    s.domain.pending = 0 ∧ Calm s ∧
    goes (exec (.fwActivate rq 1) s) (fun t => told rq 2 0x9020 6 0 [] s t && t.fw.step = 3 && t.fw.status = 0xFF &&
      t.seq.mgmtReset && t.seq.lastMgmtCause = 3 && t.domain.state = 3 && t.domain.sessions == [] && t.dumps == [] &&
      keep [.cfg, .pins, .always, .power, .tap, .fuses, .lc, .sources, .gang, .purl, .patterns, .interval, .tick, .pending] s t) = true ∧
    Accepts ri 0x9020 6 (le 1 1) b ∧ basting b = true := by
  decide +kernel

/-- Premises of Obligations.FirmwareActivation that can be met together, and what the commands then do. -/
theorem wit_FirmwareActivation2 :
    let s := { up with fw.staged_ok := true }
    let b := { s with seq.basting := 2, seq.tamperHold := false }
    let x := { s with fw.step := 3, seq.mgmtReset := true }
    let l := { up with seq.phase := 7, tick := 50000 }
    goes (exec (.fwActivate ri 1) b) (fun t => t.always.lastResetCause = 8 && t.seq.phase = 0 && t.seq.basting = 0 && t.od == []) = true ∧
    x.fw.step = 3 ∧ x.fw.restoring = none ∧ Calm x ∧ imageStatus x (slotAt x (inactiveSlot x)).image ≠ stDone ∧
    goes (exec .activationFirmwareReady x) (fun t => t.fw.restoring == some (imageStatus x (slotAt x (inactiveSlot x)).image) &&
      t.seq.mgmtReset && t.fw.active = x.fw.active) = true ∧
    idle .activationFirmwareReady s = true ∧ basting l = false ∧ l.seq.since + 50000 ≤ l.tick ∧ l.always.failedStarts < 2 ∧
    goes (exec .firmwareReadyTimeout l) (fun t => t.always.lastResetCause = 7 && t.always.failedStarts = 1) = true ∧
    idle .firmwareReadyTimeout { l with tick := 49999 } = true := by
  decide +kernel

/-- Premises of Obligations.LifeCycleTransitions that can be met together, and what the commands then do. -/
theorem wit_LifeCycleTransitions :
    let o := { up with fuses.lcWord := 0xFF, fuses.words := [(6, 0xFF)] }
    let b := { up with lc := { progress := 2, target := 1, req := some rq } }
    Accepts rq 0x9010 4 (le 4 1) up ∧ refuses (.lcRequestClosed rq 1) up rq 0x9010 4 abRange = true ∧
    Accepts rq 0x9010 4 (le 4 0x4C430001) up ∧ (lcGoal up.fuses.lcWord 1).isSome = true ∧ powerGood up = true ∧ fusesFree up = true ∧
    updating up = false ∧ staging up = false ∧ Calm up ∧
    goes (exec (.lcRequestClosed rq 0x4C430001) up) (fun t => t.lc.progress = 2 && t.lc.target = 1 && t.keys.held == [] &&
      t.tension.closed && t.domain.memberSlot == none && thas t.domain.sessions 0 &&
      keep [.cfg, .pins, .seq, .always, .power, .tap, .fuses, .flash, .fw, .recovery, .sources, .gang, .tick, .pending] up t) = true ∧
    Accepts rq 0x9010 4 (le 4 0x4C430002) up ∧ granted up rq = 2 ∧ (lcGoal up.fuses.lcWord 2).isNone = true ∧
    refuses (.lcRequestOpen rq 0x4C430002) up rq 0x9010 4 abState = true ∧ (lcGoal o.fuses.lcWord 2).isSome = true ∧
    goes (exec (.lcRequestOpen rq 0x4C430002) o) (fun t => t.lc.progress = 2 && t.lc.target = 2) = true ∧
    b.lc.progress = 2 ∧ b.seq.deferred = none ∧ b.power.pfailLow = false ∧ b.lc.target ≠ 2 := by
  decide +kernel

/-- Premises of Obligations.LifeCycleTransitions that can be met together, and what the commands then do. -/
theorem wit_LifeCycleTransitions2 :
    let o := { up with fuses.lcWord := 0xFF, fuses.words := [(6, 0xFF)] }
    let b := { up with lc := { progress := 2, target := 1, req := some rq } }
    let w := { o with lc := { progress := 2, target := 2, req := some rq } }
    let d := { up with lc.progress := 3 }
    goes (exec (.lcBlowDone 0xFF) b) (fun t => told rq 2 0x9010 4 0 [] b t && t.always.lastResetCause = 6 && t.seq.phase = 0 &&
      plainFuse t 6 = 0xFF) = true ∧
    goes (exec (.lcBlowDone 0x7F) b) (fun t => told rq 2 0x9010 4 abState [] b t && plainFuse t 6 = 0x7F) = true ∧
    (lcGoal w.fuses.lcWord w.lc.target == some 0xFFFF) = true ∧ w.fuses.wipes < 64 ∧
    goes (exec (.lcBlowDone 0xFFFF) w) (fun t => t.lc.progress = 3 && plainFuse t 6 = 0xFFFF && t.flash.user == [] &&
      t.flash.banks == [] && t.fuses.blow == some ⟨7, [0], false, 4, none⟩) = true ∧
    idle (.lcBlowDone 0) up = true ∧ d.fuses.blow = none ∧
    goes (exec .lcWipeDone d) (fun t => t.always.lastResetCause = 6 && keep [.cfg, .tap, .tick, .out, .pending, .free] d t) = true ∧
    idle .lcWipeDone up = true := by
  decide +kernel

/-! ### The fabric and the tray -/

/-- An OWNED record of region 3 with 8 cells from 16, and a FREE one of region 4. -/
def owned0 : TrayRegion :=
  { state := 2, checked := false, ordered := true, sizeLog2 := 14, ownerEp := 9, epoch := 1, ownerJob := 0, cellBase := 16,
    cells := 8, dataBase := 0, metaBase := 4096, key := 6 }
def free0 : TrayRegion :=
  { state := 1, checked := false, ordered := false, sizeLog2 := 14, ownerEp := 0, epoch := 1, ownerJob := 0, cellBase := 0,
    cells := 0, dataBase := 9000, metaBase := 9500, key := 0 }
def tray : State :=
  { netted with pins.profile := 2, fabric.tray.regions := [(3, owned0), (4, free0)], fabric.tray.cells := [(17, 5)] }
def at3 : Nat := 3 * 2 ^ 52
def at4 : Nat := 4 * 2 ^ 52

def sending : List Field := sendFields
def line0 : PoolLine := ⟨List.replicate 64 7, List.replicate 8 9⟩

/-- Premises of Obligations.FabricMessages that can be met together, and what the commands then do. -/
theorem wit_FabricMessages :
    let m := fmsg 2 1 at3 0 4 0 0 0 6 [] [line0]
    let n := { m with dstEp := 7 }
    let sw := { netted with pins.profile := 1 }
    let lost := { sw with fabric.routes := [(0, { base := 9, mask := 0xFFFF, ports := 1, valid := true, epoch := 0 })] }
    idle (.poolWrite m) State.reset = true ∧ n.dstEp ≠ ownEndpoint tray ∧ profile tray ≠ 1 ∧ idle (.poolWrite n) tray = true ∧
    running sw = true ∧ profile sw = 1 ∧ n.dstEp ≠ ownEndpoint sw ∧
    pickPort sw 7 (fhdrOf n.hdr).tag ((fhdrOf n.hdr).ord == 1) = some 0 ∧
    does (.poolWrite n) sw sendFields (fun t => (said sw t).contains (.fabric 0 n)) = true ∧
    pickPort lost 7 (fhdrOf n.hdr).tag ((fhdrOf n.hdr).ord == 1) = none ∧ pickPort lost 9 (fhdrOf n.hdr).tag false = some 0 := by
  decide +kernel

/-- Premises of Obligations.FabricMessages that can be met together, and what the commands then do. -/
theorem wit_FabricMessages2 :
    let m := fmsg 2 1 at3 0 4 0 0 0 6 [] [line0]
    let n := { m with dstEp := 7 }
    let sw := { netted with pins.profile := 1 }
    let bad := { fmsg 2 1 at3 0 4 0 0 0 6 [] [] with vl := 3 }
    let lost := { sw with fabric.routes := [(0, { base := 9, mask := 0xFFFF, ports := 1, valid := true, epoch := 0 })] }
    let nop := fmsg 0x0F 5 0 0 4 0 0 0 0 [] []
    let rsp := fmsg 0x82 2 0 0 4 0 0 0 0 [] []
    does (.poolWrite n) lost sendFields (tells 0 0x82 stPeerGone true [] [] n lost) = true ∧
    msgOk bad = false ∧ (fhdrOf bad.hdr).msg = 2 ∧ bad.dstEp = ownEndpoint tray ∧
    does (.poolWrite bad) tray sendFields (fun t => setting t 0xB050 0xE = 1) = true ∧
    FabArrives nop 0x0F netted ∧ idle (.nopMsg nop) netted = true ∧ FabArrives rsp 0x82 netted ∧ matchRsp rsp netted = none ∧
    does (.writeRsp rsp) netted [.od] (fun t => setting t 0xB050 0xD = 1 && odKept [obj 0xB050 0xD] netted t) = true := by
  decide +kernel

/-- Premises of Obligations.TrayMemory that can be met together, and what the commands then do. -/
theorem wit_TrayMemory :
    let rd := fmsg 1 1 at3 0 4 0 0 0 6 [] []
    let no := fmsg 1 1 at4 0 4 0 0 0 6 [] []
    let px := { tray with fabric.tray.poison := [0] }
    FabArrives no 1 tray ∧ profile tray = 2 ∧ pickPort tray 9 4 false = some 0 ∧
    trayCheck tray no (fhdrOf no.hdr) = some (stOrphaned, 0xA) ∧
    does (.poolRead no) tray sendFields (fun t => setting t 0xB050 0xA = 1) = true ∧
    TrayAsked 0 1 rd owned0 px ∧ poisoned px (trayData owned0 (addrOffset (fhdrOf rd.hdr).addr)) 64 = true ∧
    does (.poolRead rd) px sendFields (tells 0 0x81 stPoisoned true [] [] rd px) = true ∧
    TrayAsked 0 1 rd owned0 tray ∧ poisoned tray 0 64 = false ∧
    does (.poolRead rd) tray sendFields (tells 0 0x81 stDone false [] [⟨zeroBytes 64, zeroBytes 8⟩] rd tray) = true := by
  decide +kernel

/-- Premises of Obligations.TrayMemory that can be met together, and what the commands then do. -/
theorem wit_TrayMemory2 :
    let wr := fmsg 2 1 (at3 + 64) 0 4 0 0 0 6 [] [line0]
    let mr := fmsg 3 1 at3 0 4 0 0 0 6 [] []
    let mw := fmsg 4 1 (at3 + 64) 0 4 0 0 0 6 (List.replicate 64 3) []
    TrayAsked 0 2 wr owned0 tray ∧ wr.lines.length = (fhdrOf wr.hdr).cnt + 1 ∧ Memory.wf tray.fabric.tray.mem = true ∧
    does (.poolWrite wr) tray (.fabric :: sendFields) (fun t => tells 0 0x82 stDone false [] [] wr tray t &&
      readPooled t owned0 64 == line0 && readPooled t owned0 0 == ⟨zeroBytes 64, zeroBytes 8⟩ &&
      t.fabric.tray.regions == tray.fabric.tray.regions && t.fabric.out == []) = true ∧
    TrayAsked 0 3 mr owned0 tray ∧
    does (.metaRead mr) tray sendFields (tells 0 0x83 stDone false (zeroBytes 64) [] mr tray) = true ∧
    TrayAsked 0 4 mw owned0 tray ∧
    does (.metaWrite mw) tray (.fabric :: sendFields) (fun t => tells 0 0x84 stDone false [] [] mw tray t &&
      Memory.readN t.fabric.tray.mem (trayMeta owned0 64) 64 == List.replicate 64 3 && Memory.wf t.fabric.tray.mem) = true := by
  decide +kernel

/-- Premises of Obligations.TrayCellsAndOwners that can be met together, and what the commands then do. -/
theorem wit_TrayCellsAndOwners3 :
    let a := fmsg 5 1 (at3 + 8) 0 4 0 0 0 6 (le 8 3 ++ zeroBytes 8) []
    let r := fmsg 5 1 (at3 + 8) 0 4 1 0 0 6 (le 8 3 ++ zeroBytes 8) []
    let h := { tray with fabric.tray.replay := [(9, [⟨4, 0, 5, 0, le 8 5 ++ zeroBytes 8, 0⟩])] }
    let full := { tray with fabric.tray.replay := (List.range 16).map fun i => (20 + i, []) }
    (replayed h a).isSome = true ∧ FabArrives a 5 h ∧
    does (.trayAtomic a) h sendFields (fun t => tells 0 0x85 0 false (le 8 5 ++ zeroBytes 8) [] a h t && setting t 0xB050 7 = 1) = true ∧
    replayed tray r = none ∧ (fhdrOf r.hdr).retry = 1 ∧ does (.trayAtomic r) tray sendFields (fun t => setting t 0xB050 8 = 1) = true ∧
    replayed full a = none ∧ tget full.fabric.tray.replay 9 = none ∧ 16 ≤ full.fabric.tray.replay.length ∧
    does (.trayAtomic a) full sendFields (fun t => setting t 0xB050 9 = 1) = true ∧
    replayed tray a = none ∧ (fhdrOf a.hdr).retry = 0 ∧ tget tray.fabric.tray.replay 9 = none ∧ TrayAsked 0 5 a owned0 tray ∧
    does (.trayAtomic a) tray (.fabric :: sendFields) (fun t => tells 0 0x85 0 false (le 8 5 ++ zeroBytes 8) [] a tray t &&
      cellAt t 17 == 8 && (replayed t a).isSome) = true := by
  decide +kernel

/-- Premises of Obligations.TrayCellsAndOwners that can be met together, and what the commands then do. -/
theorem wit_TrayCellsAndOwners4 :
    let c := fmsg 9 1 at4 0 4 0 0 0 0 (le 4 77 ++ [14, 2, 0, 0] ++ zeroBytes 8) []
    let d := fmsg 9 1 at3 0 4 0 0 0 0 (le 4 77 ++ [14, 2, 0, 0] ++ zeroBytes 8) []
    let x := fmsg 0xA 1 at3 0 4 0 0 0 6 (le 2 9 ++ le 2 11 ++ le 4 1 ++ le 4 88 ++ zeroBytes 4) []
    TrayAsked 0 9 c free0 tray ∧ num c.body 4 1 = 14 ∧ num c.body 6 2 = 0 ∧
    goes (exec (.ownClaim c) tray) (fun t => only (.fabric :: sendFields) tray t && trayRegion t 4 == some
      { free0 with state := 2, ownerEp := 9, epoch := 2, key := 77, checked := false, ordered := true }) = true ∧
    TrayAsked 0 9 d owned0 tray ∧ owned0.state ≠ 1 ∧
    does (.ownClaim d) tray (.fabric :: sendFields) (fun t => tells 0 0x88 stDenied false (ownBody owned0) [] d tray t &&
      t.fabric.tray.regions == tray.fabric.tray.regions) = true ∧
    TrayAsked 0 0xA x owned0 tray ∧ owned0.ownerEp = num x.body 0 2 ∧ owned0.epoch = num x.body 4 4 ∧ num x.body 2 2 ≠ 0 ∧
    goes (exec (.ownCas x) tray) (fun t => trayRegion t 3 == some { owned0 with ownerEp := 11, epoch := 2, key := 88 }) = true := by
  decide +kernel

/-- Premises of Obligations.TrayCellsAndOwners that can be met together, and what the commands then do. -/
theorem wit_TrayCellsAndOwners2 :
    let f := fmsg 0xA 1 at3 0 4 0 0 0 6 (le 2 9 ++ le 2 0 ++ le 4 1 ++ le 4 88 ++ zeroBytes 4) []
    let n := fmsg 0xA 1 at3 0 4 0 0 0 6 (le 2 9 ++ le 2 11 ++ le 4 2 ++ le 4 88 ++ zeroBytes 4) []
    let o := fmsg 8 1 at3 0 4 0 0 0 0 [] []
    let h := { tray with fabric.tray.replay := [(9, [⟨4, 0, 5, 0, le 8 5 ++ zeroBytes 8, 0⟩])] }
    TrayAsked 0 0xA f owned0 tray ∧ num f.body 2 2 = 0 ∧
    goes (exec (.ownCas f) tray) (fun t => trayRegion t 3 == some { owned0 with
      state := 1, ordered := false, ownerEp := 0, epoch := 2, cellBase := 0, cells := 0, key := 0 } && cellAt t 17 == 0) = true ∧
    TrayAsked 0 0xA n owned0 tray ∧ owned0.epoch ≠ num n.body 4 4 ∧
    does (.ownCas n) tray (.fabric :: sendFields) (tells 0 0x88 stDenied false (ownBody owned0) [] n tray) = true ∧
    TrayAsked 0 8 o owned0 tray ∧ does (.ownRead o) tray sendFields (tells 0 0x88 0 false (ownBody owned0) [] o tray) = true ∧
    does (.replayEntryExpire 9 4) { h with tick := 100000000 } [.fabric] (fun t => (tget t.fabric.tray.replay 9).getD [] == []) = true := by
  decide +kernel

/-- Premises of Obligations.TrayCellsAndOwners that can be met together, and what the commands then do. -/
theorem wit_TrayCellsAndOwners22 :
    let h := { tray with fabric.tray.replay := [(9, [⟨4, 0, 5, 0, le 8 5 ++ zeroBytes 8, 0⟩])] }
    let v : BitVec 128 := BitVec.ofNat 128 (5 + 14 * 2 ^ 16 + 700 * 2 ^ 24 + 900 * 2 ^ 64)
    let w : BitVec 128 := BitVec.ofNat 128 (3 + 14 * 2 ^ 16 + 700 * 2 ^ 24 + 900 * 2 ^ 64)
    does (.replayEntryExpire 9 4) h [.fabric] (fun t => (tget t.fabric.tray.replay 9).getD [] == [⟨4, 0, 5, 0, le 8 5 ++ zeroBytes 8, 0⟩]) = true ∧
    Accepts rq 0x5101 1 (le 16 v.toNat) tray ∧ fld v.toNat 12 4 = 0 ∧ fld v.toNat 16 8 = 14 ∧ trayRegion tray 5 = none ∧
    writes (.trayRegionProvision rq v) tray rq 0x5101 1 [.fabric] [] (fun t =>
      (trayRegion t 5).map (fun x => (x.state, x.sizeLog2, x.dataBase, x.metaBase)) == some (1, 14, 700, 900)) = true ∧
    refuses (.trayRegionProvision rq w) tray rq 0x5101 1 abState = true ∧
    Accepts rq 0x5101 2 (le 2 3) tray ∧
    writes (.trayRegionReset rq 3) tray rq 0x5101 2 [.fabric] [] (fun t =>
      (trayRegion t 3).map (fun x => (x.state, x.epoch, x.cells)) == some (1, 2, 0)) = true := by
  decide +kernel

/-! ### The requester -/

def freq (msg dst : Nat) (p : FabPurpose) : FabReq :=
  { seq := 0, msg := msg, dst := dst, vl := 1, era := none, port := 0, epoch := 0,
    hdr := fhdrWord ⟨msg, 32, 0, 0, 0, 4, 0, 0, 0, 0, 0, 0, 0, 0, 0, 0, 0⟩, body := [], partition := 0, source := none,
    order := 0, ordered := false, purpose := p, firstTick := 0, lastSend := 0, unsent := false }

def awaiting (q : MeshReq) (lines : List Nat) : InReq :=
  { port := 0, q := q, partition := some 0, waiting := lines, done := [], ctrs := [(0, 1, 1), (1, 1, 1)], ready := [] }

/-- `pooled 1` with one fabric request under TAG 4 and an inbound request 0. -/
def asked (r : FabReq) (x : InReq) : State :=
  { pooled 1 with fabric.out := [(4, r)], ports.inReqs := [(0, x)] }

def rdq : MeshReq := mreq 1 1 1 2 1 0 (2 * 2 ^ 52) [] []

/-- Premises of Obligations.FabricResponses that can be met together, and what the commands then do. -/
theorem wit_FabricResponses :
    let s := asked (freq 1 9 (.meshRead 0 0)) (awaiting rdq [0, 1])
    let r := fmsg 0x81 2 0 0 4 0 0 stDenied 0 [] []
    let e : FabSource := ⟨3, 0, 0, [2, 0, 0, 0], [none, none, none, none], 2, [], none⟩
    let w := { asked { freq 2 9 (.meshWrite 0 0) with source := some (3, 0, 0) } (awaiting (mreq 1 2 1 2 1 0 (2 * 2 ^ 52) [] []) [0, 1]) with
      fabric.sources := [e], tally.lineWrites := [(1, 0), (1, 1)] }
    let wr := fmsg 0x82 2 0 0 4 0 0 0 0 [] []
    RspFinds r 4 (freq 1 9 (.meshRead 0 0)) s ∧ FabArrives r 0x81 s ∧ poolTarget s (mhdrOf rdq) = some (1, region0, 0) ∧
    (awaiting rdq [0, 1]).ctrs.find? (fun c => c.1 == 0) = some (0, 1, 1) ∧ SameInc region0 r ∧
    does (.readRsp r) s [.ports, .tally, .fabric, .od] (fun t => t.fabric.out == [] &&
      (tget t.ports.inReqs 0).map (·.waiting) == some [1] && t.tally.nodes == s.tally.nodes && t.fabric.tray == s.fabric.tray) = true ∧
    RspFinds wr 4 { freq 2 9 (.meshWrite 0 0) with source := some (3, 0, 0) } w ∧ FabArrives wr 0x82 w ∧ sourceOf w 3 0 = some e := by
  decide +kernel

/-- Premises of Obligations.FabricResponses that can be met together, and what the commands then do. -/
theorem wit_FabricResponses2 :
    let e : FabSource := ⟨3, 0, 0, [2, 0, 0, 0], [none, none, none, none], 2, [], none⟩
    let w := { asked { freq 2 9 (.meshWrite 0 0) with source := some (3, 0, 0) } (awaiting (mreq 1 2 1 2 1 0 (2 * 2 ^ 52) [] []) [0, 1]) with
      fabric.sources := [e], tally.lineWrites := [(1, 0), (1, 1)] }
    let wr := fmsg 0x82 2 0 0 4 0 0 0 0 [] []
    let g := { region0 with state := 4 }
    let p := { asked (freq 3 9 (.probe 1)) (awaiting rdq [0, 1]) with tally.regions := [(1, g)], tally.nodes := [] }
    let mr := fmsg 0x83 2 0 0 4 0 0 0 0 (zeroBytes 64) []
    let n := { nodeOf 1 1 with state := 3, acks := 1 }
    let b := { asked (freq 4 9 (.writeBack 1 1 0 false false)) (awaiting rdq [0, 1]) with tally.nodes := [n] }
    let mw := fmsg 0x84 2 0 0 4 0 0 0 0 [] []
    (∀ nd, leafNode w 1 0 = some nd → nd.shadow = none) ∧
    does (.writeRsp wr) w [.ports, .tally, .fabric] (fun t => t.fabric.out == [] && t.tally.lineWrites == [(1, 1)] &&
      (tget t.ports.inReqs 0).map (fun x => (x.waiting, x.done)) == some ([1], [(0, stDone, [])]) &&
      (sourceOf t 3 0).map (fun x => (nth x.counts 0 0, x.fails)) == some (1, e.fails)) = true ∧
    RspFinds mr 4 (freq 3 9 (.probe 1)) p ∧ FabArrives mr 0x83 p ∧ regionAt p 1 = some g ∧ probeNode g = some 0 ∧ SameInc g mr ∧
    RspFinds mw 4 (freq 4 9 (.writeBack 1 1 0 false false)) b ∧ FabArrives mw 0x84 b ∧ nodeAt b 1 1 0 = some n := by
  decide +kernel

/-- Premises of Obligations.FabricResponses that can be met together, and what the commands then do. -/
theorem wit_FabricResponses3 :
    let n := { nodeOf 1 1 with state := 3, acks := 1 }
    let b := { asked (freq 4 9 (.writeBack 1 1 0 false false)) (awaiting rdq [0, 1]) with tally.nodes := [n] }
    let mw := fmsg 0x84 2 0 0 4 0 0 0 0 [] []
    let aq := mreq 1 3 1 2 1 0 (2 * 2 ^ 52) [] []
    let a := asked (freq 5 9 (.meshAtomic 0)) (awaiting aq [0])
    let ar := fmsg 0x85 2 0 0 4 0 0 0 0 (le 8 7 ++ zeroBytes 8) []
    does (.metaWriteRsp mw) b [.tally, .fabric] (fun t => t.fabric.out == [] &&
      nodeAt t 1 1 0 == some { n with state := 1, acks := 0 } && t.tally.regions == b.tally.regions) = true ∧
    RspFinds ar 4 (freq 5 9 (.meshAtomic 0)) a ∧ FabArrives ar 0x85 a ∧ internal aq = false ∧ AnswerGoes 0 1 a ∧
    poolTarget a (mhdrOf aq) = some (1, region0, 0) ∧
    does (.atomicRsp ar) a [.ports, .fabric, .out] (fun t => t.ports.inReqs == [] && t.fabric.out == [] &&
      (said a t).contains (.meshRsp 0 0x83 3 9 stDone false (le 8 7 ++ zeroBytes 120))) = true := by
  decide +kernel

/-- Premises of Obligations.FabricResponses that can be met together, and what the commands then do. -/
theorem wit_FabricResponses4 :
    let h := { region0 with state := 1, creator := some 1 }
    let c := { asked (freq 9 9 (.claim 1)) (awaiting rdq [0, 1]) with tally.regions := [(1, h)] }
    let ow := fmsg 0x88 2 0 0 4 0 0 0 0 (le 4 5 ++ le 4 3 ++ le 2 16 ++ zeroBytes 6) []
    let d := asked (freq 9 9 (.mirrorOwn 1)) (awaiting rdq [0, 1])
    RspFinds ow 4 (freq 9 9 (.claim 1)) c ∧ FabArrives ow 0x88 c ∧ regionAt c 1 = some h ∧
    does (.ownRsp ow) c [.dict, .tally, .fabric] (fun t => t.fabric.out == [] && regionAt t 1 == some
      { h with state := 2, ownerEpoch := 3, cells := 16, trayInc := some 0 } && perSession t 1 0x3101 5 = stDone) = true ∧
    RspFinds ow 4 (freq 9 9 (.mirrorOwn 1)) d ∧
    does (.ownRsp ow) d [.tally, .fabric] (fun t => t.fabric.out == [] && regionAt t 1 == some { region0 with mirrorInc := some 0 }) = true := by
  decide +kernel

/-- Premises of Obligations.RequesterTimersAndSettings that can be met together, and what the commands then do. -/
theorem wit_RequesterTimersAndSettings :
    let s := asked (freq 1 9 (.meshRead 0 0)) (awaiting rdq [0, 1])
    let l := { s with tick := 20000 }
    let a := { asked (freq 5 9 (.meshAtomic 0)) (awaiting rdq [0]) with tick := 20000 }
    tget s.fabric.out 4 = some (freq 1 9 (.meshRead 0 0)) ∧ idle (.remoteTimeout 4) s = true ∧ Settled l ∧
    setting l 0x5000 2 ≤ l.tick ∧ (fhdrOf (freq 1 9 (.meshRead 0 0)).hdr).cnt = 0 ∧ region0.state = 2 ∧ l.fabric.faults.length < 64 ∧
    markedGone l (freq 1 9 (.meshRead 0 0)) = false ∧
    does (.remoteTimeout 4) l [.ports, .tally, .fabric, .od] (fun t => t.fabric.out == [] &&
      (tget t.ports.inReqs 0).map (fun x => (x.waiting, x.done)) == some ([1], [(0, stTargetDead, [])]) &&
      t.fabric.faults.map (fun f => (f.dst, f.partition, f.status)) == [(9, 0, stTargetDead)] &&
      (regionAt t 1).map (·.state) == some 4 && setting t 0xB050 4 = 1 && odKept [obj 0xB050 4] l t) = true ∧
    idle (.atomicRetry 4) l = true ∧ setting a 0x5000 3 ≤ a.tick ∧ pickPort a 9 4 false = some 0 ∧
    does (.atomicRetry 4) a (.fabric :: sendFields) (fun t => (tget t.fabric.out 4).map (·.lastSend) == some 20000 &&
      setting t 0xB050 6 = 1 && (said a t).any fun o => match o with
        | .fabric 0 m => (fhdrOf m.hdr).retry == 1 && (fhdrOf m.hdr).msg == 5 && m.dstEp == 9
        | _ => false) = true := by
  decide +kernel

/-- Premises of Obligations.RequesterTimersAndSettings that can be met together, and what the commands then do. -/
theorem wit_RequesterTimersAndSettings2 :
    let d := { netted with links.ports := [] }
    let v : BitVec 96 := BitVec.ofNat 96 (1023 + 2 ^ 32 * 0xFF00 + 2 ^ 48 * 3 + 2 ^ 72)
    Accepts rq 0x5000 1 (le 2 0xFFFE) d ∧ Accepts rq 0x5000 1 (le 2 1) netted ∧ (∀ e ∈ d.links.ports, e.2.state ≠ 3 ∧ e.2.state ≠ 4) ∧
    writes (.endpointIdWrite rq 0xFFFE) d rq 0x5000 1 [] [obj 0x5000 1] (fun t => setting t 0x5000 1 = 0xFFFE) = true ∧
    (∃ e ∈ netted.links.ports, e.2.state = 3 ∨ e.2.state = 4) ∧ refuses (.endpointIdWrite rq 1) netted rq 0x5000 1 abState = true ∧
    Accepts rq 0x5011 1 (le 12 v.toNat) netted ∧ netted.fabric.out = [] ∧ fld v.toNat 48 18 < 2 ^ linkPortsOf netted.cfg ∧
    writes (.routeWrite rq v) netted rq 0x5011 1 [.fabric] [] (fun t => (tget t.fabric.routes 1023).map
      (fun x => (x.base, x.mask, x.ports, x.valid)) == some (0, 0xFF00, 3, true)) = true ∧
    Accepts rq 0x5011 1 (le 12 1024) netted ∧ refuses (.routeWrite rq 1024) netted rq 0x5011 1 abRange = true := by
  decide +kernel

/-- Premises of Obligations.HandOverOfferer that can be met together, and what the commands then do. -/
theorem wit_HandOverOfferer :
    let n := { hosted meshy (descOf 0x0B (le 2 1 ++ le 2 9)) with od := [] }
    let mig := { pooled 1 with tally.nodes := [{ nodeOf 0 1 with shadow := some (0, [], []) }] }
    let s := hosted mig (descOf 0x0B (le 2 1 ++ le 2 9))
    let o : Offer := ⟨1, 0, 9, 1, 6, zeroBytes 172, 1, 0, none, false⟩
    let w := { hosted netted (descOf 0x0B (le 2 1 ++ le 2 9)) with
      fabric.offers := [o], fabric.handovers := [0, 0, 0, 0], fabric.out := [(4, freq 0x0C 9 (.hoOffer 1))], tick := 10000000 }
    let g := { region0 with state := 3 }
    (descFor n 0 0x0B).isSome = true ∧ ownEndpoint n = 0 ∧
    does (.handoverOffer 0) n [.host] (fun t => (tget t.host.descs 0).map (·.outcome) == some (some (stDenied, 0, 0, 0))) = true ∧
    (descFor s 0 0x0B).isSome = true ∧ ownOrReserved s 9 = false ∧ ownEndpoint s ≠ 0 ∧ regionAt s 1 = some region0 ∧
    descPart s (descOf 0x0B (le 2 1 ++ le 2 9)) = 0 ∧ Settled s ∧ regionMigrating s 1 = true ∧
    does (.handoverOffer 0) s [.tally, .fabric] (fun t => regionAt t 1 == some g &&
      t.fabric.offers.map (fun o => (o.slot, o.desc, o.acceptor, o.step, o.epoch)) == [(1, 0, 9, 1, 1)]) = true ∧
    offerOf w 1 = some o ∧ idle (.offerTimeout 1) { w with tick := 0 } = true ∧ 0 + setting w 0x5000 5 ≤ w.tick ∧ regionAt w 1 = none ∧
    w.ports.heldReqs = [] ∧ w.fabric.offerTable = [] ∧ 2 < w.fabric.handovers.length ∧
    does (.offerTimeout 1) w [.tally, .fabric, .host] (fun t => t.fabric.tokens.map (fun x => (x.slot, x.offerer, x.peer, x.epoch)) ==
      [(1, true, 9, 1)] && t.fabric.handovers == [0, 0, 1, 0] && t.fabric.offers == [] &&
      (tget t.host.descs 0).map (·.outcome) == some (some (stTimeout, 0, 0, 0))) = true := by
  decide +kernel

/-- Premises of Obligations.HandOverOfferer that can be met together, and what the commands then do. -/
theorem wit_HandOverOfferer2 :
    let o : Offer := ⟨1, 0, 9, 1, 6, zeroBytes 172, 1, 0, none, false⟩
    let w := { hosted netted (descOf 0x0B (le 2 1 ++ le 2 9)) with
      fabric.offers := [o], fabric.handovers := [0, 0, 0, 0], fabric.out := [(4, freq 0x0C 9 (.hoOffer 1))], tick := 10000000 }
    let a := fmsg 0x8C 2 0 0 4 0 0 0 0 [] []
    let f := fmsg 0x8E 2 0 0 4 0 0 stDenied 0 [] []
    let g := { region0 with state := 3 }
    let x := { w with tally.regions := [(1, g)] }
    let k : HeldToken := ⟨1, true, 9, 1, 0, 0, 4, false⟩
    let y := { pooled 1 with fabric.tokens := [k], tick := 10000000 }
    matchRsp a w = some (4, freq 0x0C 9 (.hoOffer 1)) ∧ FabArrives a 0x8C w ∧
    does (.hoAccept a) w [.fabric, .host] (fun t => t.fabric.offers == [] && t.fabric.handovers == [1, 0, 0, 0] &&
      (tget t.host.descs 0).map (·.outcome) == some (some (stDone, 0, 0, 0))) = true ∧
    goes (exec (.hoAccept a) x) (fun t => (regionAt t 1).isNone && t.fabric.offers == []) = true ∧
    FabArrives f 0x8E x ∧ matchRsp f x = some (4, freq 0x0C 9 (.hoOffer 1)) ∧ regionAt x 1 = some g ∧
    does (.hoRefuse f) x [.tally, .fabric, .host] (fun t => regionAt t 1 == some region0 && t.fabric.handovers == [0, 1, 0, 0] &&
      (tget t.host.descs 0).map (·.outcome) == some (some (stDenied, 0, 0, 0))) = true ∧
    y.fabric.tokens.find? (fun t => t.slot == 1) = some k ∧ idle (.handoverResolveRetry 1) { y with tick := 0 } = true ∧
    0 + setting y 0x3000 5 ≤ y.tick ∧ regionAt y 1 = some region0 ∧ fabBar y 9 = stDone ∧ pickPort y 9 0 true = some 0 ∧
    goes (exec (.handoverResolveRetry 1) y) (fun t => only (.fabric :: sendFields) y t &&
      (tget t.fabric.out 0).map (fun x => (x.msg, x.dst, x.purpose, x.body)) ==
        some (0x0A, 9, .offerCas 1, casBody 5 5 1 0)) = true := by
  decide +kernel

/-- Premises of Obligations.HandOverAcceptor that can be met together, and what the commands then do. -/
theorem wit_HandOverAcceptor :
    let o := fmsg 0x0C 1 0 0 4 0 0 0 0 (zeroBytes 176) []
    let e : OfferEntry := ⟨9, none, some (0, 0), 0, none, none⟩
    let full := { netted with fabric.offerTable := (List.range 16).map fun i => { e with offerer := 20 + i, accept := none },
                              fabric.handovers := [0, 0, 0, 0] }
    let r := fmsg 0x0D 1 0 0 4 0 0 0 0 [] []
    let m := { netted with fabric.offerTable := [{ e with accept := none, slot := some 1 }, { e with offerer := 8 }] }
    let n := { netted with fabric.offerTable := [e] }
    let a := hosted netted (descOf 0x0C (le 2 9))
    FabArrives o 0x0C netted ∧ profile netted = 0 ∧ entryOf netted 9 = none ∧ netted.fabric.offerTable.length < 16 ∧
    does (.hoOffer o) netted [.fabric] (fun t => t.fabric.offerTable == [⟨9, some (4, 0, 1, zeroBytes 172), none, 0, none, none⟩]) = true ∧
    FabArrives o 0x0C full ∧ entryOf full 9 = none ∧ 16 ≤ full.fabric.offerTable.length ∧ pickPort full 9 4 false = some 0 ∧
    does (.hoOffer o) full (.fabric :: sendFields) (fun t => tells 0 0x8E stTableFull false [] [] o full t &&
      t.fabric.offerTable == full.fabric.offerTable && t.fabric.handovers == [0, 1, 0, 0]) = true ∧
    FabArrives r 0x0D m ∧ does (.hoRelease r) m [.fabric] (fun t => t.fabric.offerTable == [{ e with offerer := 8 }]) = true ∧
    FabArrives r 0x0D n ∧ idle (.hoRelease r) n = true ∧ (descFor a 0 0x0C).isSome = true ∧ entryOf a 9 = none := by
  decide +kernel

/-- Premises of Obligations.HandOverAcceptor that can be met together, and what the commands then do. -/
theorem wit_HandOverAcceptor2 :
    let e : OfferEntry := ⟨9, none, some (0, 0), 0, none, none⟩
    let a := hosted netted (descOf 0x0C (le 2 9))
    let b := { hosted netted (descOf 0x0C (le 2 9)) with fabric.offerTable := [{ e with accept := some (3, 0) }] }
    let x := { hosted netted (descOf 0x0C (le 2 9)) with fabric.offerTable := [e], tick := 10000000 }
    does (.handoverAccept 0) a [.fabric] (fun t => t.fabric.offerTable == [e]) = true ∧
    (descFor b 0 0x0C).isSome = true ∧ (∀ y ∈ b.fabric.offerTable, y.accept ≠ some (0, 0)) ∧
    does (.handoverAccept 0) b [.host] (fun t => (tget t.host.descs 0).map (·.outcome) == some (some (stTableFull, 0, 0, 0))) = true ∧
    entryOf x 9 = some e ∧ idle (.acceptWaitExpiry 9) { x with tick := 0 } = true ∧ 0 + setting x 0x5000 6 ≤ x.tick ∧
    does (.acceptWaitExpiry 9) x [.fabric, .host] (fun t => t.fabric.offerTable == [] &&
      (tget t.host.descs 0).map (·.outcome) == some (some (stTimeout, 0, 0, 0))) = true := by
  decide +kernel

/-- Premises of Obligations.RegionsAndTally that can be met together, and what the commands then do. -/
theorem wit_RegionsAndTally3 :
    let v : BitVec 128 := BitVec.ofNat 128 (14 * 2 ^ 8 + 9 * 2 ^ 32 + 3 * 2 ^ 64)
    let s := netted
    Accepts rq 0x3101 1 (le 16 (13 * 2 ^ 8)) s ∧ refuses (.regionCreate rq (BitVec.ofNat 128 (13 * 2 ^ 8))) s rq 0x3101 1 abRange = true ∧
    Accepts rq 0x3101 1 (le 16 v.toNat) s ∧ fld v.toNat 8 8 = 14 ∧ fld v.toNat 0 6 < partitionsOf s.cfg ∧
    tbit v.toNat 16 = false ∧ tbit v.toNat 17 = false ∧ fld v.toNat 6 2 = 0 ∧ fld v.toNat 19 5 = 0 ∧ fld v.toNat 76 4 = 0 ∧
    ownOrReserved s (fld v.toNat 32 16) = false ∧ s.recovery.quarantined = false ∧ partPin s 0 = some 5 ∧ rootRoom s 0 = true ∧
    heldRoom s 0 = true ∧ lowestFree s.tally.regions 2048 0 = some 0 ∧ freeKidx s 0 false = some 2 ∧ (keyDraw 36 true s).isSome = true ∧
    (freePin s).isSome = true ∧ fabBar s 9 = stDone ∧ s.fabric.out = [] ∧ pickPort s 9 0 false = some 0 := by
  decide +kernel

/-- Premises of Obligations.RegionsAndTally that can be met together, and what the commands then do. -/
theorem wit_RegionsAndTally4 :
    let s := netted
    let p := pooled 1
    let g := { region0 with state := 4 }
    let u := { p with tally.regions := [(1, g)], tick := 10000000 }
    (linkAt s 0).rekey = none ∧ (linkAt s 0).queue = [] ∧ 0 + 2 + 2 ^ 20 < setting s 0x4000 1 ∧
    Accepts rq 0x3101 3 (le 2 2047) s ∧ Settled s ∧ s.ports.inReqs = [] ∧ refuses (.regionRelease rq 2047) s rq 0x3101 3 abState = true ∧
    Accepts rq 0x3101 3 (le 2 1) p ∧ Settled p ∧ p.fabric.out = [] ∧ regionAt p 1 = some region0 ∧
    goes (exec (.regionRelease rq 1) p) (fun t => told rq 2 0x3101 3 0 [] p t && (regionAt t 1).isNone) = true ∧
    idle (.trayRetryProbe 1) p = true ∧ regionAt u 1 = some g ∧ u.fabric.tokens = [] ∧ probeNode g = some 0 ∧ fabBar u 9 = stDone ∧
    pickPort u 9 0 true = some 0 := by
  decide +kernel

/-- Premises of Obligations.RegionsAndTally that can be met together, and what the commands then do. -/
theorem wit_RegionsAndTally2 :
    let p := pooled 1
    let g := { region0 with state := 4 }
    let u := { p with tally.regions := [(1, g)], tick := 10000000 }
    let m := { p with tally.migrations := [(1, 0)], tally.nodes := (List.range 4).map fun k => nodeOf k 0 }
    let z := { up with od := [(obj 0x3000 4, 100)], tick := 100 }
    goes (exec (.trayRetryProbe 1) u) (fun t => only [.tally, .fabric, .log, .links, .od, .out] u t &&
      (tget t.fabric.out 0).map (fun x => (x.msg, x.dst, x.purpose)) == some (3, 9, .probe 1) &&
      regionAt t 1 == some { g with lastProbe := 10000000 }) = true ∧
    idle (.spanSwitchIn 1 0) p = true ∧ migQueued m 1 0 = true ∧ pathResident m 1 0 = true ∧ nodeAt m 1 0 0 = some (nodeOf 0 0) ∧
    (nodeOf 0 0).counters = majorOf (nodeOf 0 0) :: List.replicate 32 0 ∧ 0 < setting m 0x3000 1 ∧ Calm m ∧
    goes (exec (.spanSwitchIn 1 0) m) (fun t => only [.tally, .od] m t && t.tally.migrations == [] &&
      (nodeAt t 1 0 0).map (fun x => (majorOf x, x.state, x.shadow)) == some (2, 2, none) &&
      (regionAt t 1).map (·.spanRekeys) == some 1 && setting t 0xB033 0xC = 1) = true ∧
    idle .scrubTick { up with od := [(obj 0x3000 4, 0)] } = true ∧ setting z 0x3000 4 ≠ 0 ∧ z.tally.lastScrub + setting z 0x3000 4 ≤ z.tick ∧
    does .scrubTick z [.tally] (fun t => t.tally.lastScrub = 100) = true := by
  decide +kernel

/-- Premises of Obligations.RegionsAndTally that can be met together, and what the commands then do. -/
theorem wit_RegionsAndTally22 :
    let p := pooled 1
    Accepts rq 0x3000 8 (le 1 1) p ∧ (∀ n ∈ p.tally.nodes, n.state ≠ 2) ∧
    writes (.tallyFlush rq 1) p rq 0x3000 8 [] [] (fun t => t.tally == p.tally) = true ∧
    Accepts rq 0x3000 6 (le 1 1) up ∧ powerGood up = true ∧ (writeRecord recInterleave (le 1 1) up).isSome = true ∧
    refuses (.memInterleaveWrite rq 1) { up with power.pfailLow := true } rq 0x3000 6 abState = true ∧
    goes (exec (.memInterleaveWrite rq 1) up) (fun t => told rq 2 0x3000 6 0 [] up t && setting t 0x3000 6 = 1 &&
      thas t.flash.user recInterleave && t.ports.interleave = up.ports.interleave) = true := by
  decide +kernel

/-! ### Plaits -/

/-- Premises of Obligations.Plaits that can be met together, and what the commands then do. -/
theorem wit_PlaitRecords :
    let b := plBytes 1 0 10 9 []
    let bad := plBytes 1 0 0 9 []
    let i := plBytes 0 0 10 9 [8]
    let q := { netted with plaits := [(7, { bytes := b, run := none, last := none, leafStep := none, slots := [] })] }
    Accepts rq 0x6011 1 bad netted ∧ plaitRange netted bad = true ∧ refuses (.plaitCreate rq bad) netted rq 0x6011 1 abRange = true ∧
    Accepts rq 0x6011 1 b q ∧ plaitRange q b = false ∧ refuses (.plaitCreate rq b) q rq 0x6011 1 abState = true ∧
    Accepts rq 0x6011 1 i netted ∧ plaitRange netted i = false ∧ netted.recovery.quarantined = false ∧ netted.plaits.length < 1024 ∧
    (plRec i).leaf = false ∧ reserveSlots netted (plRec i) = some [[0, 1]] ∧
    writes (.plaitCreate rq i) netted rq 0x6011 1 [.plaits, .tension] [] (fun t => t.plaits ==
      [(7, { bytes := i, run := none, last := none, leafStep := none, slots := [[0, 1]] })] &&
      (tget t.tension.scratch 0).map (·.plait) == some (some 7)) = true ∧
    Accepts rq 0x6011 2 (le 2 7) netted ∧ refuses (.plaitDelete rq 7) netted rq 0x6011 2 abState = true ∧
    Accepts rq 0x6011 2 (le 2 7) q ∧ writes (.plaitDelete rq 7) q rq 0x6011 2 [.plaits, .tension] [] (fun t => t.plaits == []) = true := by
  decide +kernel

/-- Premises of Obligations.Plaits that can be met together, and what the commands then do. -/
theorem wit_PlaitDescriptors :
    let b := plBytes 1 0 10 9 []
    let d := descOf 2 (le 4 1 ++ le 4 1 ++ zeroBytes 16 ++ le 4 5 ++ le 8 77 ++ le 2 7)
    let n := hosted netted d
    let o := { n with host.objs := [(1, obj1)] }
    let q := { o with plaits := [(7, { bytes := b, run := none, last := none, leafStep := none, slots := [] })] }
    let l := { o with plaits := [(7, { bytes := b, run := none, last := some 5, leafStep := none, slots := [] })] }
    let r := { o with plaits := [(7, { bytes := b, run := some { step0 with step := 4 }, last := none, leafStep := none, slots := [] })] }
    (descFor n 0 2).isSome = true ∧ plaitAt n 7 = none ∧ thas n.host.xfers 0 = false ∧
    does (.plait 0) n [.host] (fun t => (tget t.host.descs 0).map (·.outcome) == some (some (stDenied, 0, 0, 0))) = true ∧
    (descFor q 0 2).isSome = true ∧ (plRec b).leaf = true ∧ (plRec b).part = descPart q d ∧ num d.bytes 44 2 = 7 ∧ num d.bytes 32 4 = 5 ∧
    (∀ h ∈ objHandles d, (objAt q (hIdx h)).kind = 1) ∧ idle (.plait 0) r = true ∧
    does (.plait 0) l [.host] (fun t => (tget t.host.descs 0).map (·.outcome) == some (some (stAborted, 0, 0, 0))) = true ∧
    (plRec b).op ≤ 2 ∧ 0 < chunkCount (plRec b) ∧ 0 < memBytes (plRec b).src (chunkN (plRec b) 0) ∧
    goes (exec (.plait 0) q) (fun t => only [.keys, .log, .tension, .ports, .tally, .fabric, .links, .plaits, .host, .od, .out, .free] q t &&
      (runOf t 7).map (fun y => (y.step, y.join, y.startTick, y.limit, y.desc)) ==
        some (5, 77, 0, plTimeout q (plRec b), some 0) && thas t.host.xfers 0) = true := by
  decide +kernel

/-- Premises of Obligations.Plaits that can be met together, and what the commands then do. -/
theorem wit_PlaitMessages :
    let s := plaited (plBytes 0 0 448 9 [8])
    let e := { s with plaits := [] }
    let late := pmsg 9 0x22 4 77 0 224 0 (zeroBytes 896)
    let odd := pmsg 9 0x22 5 78 0 224 0 (zeroBytes 896)
    let up := pmsg 8 0x21 5 77 0 224 1 (zeroBytes 896)
    let down := pmsg 9 0x22 5 77 0 224 0 (zeroBytes 896)
    idle (.plUp up) State.reset = true ∧ idle (.plUp { up with dstEp := 6 }) s = true ∧
    plaitAt e 7 = none ∧ does (.plDown down) e [.od] (fun t => setting t 0xB060 9 = 1 && odKept [obj 0xB060 9] e t) = true ∧
    plDirection (plRec (plBytes 0 0 448 9 [8])) late = true ∧ (phdrOf late.hdr).step < step0.step ∧
    does (.plDown late) s [.od] (fun t => setting t 0xB060 8 = 1 && odKept [obj 0xB060 8] s t) = true ∧
    (phdrOf odd.hdr).join ≠ step0.join ∧
    does (.plDown odd) s (.plaits :: .host :: sendFields) (fun t => (runOf t 7).isNone && (plaitAt t 7).map (·.last) == some (some 5) &&
      setting t 0xB060 7 = 1 && setting t 0xB060 3 = 1) = true := by
  decide +kernel

/-- Premises of Obligations.Plaits that can be met together, and what the commands then do. -/
theorem wit_PlaitMessages2 :
    let s := plaited (plBytes 0 0 448 9 [8])
    let two := plaited (plBytes 0 0 448 9 [8, 12])
    let up := pmsg 8 0x21 5 77 0 224 1 (zeroBytes 896)
    let down := pmsg 9 0x22 5 77 0 224 0 (zeroBytes 896)
    (∃ p, plaitAt two 7 = some p ∧ PlArrives up 0x21 p step0 two) ∧
    ((plRec (plBytes 0 0 448 9 [8, 12])).children.any fun c => c.1 != 8) = true ∧
    goes (exec (.plUp up) two) (fun t => only [.plaits] two t &&
      (runOf t 7).map (fun y => y.slots.map fun z => (z.chunk, z.from_, z.contrib)) == some [(0, [8], 1)]) = true ∧
    (∃ p, plaitAt s 7 = some p ∧ PlArrives down 0x22 p step0 s) ∧ downTwice s (phdrOf down.hdr) = false ∧
    (plRec (plBytes 0 0 448 9 [8])).children = [(8, 0, 0)] ∧ pickPort s 8 0 true = some 0 := by
  decide +kernel

/-- Premises of Obligations.Plaits that can be met together, and what the commands then do. -/
theorem wit_PlaitSteps :
    let s := plaited (plBytes 0 0 448 9 [8])
    let gg := plaited (plBytes 0 4 448 9 [8, 12])
    let down := pmsg 9 0x22 5 77 0 224 0 (zeroBytes 896)
    let cr := pmsg 9 0x23 5 77 0 0 0 []
    let rd := pmsg 8 0x24 5 77 0 0 1 []
    1 + downDone step0 < downTotal (plRec (plBytes 0 0 448 9 [8])) ∧
    goes (exec (.plDown down) s) (fun t => only (.plaits :: sendFields) s t && (runOf t 7).map (·.down) == some [(0, 0, 2)] &&
      (said s t).contains (.plait 0 { srcEp := 5, dstEp := 8, hdr := down.hdr, data := down.data })) = true ∧
    (∃ p, plaitAt s 7 = some p ∧ PlArrives cr 0x23 p step0 s) ∧
    goes (exec (.plCredit cr) s) (fun t => only (.plaits :: sendFields) s t && (runOf t 7).map (·.down) == some [(0, 0, 2)] &&
      (said s t).contains (.plait 0 { srcEp := 5, dstEp := 8, hdr := cr.hdr, data := [] })) = true ∧
    (∃ p, plaitAt gg 7 = some p ∧ PlArrives rd 0x24 p step0 gg) ∧
    goes (exec (.plReady rd) gg) (fun t => only [.plaits] gg t && (runOf t 7).map (fun y => (y.ready, y.leavesReady)) == some ([8], 1)) = true := by
  decide +kernel

/-- Premises of Obligations.Plaits that can be met together, and what the commands then do. -/
theorem wit_PlaitSteps2 :
    let s := plaited (plBytes 0 0 448 9 [8])
    let g := plaited (plBytes 0 4 448 9 [8])
    let w := { hosted s (descOf 2 []) with
      plaits := [(7, { bytes := plBytes 0 0 448 9 [8], run := some { step0 with desc := some 0 }, last := none, leafStep := none, slots := [] })] }
    let go := pmsg 9 0x25 5 77 0 0 0 []
    let ab := { pmsg 9 0x26 5 77 0 0 0 [] with hdr := phdrWord ⟨0x26, false, false, false, 7, 5, 0, stAborted, 0, 0, 0, 77⟩ }
    let wz := { w with tick := 1000 }
    (∃ p, plaitAt g 7 = some p ∧ PlArrives go 0x25 p step0 g) ∧
    goes (exec (.plGo go) g) (fun t => only (.plaits :: sendFields) g t && (runOf t 7).map (·.go) == some true) = true ∧
    (∃ p, plaitAt w 7 = some p ∧ PlArrives ab 0x26 p { step0 with desc := some 0 } w) ∧
    does (.plAbort ab) w (.plaits :: .host :: sendFields) (fun t => (runOf t 7).isNone &&
      (tget t.host.descs 0).map (·.outcome) == some (some (stAborted, 0, 0, 0))) = true ∧
    idle (.plaitStepTimeout 7) w = true ∧
    does (.plaitStepTimeout 7) wz (.plaits :: .host :: sendFields) (fun t => (runOf t 7).isNone && setting t 0xB060 5 = 1 &&
      (tget t.host.descs 0).map (·.outcome) == some (some (stAborted, 0, 0, 0))) = true := by
  decide +kernel

/-! ### Contexts, queues, memory objects, events, descriptors -/

/-- Premises of Obligations.ContextsAndQueues that can be met together, and what the commands then do. -/
theorem wit_Contexts :
    let v : BitVec 128 := BitVec.ofNat 128 (2 ^ 8 * 7 + 2 ^ 32 * 5)
    let n := { netted with host.ctxs := [(0, { ctx0 with ownerProc := 5 })] }
    let z := { netted with recovery.quarantined := true }
    Accepts rq 0x7101 1 (le 16 v.toNat) z ∧ refuses (.contextCreate rq v) z rq 0x7101 1 abState = true ∧
    Accepts rq 0x7101 1 (le 16 v.toNat) netted ∧ partPin netted 0 = some 5 ∧
    lowestSuch (fun c => ctxState netted c == 0) 8 0 = some 0 ∧
    writes (.contextCreate rq v) netted rq 0x7101 1 [.host] [] (fun t => ctxAt t 0 == some (newCtx 0 7 5) &&
      (t.host.ctxs.map (·.1)) == [0] && t.host.queues == netted.host.queues) = true ∧
    Accepts rq 0x7101 2 (le 2 0) netted ∧ refuses (.contextDestroy rq 0) netted rq 0x7101 2 abState = true ∧
    Accepts rq 0x7101 2 (le 2 0) n ∧ goes (exec (.contextDestroy rq 0) n) (fun t => told rq 2 0x7101 2 0 [] n t &&
      (ctxAt t 0).isNone && keep [.cfg, .pins, .seq, .always, .power, .fuses, .flash, .fw, .lc, .parts, .sources, .domain,
        .gang, .dumps] n t) = true ∧
    Accepts rq 0x7101 5 (le 4 5) netted ∧
    writes (.processRelease rq 5) netted rq 0x7101 5 [] [] (fun t => t.host == netted.host) = true ∧
    Accepts rq 0x7101 5 (le 4 5) n ∧ goes (exec (.processRelease rq 5) n) (fun t => told rq 2 0x7101 5 0 [] n t &&
      (ctxAt t 0).isNone) = true := by
  decide +kernel

/-- Premises of Obligations.ContextsAndQueues that can be met together, and what the commands then do. -/
theorem wit_Contexts2 :
    let n := { netted with host.ctxs := [(0, { ctx0 with ownerProc := 5 })] }
    let o := { netted with host.ctxs := [(0, { ctx0 with state := 2, faultReason := 3, spill := true })] }
    let p := { netted with host.ctxs := [(0, { ctx0 with overflow := [[1, 2], [3]] })] }
    Accepts rq 0x7101 4 (le 2 0) n ∧ refuses (.contextResume rq 0) n rq 0x7101 4 abState = true ∧
    Accepts rq 0x7101 4 (le 2 0) o ∧ executingCtx o 0 = false ∧
    (∀ k, k < 4 → pendingOf (queueAt o (4 * 0 + k)) = 0) ∧
    writes (.contextResume rq 0) o rq 0x7101 4 [.host] [] (fun t => ctxAt t 0 == some ctx0 &&
      t.host.queues == o.host.queues) = true ∧
    selectedQueue n rq = 0 ∧ pathUp n rq = true ∧ readGate n rq 0x7105 8 false = 0 ∧
    does (.overflowPop rq) n answerFields (fun t => told rq 1 0x7105 8 abState [] n t && odKept answerObjs n t) = true ∧
    pathUp p rq = true ∧ readGate p rq 0x7105 8 false = 0 ∧
    does (.overflowPop rq) p (.host :: answerFields) (fun t => told rq 1 0x7105 8 0 [1, 2] p t && odKept answerObjs p t &&
      ctxAt t 0 == some { ctx0 with overflow := [[3]] }) = true := by
  decide +kernel

/-- Premises of Obligations.ContextsAndQueues that can be met together, and what the commands then do. -/
theorem wit_Queues :
    let n := { netted with host.ctxs := [(0, ctx0)] }
    let a := { n with host.queues := [(0, { newQueue with state := 1, doorbell := 7 })] }
    Accepts rq 0x7104 3 (le (queueObjLen 3) 0x4000) n ∧ Accepts rq 0x7104 4 (le (queueObjLen 4) 9) n ∧
    Accepts rq 0x7104 5 (le (queueObjLen 5) 0x8000) n ∧ Accepts rq 0x7104 6 (le (queueObjLen 6) 7) n ∧
    Accepts rq 0x7104 3 (le (queueObjLen 3) 0x4000) a ∧
    refuses (.queueConfigWrite rq 3 0x4000) a rq 0x7104 3 abState = true ∧
    refuses (.queueConfigWrite rq 6 7) a rq 0x7104 6 abState = true ∧
    (selectedQueue n rq = 0 ∧ doorbellTaken n 0 7 = false) ∧
    writes (.queueConfigWrite rq 3 0x4000) n rq 0x7104 3 [.host] [] (fun t =>
      t.host == { n.host with queues := [(0, { newQueue with ringBase := 0x4000 })] }) = true ∧
    writes (.queueConfigWrite rq 4 9) n rq 0x7104 4 [.host] [] (fun t => queueAt t 0 == { newQueue with ringLog2 := 9 }) = true ∧
    writes (.queueConfigWrite rq 5 0x8000) n rq 0x7104 5 [.host] [] (fun t =>
      queueAt t 0 == { newQueue with complBase := 0x8000 }) = true := by
  decide +kernel

/-- Premises of Obligations.ContextsAndQueues that can be met together, and what the commands then do. -/
theorem wit_Queues2 :
    let n := { netted with host.ctxs := [(0, ctx0)] }
    let a := { n with host.queues := [(0, { newQueue with state := 1, doorbell := 7 })] }
    let h := { n with host.queues := [(0, { newQueue with state := 2, aliveNext := 4, doorbell := 7 })] }
    let e := { n with host.queues := [(0, { newQueue with state := 2, aliveNext := 0xFFFFFFFF })] }
    writes (.queueConfigWrite rq 6 7) n rq 0x7104 6 [.host] [] (fun t => queueAt t 0 == { newQueue with doorbell := 7 }) = true ∧
    Accepts rq 0x7104 0xA (le 1 1) a ∧ refuses (.queueRestart rq 1) a rq 0x7104 0xA abState = true ∧
    Accepts rq 0x7104 0xA (le 1 1) h ∧ Accepts rq 0x7104 0xA (le 1 1) e ∧
    writes (.queueRestart rq 1) h rq 0x7104 0xA [.host] [] (fun t => (queueAt t 0).state == 1 && t.host.ctxs == h.host.ctxs) = true ∧
    writes (.queueRestart rq 1) e rq 0x7104 0xA [.host] [] (fun t => (queueAt t 0).state == 3) = true ∧
    windowUp n = true ∧ partitionsOf n.cfg ≤ 64 ∧
    does (.doorbell 64 7 3) n [.od] (fun t => setting t 0xB031 0xA == 1 && odKept [obj 0xB031 0xA] n t) = true ∧
    does (.doorbell 0 7 3) n [.od] (fun t => setting t 0xB070 3 == 1 && odKept [obj 0xB070 3] n t) = true ∧
    does (.doorbell 0 7 3) h [.host] (fun t => queueAt t 0 == { newQueue with state := 2, aliveNext := 4, doorbell := 7, producer := 3 } &&
      t.host.ctxs == h.host.ctxs) = true := by
  decide +kernel

/-- Premises of Obligations.ContextsAndQueues that can be met together, and what the commands then do. -/
theorem wit_KeyImports :
    let q : Bytes := [0x53, 2, 0, 0] ++ le 4 9 ++ zeroBytes 4 ++ List.replicate 32 0xAA
    let b : Bytes := [0x54, 1, 0, 0] ++ zeroBytes 8 ++ List.replicate 32 0xAA
    let u := { netted with domain.sessions := [(0, { opr with id := 1 }), (1, opr)] }
    let n := { u with parts := [(0, { part0 with bound := some 1 })], host.ctxs := [(0, ctx0)] }
    securedUp u 1 = true ∧ boundPart u 1 = none ∧
    secures (.keyImportQueue 1 q) u 1 stDenied [] [] (fun _ => true) = true ∧
    secures (.keyImportBounce 1 b) u 1 stDenied [] [] (fun _ => true) = true ∧
    securedUp n 1 = true ∧ boundPart n 1 = some 0 ∧ importForm n [] = false ∧
    secures (.keyImportQueue 1 []) n 1 stMalformed [] [] (fun _ => true) = true := by
  decide +kernel

/-- Premises of Obligations.ContextsAndQueues that can be met together, and what the commands then do. -/
theorem wit_KeyImports2 :
    let q : Bytes := [0x53, 2, 0, 0] ++ le 4 9 ++ zeroBytes 4 ++ List.replicate 32 0xAA
    let b : Bytes := [0x54, 1, 0, 0] ++ zeroBytes 8 ++ List.replicate 32 0xAA
    let u := { netted with domain.sessions := [(0, { opr with id := 1 }), (1, opr)] }
    let n := { u with parts := [(0, { part0 with bound := some 1 })], host.ctxs := [(0, ctx0)] }
    secures (.keyImportBounce 1 []) n 1 stMalformed [] [] (fun _ => true) = true ∧
    importForm n q = true ∧ importForm n b = true ∧ partPin n 0 = some 5 ∧ heldRoom n 0 = true ∧ (freePin n).isSome = true ∧
    (pinAt n 5).childSerial < 0xFFFFFFFF ∧ Calm n ∧
    secures (.keyImportQueue 1 q) n 1 stDone [.keys, .host] [] (fun t => (queueAt t 2).state == 1 &&
      (queueAt t 2).aliveNext == 9 && live t (queueAt t 2).keyPin) = true ∧
    secures (.keyImportBounce 1 b) n 1 stDone [.keys, .host] [] (fun t =>
      (ctxAt t 0).map (·.bouncePins) == some [0, 7]) = true := by
  decide +kernel

/-- Premises of Obligations.ObjectsAndEvents that can be met together, and what the commands then do. -/
theorem wit_Objects :
    let n := { netted with host.ctxs := [(0, ctx0)] }
    let v : BitVec 256 := BitVec.ofNat 256 (2 ^ 18 + 2 ^ 64 * 0x1000 + 2 ^ 128 * 0x2000)
    let bad : BitVec 256 := BitVec.ofNat 256 (3 * 2 ^ 16 + 2 ^ 128)
    Accepts rq 0x7106 1 (le 32 bad.toNat) n ∧ refuses (.memobjCreate rq bad) n rq 0x7106 1 abRange = true ∧
    Accepts rq 0x7106 1 (le 32 v.toNat) n ∧ ctxReady n 0 = true ∧
    lowestSuch (fun i => (objAt n i).state == 0) 262143 1 = some 1 ∧
    writes (.memobjCreate rq v) n rq 0x7106 1 [.host] [] (fun t => t.host.objs ==
      [(1, { state := 1, kind := 0, read := true, write := false, ctx := 0, partition := 0, gen := 0, base := 0x1000,
             length := 0x2000, kidx := 0, dev := 0, host := 1 })] && t.host.events == n.host.events &&
      t.host.ctxs == n.host.ctxs) = true ∧
    Accepts rq 0x7106 3 (le 4 1) n ∧ refuses (.memobjFree rq 1) n rq 0x7106 3 abState = true := by
  decide +kernel

/-- Premises of Obligations.ObjectsAndEvents that can be met together, and what the commands then do. -/
theorem wit_Objects2 :
    let n := { netted with host.ctxs := [(0, ctx0)] }
    let o := { n with host.objs := [(1, obj1)] }
    let k := { n with host.objs := [(1, { obj1 with dev := 0 })] }
    Accepts rq 0x7106 3 (le 4 1) k ∧
    writes (.memobjFree rq 1) k rq 0x7106 3 [.host] [] (fun t => objAt t 1 == { noObj with gen := 1 }) = true ∧
    Accepts rq 0x7106 4 (le 4 1) n ∧ refuses (.memobjHostRef rq 1) n rq 0x7106 4 abState = true ∧
    Accepts rq 0x7106 4 (le 4 1) o ∧
    writes (.memobjHostRef rq 1) o rq 0x7106 4 [.host] [] (fun t => objAt t 1 == { obj1 with host := 2 }) = true := by
  decide +kernel

/-- Premises of Obligations.ObjectsAndEvents that can be met together, and what the commands then do. -/
theorem wit_Events :
    let n := { netted with host.ctxs := [(0, ctx0)] }
    let ev : Event := { noEvent with state := 1, hostSignal := true, host := 1, cookie := 99 }
    let one := fun (e : Event) => { n with host.events := [(1, e)] }
    let e := one ev
    let k : BitVec 128 := BitVec.ofNat 128 (2 ^ 16 + 2 ^ 64 * 99)
    Accepts rq 0x7107 1 (le 16 k.toNat) n ∧ lowestSuch (fun i => (eventAt n i).state == 0) 65535 1 = some 1 ∧
    writes (.eventCreate rq k) n rq 0x7107 1 [.host] [] (fun t => eventAt t 1 == ev && t.host.objs == n.host.objs) = true ∧
    Accepts rq 0x7107 3 (le 4 1) e ∧
    writes (.eventFree rq 1) e rq 0x7107 3 [.host] [] (fun t => eventAt t 1 == { noEvent with gen := 1 }) = true ∧
    Accepts rq 0x7107 4 (le 4 1) e ∧ eventFresh e 1 = true ∧
    writes (.eventHostRef rq 1) e rq 0x7107 4 [.host] [] (fun t => eventAt t 1 == { ev with host := 2 }) = true ∧
    windowUp n = true ∧ partLive n 0 = true ∧ eventFresh n 1 = false := by
  decide +kernel

/-- Premises of Obligations.ObjectsAndEvents that can be met together, and what the commands then do. -/
theorem wit_Events2 :
    let n := { netted with host.ctxs := [(0, ctx0)] }
    let ev : Event := { noEvent with state := 1, hostSignal := true, host := 1, cookie := 99 }
    let one := fun (e : Event) => { n with host.events := [(1, e)] }
    let e := one ev
    let on := one { ev with state := 2 }
    let sg : BitVec 64 := BitVec.ofNat 64 (1 + 2 ^ 32)
    let rs : BitVec 64 := BitVec.ofNat 64 (1 + 2 ^ 33)
    does (.windowSignal 0 sg) n [.od] (fun t => setting t 0xB070 4 == 1 && odKept [obj 0xB070 4] n t) = true ∧
    does (.windowReset 0 rs) n [.od] (fun t => setting t 0xB070 4 == 1 && odKept [obj 0xB070 4] n t) = true ∧
    does (.windowSignal 0 sg) e [.host, .log, .od] (fun t => (eventAt t 1).state == 2 && (eventAt t 1).sigStatus == stDone) = true ∧
    does (.windowReset 0 rs) on [.host] (fun t => eventAt t 1 == ev) = true ∧
    Accepts rq 0x7105 5 (le 4 1) n ∧ refuses (.faultEventWrite rq 1) n rq 0x7105 5 abState = true ∧
    Accepts rq 0x7105 5 (le 4 1) e ∧
    writes (.faultEventWrite rq 1) e rq 0x7105 5 [.host] [] (fun t => ctxAt t 0 == some { ctx0 with faultEvent := 1 } &&
      (eventAt t 1).dev == 1) = true := by
  decide +kernel

/-- Premises of Obligations.ObjectsAndEvents that can be met together, and what the commands then do. -/
theorem wit_SignalAndWait :
    let ev : Event := { noEvent with state := 1, hostSignal := true, host := 1, cookie := 99 }
    let sd := descOf 8 (le 4 1)
    let wd := { descOf 9 (le 4 1 ++ le 4 50) with bytes := le 4 0 ++ [9, 32, 0, 0] ++ le 4 1 ++ le 4 50 ++ zeroBytes 48 }
    let at_ := fun (e : Event) (d : Desc) => { hosted netted d with host.events := [(1, e)] }
    let on := { ev with state := 2, sigStatus := stDone }
    let out := fun (t : State) => (tget t.host.descs 0).map (·.outcome)
    let late := { at_ ev wd with tick := 60 }
    descFor (at_ ev sd) 0 8 = some sd ∧ isFence sd = false ∧ descFor (at_ on wd) 0 9 = some wd ∧ isFence wd = false ∧
    does (.signal 0) (at_ on sd) [.host] (fun t => out t == some (some (stDone, 0, 0, 0)) && t.host.events == [(1, on)]) = true ∧
    (∀ e ∈ (at_ ev sd).host.descs, waitsOn (hIdx (num sd.bytes 8 4)) e.2 = false) ∧
    does (.signal 0) (at_ ev sd) [.host, .log, .od] (fun t => out t == some (some (stDone, 0, 0, 0)) &&
      (eventAt t 1).state == 2 && (eventAt t 1).sigStatus == stDone) = true ∧
    idle (.wait 0) (at_ ev wd) = true ∧
    does (.wait 0) (at_ on wd) [.host, .log, .od] (fun t => out t == some (some (stDone, 99, 0, 0)) &&
      (eventAt t 1).state == 1) = true ∧
    idle (.waitTimeout 0) (at_ ev wd) = true ∧ (num wd.bytes 12 4 = 50 ∧ wd.startTick + 50 ≤ late.tick) ∧
    does (.waitTimeout 0) late [.host] (fun t => out t == some (some (stTimeout, 99, 0, 0)) && t.host.events == [(1, ev)]) = true := by
  decide +kernel

/-- Premises of Obligations.Descriptors that can be met together, and what the commands then do. -/
theorem wit_DescriptorStart :
    let nop := { descOf 0xE [] with started := false, order := 0 }
    let bad := { nop with badAlive := true }
    let q := fun (d : Desc) => { hosted netted d with host.queues := [(0, { newQueue with state := 1 })] }
    queueCands netted = [] ∧ chainCands netted = [] ∧ idle .descriptorStart netted = true ∧
    ((choose (q nop) (queueCands (q nop) ++ chainCands (q nop))).map (·.1.desc)) = some (some 0) ∧
    ((choose (q bad) (queueCands (q bad) ++ chainCands (q bad))).map (·.1.desc)) = some (some 0) ∧
    nop.outcome = none ∧ fieldsOk bad = false ∧ fieldsOk nop = true ∧ opc nop = 0x0E ∧
    does .descriptorStart (q bad) [.host] (fun t => tget t.host.descs 0 ==
      some { bad with started := true, startTick := 0, order := 1, outcome := some (stMalformed, 0, 0, 0) }) = true ∧
    does .descriptorStart (q nop) [.host] (fun t => tget t.host.descs 0 ==
      some { nop with started := true, startTick := 0, order := 1 }) = true := by
  decide +kernel

/-- Premises of Obligations.Descriptors that can be met together, and what the commands then do. -/
theorem wit_Copy :
    let d := descOf 1 (le 4 1 ++ le 4 1 ++ le 8 0 ++ le 8 0x1000 ++ le 8 0x80 ++ le 4 9)
    let n := { hosted netted d with host.objs := [(1, obj1)] }
    let x0 := newXfer (ctxSource 0) 1 9 false (some 0)
    let at_ := fun (x : XferRun) => { n with host.xfers := [(0, x)] }
    let got := { x0 with buf := List.replicate 0x80 7 }
    let fin := { x0 with pos := 0x80 }
    descFor n 0 1 = some d ∧ turns (.copy 0) 0 n { x0 with reads := [(1, 0, 0x80)] } = true ∧
    descFor (at_ got) 0 1 = some d ∧ xferIdle got = true ∧ got.wfail = none ∧ got.rfail = none ∧
    goes (exec (.copy 0) (at_ got)) (fun t => (tget t.host.xfers 0).map (·.pos) == some 0x80) = true ∧
    descFor (at_ fin) 0 1 = some d ∧ xferIdle fin = true ∧
    does (.copy 0) (at_ fin) [.host] (fun t => outcome0 t == some (stDone, 0x80, 0, 0)) = true := by
  decide +kernel

/-- Premises of Obligations.Descriptors that can be met together, and what the commands then do. -/
theorem wit_Chunks :
    let d := fun op pin => { descOf op (le 4 1 ++ le 4 1 ++ le 4 2 ++ le 8 0x4000 ++ le 4 5000) with pin := pin }
    let x0 := newXfer (ctxSource 0) 1 0 false (some 0)
    let at_ := fun op pin (x : XferRun) => { hosted netted (d op pin) with host.objs := [(1, obj1)], host.xfers := [(0, x)] }
    let fin := { x0 with pos := 2 }
    let one := { x0 with pos := 1 }
    let buf := { x0 with buf := List.replicate 4112 7 }
    (∀ op ∈ [3, 4, 0x10, 0x11], (descFor (at_ op 5 fin) 0 op).isSome = true ∧ (descFor (at_ op 99 one) 0 op).isSome = true ∧
      (descFor (at_ op 5 one) 0 op).isSome = true) ∧
    live (at_ 3 99 one) 99 = false ∧ live (at_ 3 5 one) 5 = true ∧ xferIdle fin = true ∧ xferIdle one = true ∧
    xferIdle buf = true ∧ chunksOf (num (d 3 5).bytes 28 4) = 2 ∧
    (∀ c ∈ [(3, Instr.sealChunks 0), (4, .unsealChunks 0), (0x10, .bounceIn 0), (0x11, .bounceOut 0)],
      does c.2 (at_ c.1 5 fin) [.host] (fun t => outcome0 t == some (stDone, 5000, 0, 0)) = true) ∧
    (∀ c ∈ [(3, Instr.sealChunks 0), (4, .unsealChunks 0), (0x10, .bounceIn 0), (0x11, .bounceOut 0)],
      does c.2 (at_ c.1 99 one) [.host, .od] (fun t => outcome0 t == some (stKeyGone, 4096, 0, 0)) = true) ∧
    (∀ c ∈ [(4, Instr.unsealChunks 0), (0x10, .bounceIn 0)],
      turns c.2 0 (at_ c.1 5 one) { one with reads := [(1, 0x3000, 904), (1, 0x4010, 16)] } = true) ∧
    (∀ c ∈ [(3, Instr.sealChunks 0), (0x11, .bounceOut 0)],
      turns c.2 0 (at_ c.1 5 one) { one with reads := [(1, 0x5000, 904)] } = true) ∧
    (chunkedOf 0 (d 3 5) (at_ 3 5 buf)).len 0 = 4096 ∧ (descFor (at_ 3 5 buf) 0 3).isSome = true ∧
    (descFor (at_ 4 5 buf) 0 4).isSome = true := by
  decide +kernel

/-- Premises of Obligations.Descriptors that can be met together, and what the commands then do. -/
theorem wit_AtomicNopDump :
    let a := descOf 6 (le 4 1 ++ le 8 64 ++ [0] ++ zeroBytes 3 ++ le 8 1 ++ le 8 0 ++ le 4 9)
    let p := descOf 0xD (le 4 1 ++ le 4 1 ++ le 8 0 ++ le 4 100)
    let x0 := newXfer (ctxSource 0) 1 9 false (some 0)
    let acc : Access := { handle := 1, off := 64, len := 8, write := true, lead := 0, got := none }
    let n := { hosted netted a with host.objs := [(1, { obj1 with kind := 2 })] }
    let m := { hosted netted p with host.objs := [(1, obj1)] }
    let u := { n with host.xfers := [(0, { x0 with acc := some acc })] }
    let g := { n with host.xfers := [(0, { x0 with acc := some { acc with got := some { st := stDone, good := 8, data := le 8 41 } } })] }
    let o := { m with host.xfers := [(0, { x0 with pos := 1 })] }
    descFor n 0 6 = some a ∧ goes (exec (.atomic 0) n) (fun t =>
      t == present (atomicReq 0 a { x0 with acc := some acc } (objAt n 1).kidx) u) = true ∧
    descFor g 0 6 = some a ∧ does (.atomic 0) g [.host] (fun t => outcome0 t == some (stDone, 41, 0, 0)) = true ∧
    (descFor (hosted netted (descOf 0xE [])) 0 0xE).isSome = true ∧
    does (.nop 0) (hosted netted (descOf 0xE [])) [.host] (fun t => outcome0 t == some (stDone, 0, 0, 0)) = true ∧
    descFor m 0 0xD = some p ∧ dumpMatch m (descPart m p) p = none ∧
    does (.dump 0) m [.host] (fun t => outcome0 t == some (stDone, 0, 0, 0)) = true ∧
    descFor o 0 0xD = some p ∧ dumpParts (num p.bytes 24 4) = 1 ∧
    does (.dump 0) o [.host, .od] (fun t => outcome0 t == some (stDone, 180, 0, 0) && setting t 0xB000 0xC == 1 &&
      odKept [obj 0xB000 0xC] o t) = true := by
  decide +kernel

/-- Premises of Obligations.Completions that can be met together, and what the commands then do. -/
theorem wit_Completions :
    let x := { descOf 0xE [] with outcome := some (stDone, 0, 0, 0) }
    let f := { descOf 0xE [] with outcome := some (stDenied, 0, 0, 0) }
    let q := fun (d : Desc) => { hosted netted d with host.queues := [(0, { newQueue with state := 1, complBase := 0x8000, consumer := 2, producer := 2 })],
                                                       recovery.hang := [(0, 5)] }
    tget (q x).host.descs 0 = some x ∧ writeDue (q x) 0 = false ∧ x.objs = [] ∧ x.evs = [] ∧ x.node = none ∧
    pendingOf (queueAt (q x) 0) = 0 ∧ fComplete x = false ∧
    does (.descriptorComplete 0) (q x) [.host, .ports, .recovery, .parts] (fun t => t.host.descs == [] &&
      tget t.recovery.hang 0 == some 0 && t.host.queues == (q x).host.queues && t.ports.outReqs == []) = true ∧
    tget (q f).host.descs 0 = some f ∧ writeDue (q f) 0 = false ∧ fCont f = false ∧ (queueAt (q f) 0).state = 1 ∧
    (q f).ports.outReqs = [] := by
  decide +kernel

/-- Premises of Obligations.Completions that can be met together, and what the commands then do. -/
theorem wit_Completions2 :
    let x := { descOf 0xE [] with outcome := some (stDone, 0, 0, 0) }
    let f := { descOf 0xE [] with outcome := some (stDenied, 0, 0, 0) }
    let q := fun (d : Desc) => { hosted netted d with host.queues := [(0, { newQueue with state := 1, complBase := 0x8000, consumer := 2, producer := 2 })],
                                                       recovery.hang := [(0, 5)] }
    let node := { x with node := some (0, 0, 0) }
    let la := { descOf 0xA [] with seq := 2 }
    let n := fun (l : Launch) => { netted with host.ctxs := [(0, ctx0)], host.descs := [(0, node), (1, la)],
                                               patterns.dir := [(0, pattern0)], patterns.launches := [(0, l)] }
    let l1 := { launch0 with chains := [some 0] }
    does (.descriptorComplete 0) (q f) [.host, .ports, .recovery, .parts, .od, .out] (fun t => t.host.descs == [] &&
      (queueAt t 0).state == 2 && setting t 0xB000 7 == 1 &&
      (tget t.ports.outReqs 0).map (fun y => (y.addr, y.write)) == some (0x8040, true)) = true ∧
    tget (n l1).host.descs 0 = some node ∧ writeDue (n l1) 0 = false ∧ patternAt (n l1) (launchPattern 0) = some pattern0 ∧
    (∀ e ∈ (n l1).host.descs, opc e.2 ≠ 9) ∧ (∀ e ∈ (n l1).host.descs, e.1 ≠ 0 → e.2.node = none) ∧
    does (.nodeComplete 0) (n l1) [.host, .ports, .recovery, .parts, .patterns] (fun t => t.host.descs == [(1, la)] &&
      tget t.patterns.launches 0 == some l1 && tget t.recovery.hang 0 == some 0) = true ∧
    does (.nodeComplete 0) (n launch0) [.host, .ports, .recovery, .parts, .patterns] (fun t =>
      t.host.descs == [(1, { la with outcome := some (stDone, 3, 0, 0) })] && t.patterns.launches == []) = true := by
  decide +kernel

/-! ### Patterns, partitions, tenants -/

/-- Premises of Obligations.PatternsAndLaunches that can be met together, and what the commands then do. -/
theorem wit_Patterns :
    let v : BitVec 128 := BitVec.ofNat 128 (3 + 2 ^ 64 * 0x4000)
    let z := { netted with recovery.quarantined := true }
    let p := { netted with patterns.dir := [(3, pattern0)] }
    Accepts rq 0x7201 1 (le 16 v.toNat) z ∧ refuses (.patternLoad rq v) z rq 0x7201 1 abState = true ∧
    Accepts rq 0x7201 1 (le 16 v.toNat) netted ∧ patternTorn netted 3 = false ∧ liveLaunches netted 3 = 0 ∧
    writes (.patternLoad rq v) netted rq 0x7201 1 [.patterns] [obj 0xB071 1] (fun t =>
      patternAt t 3 == some loadingPattern && t.patterns.nextLoad == 1 && setting t 0xB071 1 == 1 &&
      (tget t.patterns.loads 0).map (fun l => (l.pattern, l.addr, l.got)) == some (3, 0x4000, [])) = true ∧
    Accepts rq 0x7201 2 (le 1 3) netted ∧ refuses (.patternDelete rq 3) netted rq 0x7201 2 abState = true ∧
    Accepts rq 0x7201 2 (le 1 3) p ∧ liveLaunches p 3 = 0 ∧
    writes (.patternDelete rq 3) p rq 0x7201 2 [.patterns] [] (fun t => t.patterns.dir == []) = true := by
  decide +kernel

/-- Premises of Obligations.PatternsAndLaunches that can be met together, and what the commands then do. -/
theorem wit_PatternPatch :
    let v : Bytes := [2, 3] ++ zeroBytes 166
    let w : Bytes := [1, 3] ++ zeroBytes 166
    let p := { netted with patterns.dir := [(3, pattern0)], host.ctxs := [(0, { ctx0 with bouncePins := [5, 0] })] }
    Accepts rq 0x7201 3 w netted ∧
    writes (.patternPatch rq w) netted rq 0x7201 3 [] [obj 0xB071 3, obj 0xB071 4] (fun t =>
      perSession t 1 0x7201 4 == stMalformed && setting t 0xB071 3 == 1 && setting t 0xB071 4 == 1) = true ∧
    sessOf rq = some 1 ∧ Accepts rq 0x7201 3 v netted ∧ zeros v 10 6 = true ∧
    writes (.patternPatch rq v) netted rq 0x7201 3 [] [obj 0xB071 3, obj 0xB071 4] (fun t =>
      perSession t 1 0x7201 4 == stDenied) = true ∧
    Accepts rq 0x7201 3 v p ∧ patternPin p 0 = 5 ∧ live p 5 = true ∧ patternFloor p 0 = 0 := by
  decide +kernel

/-- Premises of Obligations.PatternsAndLaunches that can be met together, and what the commands then do. -/
theorem wit_Launches :
    let x := descOf 0xA [3]
    let n := hosted netted x
    let p := { n with patterns.dir := [(3, { pattern0 with params := [9] })] }
    let full := { p with patterns.launches := (List.range 16).map fun k => (48 + k, launch0) }
    descFor n 0 0xA = some x ∧ x.launch = none ∧ launchOk x = true ∧
    does (.launch 0) n [.host, .patterns] (fun t => outcome0 t == some (stDenied, 0, 0, 0) && t.patterns.launches == []) = true ∧
    freeLaunch p 3 = some 0 ∧
    does (.launch 0) p [.host, .patterns, .od] (fun t => tget t.patterns.launches 48 ==
        some { launch0 with desc := 0, launchNo := 2, params := [9], chains := [some 0] } &&
      (tget t.host.descs 0).map (·.launch) == some (some 48) && (patternAt t 3).map (·.launches) == some 2 &&
      setting t 0xB071 5 == 1 && odKept [obj 0xB071 5] p t) = true ∧
    freeLaunch full 3 = none ∧ fBusyWait x = false ∧
    does (.launch 0) full [.host, .patterns, .od] (fun t => outcome0 t == some (stPatternBusy, 0, 0, 0) &&
      setting t 0xB071 6 == 1 && t.patterns.launches == full.patterns.launches) = true := by
  decide +kernel

/-- Premises of Obligations.PartitionLifetimes that can be met together, and what the commands then do. -/
theorem wit_PartitionCreate :
    let v : Bytes := slice ([1, 0] ++ le 2 8 ++ le 2 8 ++ le 2 9 ++ le 2 8 ++ le 2 4 ++ le 2 8 ++ [4, 0] ++ le 2 4 ++ le 2 64 ++
      le 2 64 ++ zeroBytes 10 ++ List.replicate 48 7 ++ zeroBytes 16) 0 96
    let bad : Bytes := slice ([1, 0] ++ le 2 8 ++ zeroBytes 92) 0 96
    let mine : Bytes := [0] ++ slice v 1 95
    let both : Bytes := slice v 0 2 ++ le 2 4 ++ slice v 4 92
    Accepts rq 0x7301 1 bad netted ∧ createRange netted bad = true ∧ refuses (.partitionCreate rq bad) netted rq 0x7301 1 abRange = true ∧
    Accepts rq 0x7301 1 mine netted ∧ createRange netted mine = false ∧
    refuses (.partitionCreate rq mine) netted rq 0x7301 1 abState = true ∧
    Accepts rq 0x7301 1 both netted ∧ createRange netted both = false ∧ createBusy netted (partOfBytes both) = true ∧
    refuses (.partitionCreate rq both) netted rq 0x7301 1 abBusy = true ∧
    Accepts rq 0x7301 1 v netted ∧ createRange netted v = false ∧ createBusy netted (partOfBytes v) = false ∧
    (seedPin netted).isSome = true ∧ freePin netted = some 7 ∧
    writes (.partitionCreate rq v) netted rq 0x7301 1 [.keys, .parts] [] (fun t =>
      tget t.parts 1 == some { partOfBytes v with pin := 7, serial := 1 } && (pinAt t 7).state == 1 &&
      (pinAt t 7).purpose == 0x40 && (pinAt t 7).objA == 1 && t.keys.held == netted.keys.held) = true := by
  decide +kernel

/-- Premises of Obligations.PartitionLifetimes that can be met together, and what the commands then do. -/
theorem wit_PartitionEnds :
    Accepts rq 0x7301 2 (le 1 63) netted ∧ partitionsOf netted.cfg ≤ 63 ∧
    refuses (.partitionReset rq 63) netted rq 0x7301 2 abRange = true ∧
    Accepts rq 0x7301 3 (le 1 1) netted ∧ partLive netted 1 = false ∧
    refuses (.partitionRemove rq 1) netted rq 0x7301 3 abState = true ∧
    writes (.partitionReset rq 0) netted rq 0x7301 2 [.parts] [] (fun t =>
      (tget t.parts 0).map (fun p => (p.state, p.step, p.drainUntil)) == some (2, 1, 0 + (if setting netted 0x7301 4 = 1 then 0 else 2))) = true ∧
    writes (.partitionRemove rq 0) netted rq 0x7301 3 [.parts] [] (fun t =>
      (tget t.parts 0).map (fun p => (p.state, p.step)) == some (3, 1)) = true ∧
    idle (.teardownSquash 1) netted = true ∧ idle (.teardownReseed 1) netted = true ∧ idle (.teardownSquash 0) netted = true := by
  decide +kernel

/-- Premises of Obligations.PartitionLifetimes that can be met together, and what the commands then do. -/
theorem wit_PartitionEnds2 :
    let r := { netted with parts := [(0, { part0 with state := 2, step := 6, resets := 2 })] }
    let g := { up with parts := [(0, { part0 with state := 3, step := 1 })],
                       sources := [(0, { partition := 0, srcId := 3, valid := true, confirmed := true })] }
    let h := { g with parts := [(0, { part0 with state := 2, step := 1 })] }
    idle (.teardownReseed 0) netted = true ∧
    (g.tension.units = [] ∧ g.host.ctxs = [] ∧ g.tally.regions = [] ∧ g.keys.inval = [] ∧ g.keys.invalWaiting = [] ∧ Calm g) ∧
    goes (exec (.teardownSquash 0) g) (fun t => !live t (pinHandle 5 0) && t.parts == [] && setting t 0x7401 1 == 16 &&
      setting t 0xB072 2 == 1 && (t.sources.all fun e => !e.2.valid && !e.2.confirmed) && !thas t.purl.parts 0 &&
      keep [.cfg, .pins, .seq, .always, .power, .tap, .fuses, .flash, .fw, .lc, .recovery, .domain, .gang, .interval,
            .tick, .pending] g t) = true ∧
    Calm h ∧ goes (exec (.teardownSquash 0) h) (fun t => !live t (pinHandle 5 0) &&
      tget t.parts 0 == some { part0 with state := 2, step := 6 } && (t.sources.all fun e => !e.2.confirmed)) = true ∧
    freePin r = some 7 ∧
    does (.teardownReseed 0) r [.keys, .parts, .od] (fun t => (tget t.parts 0).map (fun p => (p.pin, p.serial, p.state, p.step, p.resets)) ==
      some (7, 1, 1, 0, 3) && (pinAt t 7).purpose == 0x40 && setting t 0xB072 1 == 1 &&
      odKept [obj 0xB072 1, obj 0x8000 7] r t) = true := by
  decide +kernel

/-- Premises of Obligations.PartitionLifetimes that can be met together, and what the commands then do. -/
theorem wit_Snapshots :
    let s := { netted with tick := 100000 }
    let d := { netted with tension.units := [(0, ⟨⟨.mesh 0, .mem 0, 1, some 0, none, 1, 0, 0, [], none, 0⟩, 1, 0, 0, 1, false⟩)], parts := [(0, { part0 with state := 2, step := 1, drainUntil := 2 })] }
    idle .statusSnapshot netted = true ∧ profile s = 0 ∧ running s = true ∧
    does .statusSnapshot s [.tension, .parts, .interval, .od] (fun t => t.interval == 100000 && odKept [obj 0xB072 6] s t &&
      (tget t.parts 0).map (·.intervals) == some 1) = true ∧ partUnits d 0 = true ∧ idle (.teardownSquash 0) d = true := by
  decide +kernel

/-- Premises of Obligations.TenantsAndSources that can be met together, and what the commands then do. -/
theorem wit_SourceWrites :
    let w := fun k src part valid => BitVec.ofNat 64 (k + 2 ^ 16 * src + 2 ^ 32 * part + 2 ^ 38 * valid)
    Accepts rq 0x7303 1 (le 8 (w 0 3 63 0).toNat) netted ∧
    refuses (.sourceWrite rq (w 0 3 63 0)) netted rq 0x7303 1 abRange = true ∧
    partLive netted 1 = false ∧ refuses (.sourceWrite rq (w 1 4 1 1)) netted rq 0x7303 1 abState = true ∧
    Accepts rq 0x7303 1 (le 8 (w 1 3 0 1).toNat) netted ∧ refuses (.sourceWrite rq (w 1 3 0 1)) netted rq 0x7303 1 abState = true ∧
    writes (.sourceWrite rq (w 1 4 0 1)) netted rq 0x7303 1 [.sources] [] (fun t =>
      tget t.sources 1 == some { srcId := 4, partition := 0, valid := true, confirmed := false } &&
      tget t.sources 0 == tget netted.sources 0) = true := by
  decide +kernel

/-- Premises of Obligations.TenantsAndSources that can be met together, and what the commands then do. -/
theorem wit_Tenants :
    let z := { up with recovery.quarantined := true }
    let n := { up with domain.sessions := [(0, { opr with digest := zeroBytes 48 })] }
    let o := { up with domain.sessions := [(0, { opr with digest := List.replicate 48 1 })] }
    securedUp z 0 = true ∧ secures (.partitionBind 0 []) z 0 stDenied [] [] (fun _ => true) = true ∧
    securedUp n 0 = true ∧ secures (.partitionBind 0 []) n 0 stMalformed [] [] (fun _ => true) = true ∧
    bindOk o 0 0 = false ∧
    secures (.partitionBind 0 (zeroBytes 4)) o 0 stDenied [] [obj 0xB072 3] (fun t => setting t 0xB072 3 == 1) = true ∧
    boundPart n 0 = none ∧
    secures (.partitionBind 0 (zeroBytes 4)) n 0 stDone [.parts] [] (fun t =>
      tget t.parts 0 == some { part0 with bound := some 0 }) = true ∧
    Calm n ∧ secures (.sourceConfirm 0 []) n 0 stDenied [] [] (fun _ => true) = true := by
  decide +kernel

/-- Premises of Obligations.TenantsAndSources that can be met together, and what the commands then do. -/
theorem wit_Tenants2 :
    let n := { up with domain.sessions := [(0, { opr with digest := zeroBytes 48 })] }
    let b := { up with parts := [(0, { part0 with bound := some 0 })],
                       sources := [(2, { partition := 0, srcId := 3, valid := true, confirmed := false })] }
    secures (.sourceWithdraw 0 []) n 0 stDenied [] [] (fun _ => true) = true ∧
    securedUp b 0 = true ∧ Calm b ∧ boundPart b 0 = some 0 ∧
    secures (.sourceConfirm 0 []) b 0 stMalformed [] [] (fun _ => true) = true ∧
    secures (.sourceConfirm 0 (le 2 2 ++ le 2 9)) b 0 stDenied [] [obj 0xB072 5] (fun t => setting t 0xB072 5 == 1) = true ∧
    secures (.sourceConfirm 0 (le 2 2 ++ le 2 3)) b 0 stDone [.sources] [] (fun t =>
      t.sources == [(2, { partition := 0, srcId := 3, valid := true, confirmed := true })]) = true ∧
    secures (.sourceWithdraw 0 (le 2 2 ++ le 2 3)) b 0 stDone [.sources] [] (fun t =>
      t.sources == [(2, { partition := 0, srcId := 3, valid := true, confirmed := false })]) = true := by
  decide +kernel

/-! ### The domain -/

/-- Premises of Obligations.OwnershipAndCharter that can be met together, and what the commands then do. -/
theorem wit_Sampling :
    let s := { netted with domain.state := 1 }
    let v := zeroBytes 32
    let issuing := { s with domain.sampleState := 1 }
    let sensed := { s with fuses.rootState := 3 }
    let follower := { s with gang.panel := 1, pins.gangId := 1, pins.gangSize := 1 }
    Accepts rq 0x8010 1 v issuing ∧ refuses (.sampleNonce rq v) issuing rq 0x8010 1 abBusy = true ∧
    Accepts rq 0x8010 1 v sensed ∧ basting sensed = false ∧ refuses (.sampleNonce rq v) sensed rq 0x8010 1 abState = true ∧
    Accepts rq 0x8010 1 v s ∧ leads s = true ∧ writes (.sampleNonce rq v) s rq 0x8010 1 [.domain] [] (fun t =>
      t.domain == { s.domain with sampleState := 1, nonce := v, sampleNo := 1 }) = true ∧
    Accepts rq 0x8010 1 v follower ∧ leads follower = false ∧ panelUp follower = true ∧
    writes (.sampleNonce rq v) follower rq 0x8010 1 [.domain, .gang] [] (fun t =>
      t.domain == { follower.domain with sampleState := 1, nonce := v }) = true ∧
    idle .sampleReady s = true ∧
    firmwareUp issuing = true ∧ (memberSeed issuing).isSome = true ∧ issuing.keys.inc = some 7 ∧ panelUp issuing = false ∧
    does .sampleReady issuing [.domain, .od] (fun t => t.domain.sampleState == 2 && t.domain.store.length == 1 &&
      setting t 0xB080 1 == 1 && odKept [obj 0xB080 1] issuing t) = true := by
  decide +kernel

/-- Premises of Obligations.OwnershipAndCharter that can be met together, and what the commands then do. -/
theorem wit_Charter :
    let s := { netted with domain.state := 1, keys.pins := netted.keys.pins ++ [], power.pfailLow := false }
    let low := { s with power.pfailLow := true }
    let busy := { s with domain.pending := 1 }
    let st := { s with domain.stagedTotal := 8000, domain.staged := zeroBytes 100 }
    let shortCh := le 4 100 ++ le 2 5 ++ zeroBytes 2 ++ [1, 2, 3, 4]
    Accepts rq 0x8001 1 (zeroBytes 48) low ∧ refuses (.ownerClaim rq (zeroBytes 48)) low rq 0x8001 1 abState = true ∧
    Accepts rq 0x8001 1 (zeroBytes 48) s ∧ tget s.flash.user recOwner = none ∧ powerGood s = true ∧
    (storageKey s).isSome = true ∧ drbgServes s = true ∧
    writes (.ownerClaim rq (zeroBytes 48)) s rq 0x8001 1 [.keys, .flash] [obj 0x2030 4] (fun t =>
      (t.flash.user.map (·.1)) == [recOwner] && t.keys.pins == s.keys.pins) = true ∧
    Accepts rq 0x8020 1 (le 4 100) s ∧ refuses (.charterBegin rq 100) s rq 0x8020 1 abRange = true ∧
    Accepts rq 0x8020 1 (le 4 7979) busy ∧ refuses (.charterBegin rq 7979) busy rq 0x8020 1 abBusy = true ∧
    Accepts rq 0x8020 1 (le 4 7979) s ∧ writes (.charterBegin rq 7979) s rq 0x8020 1 [.domain, .flash] [] (fun t =>
      t.domain == { s.domain with stagedTotal := 7979, staged := [] }) = true ∧
    Accepts rq 0x8020 2 shortCh st ∧ refuses (.charterChunk rq shortCh) st rq 0x8020 2 abType = true := by
  decide +kernel

/-- Premises of Obligations.OwnershipAndCharter that can be met together, and what the commands then do. -/
theorem wit_Charter2 :
    let s := { netted with domain.state := 1, keys.pins := netted.keys.pins ++ [], power.pfailLow := false }
    let st := { s with domain.stagedTotal := 8000, domain.staged := zeroBytes 100 }
    let full := { s with domain.stagedTotal := 100, domain.staged := zeroBytes 100 }
    let fb := { full with domain.pending := 1 }
    let upd := { full with domain.state := 3 }
    let ch := le 4 100 ++ le 2 4 ++ zeroBytes 2 ++ [1, 2, 3, 4]
    let badCh := le 4 0 ++ le 2 4 ++ zeroBytes 2 ++ [1, 2, 3, 4]
    Accepts rq 0x8020 2 badCh st ∧ refuses (.charterChunk rq badCh) st rq 0x8020 2 abRange = true ∧
    Accepts rq 0x8020 2 ch st ∧ (storageKey st).isSome = true ∧ drbgServes st = true ∧
    writes (.charterChunk rq ch) st rq 0x8020 2 [.domain, .flash, .keys] [obj 0x2030 4] (fun t =>
      t.domain == { st.domain with staged := zeroBytes 100 ++ [1, 2, 3, 4] } && t.keys.pins == st.keys.pins) = true ∧
    Accepts rq 0x8020 3 (le 1 1) st ∧ refuses (.charterCommit rq 1) st rq 0x8020 3 abState = true ∧
    Accepts rq 0x8020 3 (le 1 1) upd ∧ refuses (.charterCommit rq 1) upd rq 0x8020 3 abState = true ∧
    Accepts rq 0x8020 3 (le 1 1) fb ∧ refuses (.charterCommit rq 1) fb rq 0x8020 3 abBusy = true ∧
    Accepts rq 0x8020 3 (le 1 1) full ∧ writes (.charterCommit rq 1) full rq 0x8020 3 [.domain] [] (fun t =>
      t.domain == { full.domain with pending := 1, status := 0xFF }) = true := by
  decide +kernel

/-- Premises of Obligations.OwnershipAndCharter that can be met together, and what the commands then do. -/
theorem wit_CharterEnds :
    let s := { up with domain.state := 1 }
    let p := { s with domain.pending := 1 }
    let solo := { s with domain.state := 0 }
    idle .charterCheckDone s = true ∧
    (p.domain.pending = 1 ∧ firmwareUp p = true ∧ p.domain.activationWaits = false ∧ p.links.ports = [] ∧ Calm p) ∧
    does .charterCheckDone p [.domain, .od] (fun t => t.domain == { p.domain with pending := 0, status := stMalformed } &&
      setting t 0xB080 3 == 1 && odKept [obj 0xB080 3] p t) = true ∧
    Accepts rq 0x8020 6 (le 1 1) solo ∧ refuses (.dissolve rq 1) solo rq 0x8020 6 abState = true ∧
    Accepts rq 0x8020 6 (le 1 1) p ∧ refuses (.dissolve rq 1) p rq 0x8020 6 abBusy = true ∧
    Accepts rq 0x8020 6 (le 1 1) s ∧ Calm s ∧
    goes (exec (.dissolve rq 1) s) (fun t => told rq 2 0x8020 6 0 [] s t && t.domain.state == 0 && t.domain.charter == none &&
      t.domain.memberIndex == 0xFFFF && t.domain.sessions == [] && !thas t.flash.banks 1 &&
      keep [.cfg, .pins, .seq, .always, .power, .tap, .fuses, .fw, .lc, .interval, .tick, .pending] s t) = true := by
  decide +kernel

/-- Premises of Obligations.SpdmRequests that can be met together, and what the commands then do. -/
theorem wit_Spdm :
    let s := { up with domain.state := 1 }
    let u := { up with domain.state := 3 }
    let none_ : SpdmOffer := ⟨false, false, false, false, false, false⟩
    let all_ : SpdmOffer := ⟨true, true, true, true, true, true⟩
    let d : List Field := []
    spdmUp s .mailbox = true ∧ speaks (.getVersion .mailbox) s 0x04 d [] (fun _ => true) = true ∧
    speaks (.getCapabilities .mailbox) s 0x61 d [] (fun _ => true) = true ∧
    speaks (.negotiateAlgorithms .mailbox none_) s 0x7F d [obj 0xB080 6] (fun _ => true) = true ∧
    speaks (.negotiateAlgorithms .mailbox all_) s 0x63 d [] (fun _ => true) = true ∧
    spdmUp u .mailbox = true ∧ identityUp u = true ∧
    speaks (.getCapabilities .mailbox) u 0x7F d [obj 0xB080 6] (fun _ => true) = true ∧
    speaks (.negotiateAlgorithms .mailbox all_) u 0x7F d [obj 0xB080 6] (fun _ => true) = true := by
  decide +kernel

/-- Premises of Obligations.SpdmRequests that can be met together, and what the commands then do. -/
theorem wit_Spdm2 :
    let s := { up with domain.state := 1 }
    let u := { up with domain.state := 3 }
    let n := { s with fuses.rootState := 3 }
    let a := { s with domain.store := [(1, [1, 2])] }
    let b := { s with domain.memberCert := [3] }
    let d : List Field := []
    speaks (.getDigests .mailbox) u 0x7F d [obj 0xB080 6] (fun _ => true) = true ∧
    spdmUp n .mailbox = true ∧ identityUp n = false ∧ speaks (.getDigests .mailbox) n 0x7F d [obj 0xB080 6] (fun _ => true) = true ∧
    speaks (.keyExchange .mailbox 0 [] []) n 0x7F d [obj 0xB080 6] (fun _ => true) = true ∧
    identityUp s = true ∧ speaks (.spdmUnsupported .mailbox 0x99) s 0x7F d [obj 0xB080 6] (fun _ => true) = true ∧
    slotLeaf s 0 = none ∧ slotLeaf s 1 = none ∧ speaks (.getDigests .mailbox) s 0x01 d [] (fun _ => true) = true ∧
    slotLeaf a 0 = some [1, 2] ∧ slotLeaf a 1 = none ∧ speaks (.getDigests .mailbox) a 0x01 d [] (fun _ => true) = true ∧
    slotLeaf b 0 = none ∧ slotLeaf b 1 = some [3] ∧ speaks (.getDigests .mailbox) b 0x01 d [] (fun _ => true) = true := by
  decide +kernel

/-- Premises of Obligations.SpdmRequests that can be met together, and what the commands then do. -/
theorem wit_Spdm3 :
    let s := { up with domain.state := 1 }
    let a := { s with domain.store := [(1, [1, 2])] }
    let ab := { a with domain.memberCert := [3] }
    let elem : Bytes := text "KZH1" 4 ++ [1] ++ zeroBytes 3 ++ zeroBytes 1568 ++ le 2 1 ++ [9]
    let crowd := { s with domain.sessions := (List.range 8).map fun k => (k, opr) }
    let d : List Field := []
    slotLeaf ab 0 = some [1, 2] ∧ slotLeaf ab 1 = some [3] ∧ speaks (.getDigests .mailbox) ab 0x01 d [] (fun _ => true) = true ∧
    speaks (.getCertificate .mailbox 0 0 8) s 0x7F d [obj 0xB080 6] (fun _ => true) = true ∧
    kzhRequest [] = none ∧ speaks (.keyExchange .mailbox 0 [] []) s 0x7F d [obj 0xB080 6] (fun _ => true) = true ∧
    (kzhRequest elem).isSome = true ∧ identityUp crowd = true ∧ freeSession crowd = none ∧
    speaks (.keyExchange .mailbox 0 [] elem) crowd 0x7F d [obj 0xB080 6] (fun _ => true) = true ∧
    freeSession s = some 1 ∧ (memberSeed s).isSome = true ∧ drbgServes s = true := by
  decide +kernel

/-- Any certificate chain has a first byte, and ends. -/
theorem wit_CertificateChain :
    slotLeaf { up with domain.store := [(1, [1, 2])] } 0 = some [1, 2] ∧
    (∀ s leaf, 0 < (certChain s leaf).length) ∧ ∀ s leaf, ∃ off, (certChain s leaf).length ≤ off := by
  refine ⟨by decide +kernel, fun s leaf => ?_, fun s leaf => ⟨_, Nat.le_refl _⟩⟩
  simp only [certChain, List.length_append, List.length_cons]
  omega

/-- Premises of Obligations.SpdmRequests that can be met together, and what the commands then do. -/
theorem wit_SpdmSessions :
    let s := { up with parts := [(0, { part0 with bound := some 0 })] }
    let o := { s with domain.sessions := [(0, { opr with opened := false })] }
    let d : List Field := []
    sessionUp s 7 = none ∧ idle (.spdmFinish 7 [] []) s = true ∧ idle (.endSession 7) s = true ∧
    idle (.securedDecryptFail 7) s = true ∧
    sessionUp s 0 = some opr ∧ speaks (.spdmFinish 0 [] []) s 0x7F d [obj 0xB080 6] (fun _ => true) = true ∧
    (sessionUp o 0).map (·.opened) = some false ∧ speaks (.endSession 0) o 0x7F d [obj 0xB080 6] (fun _ => true) = true ∧
    goes (exec (.endSession 0) s) (fun t => only ([.domain, .parts] ++ answerFields) s t && t.domain.sessions == [] &&
      (t.parts.all fun e => e.2.bound == none)) = true ∧
    goes (exec (.securedDecryptFail 0) o) (fun t => only ([.domain, .parts] ++ answerFields) o t && t.domain.sessions == [] &&
      (t.parts.all fun e => e.2.bound == none)) = true := by
  decide +kernel

/-- Premises of Obligations.SecuredServices that can be met together, and what the commands then do. -/
theorem wit_Secured :
    let s := { up with domain.memberSlot := none }
    let m := { up with domain.sessions := [(0, { opr with digest := List.replicate 48 3 })] }
    let b := le 2 3 ++ zeroBytes 2 ++ zeroBytes 32
    let op := { up with keys.pins := up.keys.pins ++ [(6, pinOf 3 3 1 0x44 0 0)] }
    securedUp up 0 = true ∧ secures (.hybridConfirm 0 [1]) up 0 stMalformed [] [] (fun _ => true) = true ∧
    securedUp s 0 = true ∧ memberSeed s = none ∧ secures (.hybridConfirm 0 []) s 0 stDenied [] [] (fun _ => true) = true ∧
    (memberSeed up).isSome = true ∧ secures (.hybridConfirm 0 []) up 0 stDone [] [] (fun _ => true) = true ∧
    securedUp m 0 = true ∧ oprRight m 0 = false ∧ secures (.sealImport 0 b) m 0 stDenied [] [] (fun _ => true) = true ∧
    oprRight up 0 = true ∧ secures (.sealImport 0 []) up 0 stMalformed [] [] (fun _ => true) = true ∧
    findPin op puOperator (fun _ => true) = some 6 ∧ sealPinOf op 3 = none ∧ freePin op = some 7 ∧ (freeSlot op).isSome = true ∧
    Calm op ∧ secures (.sealImport 0 b) op 0 stDone [.keys] [] (fun t => (pinAt t 7).purpose == 0x55 && (pinAt t 7).objA == 3 &&
      (tget t.keys.held (pinAt t 7).heldSlot) == some (slice b 4 32)) = true := by
  decide +kernel

/-- Premises of Obligations.SecuredServices that can be met together, and what the commands then do. -/
theorem wit_SeedCarry :
    let j := { up with domain.state := 1, links.ports := [(0, { linkUp0 with state := 2 })], od := [(obj 0x5000 1, 5)] }
    let early := { j with domain.lastCarry := [(0, 0)] }
    let due := { early with tick := 1000000 }
    let c : Carry := { port := 0, await := 1, transcript := [], secret := [], leaf := [], startTick := 0 }
    let on := fun k => { j with domain.carries := [{ c with await := k }] }
    let chunk : Bytes := [1, 0] ++ le 2 1 ++ le 2 5 ++ [9]
    idle (.seedCarryAttempt 0) up = true ∧ carries j = true ∧ (linkAt j 0).state = 2 ∧
    idle (.seedCarryAttempt 0) early = true ∧ 0 + setting due 0x8020 7 ≤ due.tick ∧
    does (.seedCarryAttempt 0) due (.domain :: sendFields) (fun t => carryOn t 0 == some { c with startTick := 1000000 } &&
      tget t.domain.lastCarry 0 == some 1000000 && (said due t).any fun o => match o with | .linkMsg 0 0x10 _ => true | _ => false) = true ∧
    carryOn j 0 = none ∧ idle (.spdmRequesterResponse 0 chunk) j = true ∧ idle (.seedGetResponse 0 []) j = true ∧
    carryOn (on 1) 0 = some c ∧
    does (.spdmRequesterResponse 0 []) (on 1) [.domain] (fun t => carryOn t 0 == none) = true := by
  decide +kernel

/-- Premises of Obligations.SecuredServices that can be met together, and what the commands then do. -/
theorem wit_SeedCarry2 :
    let j := { up with domain.state := 1, links.ports := [(0, { linkUp0 with state := 2 })], od := [(obj 0x5000 1, 5)] }
    let c : Carry := { port := 0, await := 1, transcript := [], secret := [], leaf := [], startTick := 0 }
    let on := fun k => { j with domain.carries := [{ c with await := k }] }
    let chunk : Bytes := [1, 0] ++ le 2 1 ++ le 2 5 ++ [9]
    let last : Bytes := [1, 0] ++ le 2 1 ++ le 2 0 ++ [9]
    goes (exec (.spdmRequesterResponse 0 chunk) (on 1)) (fun t => only (.domain :: sendFields) (on 1) t &&
      carryOn t 0 == some { c with leaf := [9] }) = true ∧
    goes (exec (.spdmRequesterResponse 0 last) (on 1)) (fun t => only (.domain :: sendFields) (on 1) t) = true ∧
    idle (.seedGetResponse 0 []) (on 4) = true ∧
    does (.seedGetResponse 0 [stDenied]) (on 5) [.domain] (fun t => carryOn t 0 == none && t.domain.state == 1) = true ∧
    (leads (on 5) = true ∧ Calm (on 5) ∧ (carryOn (on 5) 0).isSome = true) := by
  decide +kernel

/-! ### The service units -/

/-- Shuttle lock held by partition 0 for context 0 with ticket 7; registers of a GCM_ENC or HMAC job of 64 bytes. -/
def locked (st : Nat) (regs : List (Nat × BitVec 64)) : State :=
  { netted with host.ctxs := [(0, ctx0)], host.objs := [(1, obj1)],
                shuttle := { Shuttle.reset with owner := some (0, 0), ticket := 7, leaseLeft := 2000, state := st, regs := regs } }
def gcmRegs : List (Nat × BitVec 64) :=
  [(0x18, 1), (0x70, 0x100000001), (0x78, 0), (0x80, 0x1000), (0x88, 64)]
def hmacRegs : List (Nat × BitVec 64) := [(0x18, 6 + 2 ^ 8 * 32), (0x70, 1), (0x78, 0), (0x88, 64)]

/-- Premises of Obligations.ShuttleLockAndJobs that can be met together, and what the commands then do. -/
theorem wit_ShuttleLock :
    let off := { netted with power.retention := true }
    let n := { netted with host.ctxs := [(0, ctx0)] }
    let req := fun tk c lease => BitVec.ofNat 64 (tk + 2 ^ 16 * c + 2 ^ 32 * lease)
    let rel := fun tk c => BitVec.ofNat 64 (tk + 2 ^ 16 * c + 2 ^ 63)
    let h := locked 0 []
    serviceUp off = false ∧ idle (.shuttleGo 0 1) off = true ∧ serviceUp n = true ∧ servicePages n ≤ 64 ∧
    does (.purlSubmit 64 1) n [.od] (fun t => setting t 0xB031 0xA == 1 && odKept [obj 0xB031 0xA] n t) = true ∧
    does (.shuttleLockRequest 0 (req 7 0 999)) n [.od] (fun t => setting t 0xB090 9 == 1 && odKept [obj 0xB090 9] n t) = true ∧
    lockable n 0 0 = true ∧ 2000 ≤ setting n 0xC000 1 ∧
    does (.shuttleLockRequest 0 (req 7 0 2000)) n [.shuttle, .od] (fun t => t.shuttle ==
      { Shuttle.reset with owner := some (0, 0), ticket := 7, leaseLeft := 2000, lastHolder := 0 } &&
      setting t 0xB090 1 == 1 && odKept [obj 0xB090 1] n t) = true ∧
    does (.shuttleLockRequest 0 (req 8 0 1000)) h [.shuttle] (fun t => t.shuttle.owner == some (0, 0) &&
      tget t.shuttle.waiting 0 == some (8, 0, 1000)) = true ∧
    does (.shuttleRelease 0 (rel 6 0)) h [.od] (fun t => setting t 0xB090 9 == 1 && odKept [obj 0xB090 9] h t) = true := by
  decide +kernel

/-- Premises of Obligations.ShuttleLockAndJobs that can be met together, and what the commands then do. -/
theorem wit_ShuttleLock2 :
    let n := { netted with host.ctxs := [(0, ctx0)] }
    let rel := fun tk c => BitVec.ofNat 64 (tk + 2 ^ 16 * c + 2 ^ 63)
    let h := locked 0 []
    let w := { h with shuttle.waiting := [(0, 8, 0, 1500)] }
    let l := { h with shuttle.leaseLeft := 0 }
    does (.shuttleRelease 0 (rel 7 0)) h [.shuttle] (fun t => t.shuttle == { Shuttle.reset with lastHolder := 0 }) = true ∧
    does (.shuttleRelease 0 (rel 7 0)) w [.shuttle, .od] (fun t => t.shuttle ==
      { Shuttle.reset with owner := some (0, 0), ticket := 8, leaseLeft := 1500, lastHolder := 0 } &&
      setting t 0xB090 1 == 1 && odKept [obj 0xB090 1] w t) = true ∧
    idle .shuttleLeaseExpiry h = true ∧
    does .shuttleLeaseExpiry l [.shuttle, .od] (fun t => t.shuttle.owner == none && setting t 0xB090 2 == 1 &&
      odKept [obj 0xB090 2] l t) = true ∧
    Accepts rq 0xC000 3 (le 1 1) h ∧ writes (.shuttleRevoke rq 1) h rq 0xC000 3 [.shuttle] [obj 0xB090 3] (fun t =>
      t.shuttle.owner == none && setting t 0xB090 3 == 1) = true ∧
    Accepts rq 0xC000 3 (le 1 1) n ∧ writes (.shuttleRevoke rq 1) n rq 0xC000 3 [] [] (fun t => t.shuttle == n.shuttle) = true := by
  decide +kernel

/-- Premises of Obligations.ShuttleLockAndJobs that can be met together, and what the commands then do. -/
theorem wit_ShuttleJobs :
    let g := locked 0 gcmRegs
    let run := locked 1 gcmRegs
    let bad := locked 0 []
    let stale := { g with host.objs := [] }
    idle (.shuttleAbort 0 2) g = true ∧ ownsShuttle g 0 = true ∧ ownsShuttle netted 0 = false ∧
    does (.shuttleGo 0 1) netted [.od] (fun t => setting t 0xB090 9 == 1 && odKept [obj 0xB090 9] netted t) = true ∧
    does (.shuttleAbort 0 2) run [.shuttle, .ports, .host, .od] (fun t => t.shuttle.state == 2 && t.shuttle.status == stAborted &&
      t.shuttle.owner == some (0, 0) && setting t 0xB090 5 == 1 && odKept [obj 0xB090 5] run t) = true ∧
    idle (.shuttleGo 0 0) g = true ∧
    does (.shuttleGo 0 1) run [.od] (fun t => setting t 0xB090 9 == 1 && odKept [obj 0xB090 9] run t) = true ∧
    shMalformed bad 1 = true ∧ does (.shuttleGo 0 1) bad [.shuttle, .ports, .host, .od] (fun t => t.shuttle.state == 2 &&
      t.shuttle.status == stMalformed && odKept [obj 0xB090 4, obj 0xB090 5] bad t && setting t 0xB090 4 == 1) = true ∧
    reachesCheck stale 0 0 (shReaches stale) = stStale ∧
    does (.shuttleGo 0 1) stale [.shuttle, .ports, .host, .od] (fun t => t.shuttle.status == stStale &&
      shReg t 0x100 == 0 && setting t 0xB090 5 == 1) = true := by
  decide +kernel

/-- Premises of Obligations.ShuttleLockAndJobs that can be met together, and what the commands then do. -/
theorem wit_ShuttleJobs2 :
    let g := locked 0 gcmRegs
    let x0 := newXfer (ctxSource 0) 0 0 false (some 0)
    let job := fun (regs : List (Nat × BitVec 64)) (x : XferRun) => { locked 1 regs with host.xfers := [(0, x)] }
    let hm := { x0 with buf := List.replicate 64 3 }
    shMalformed g 1 = false ∧ reachesCheck g 0 0 (shReaches g) = stDone ∧
    goes (exec (.shuttleGo 0 1) g) (fun t => t.shuttle.state == 1 && t.shuttle.job == g.host.nextDesc &&
      t.shuttle.owner == g.shuttle.owner && setting t 0xB090 4 == 1 && thas t.host.xfers g.host.nextDesc) = true ∧
    idle .shuttleJobEnd g = true ∧ xferIdle hm = true ∧
    does .shuttleJobEnd (job gcmRegs { hm with wfail := some (stStale, 1, 0x1000) }) [.shuttle, .ports, .host, .od] (fun t =>
      t.shuttle.state == 2 && t.shuttle.status == stStale && t.shuttle.owner == some (0, 0)) = true ∧
    shuttleText (job hmacRegs hm) hm = [] ∧ (shuttleResult (job hmacRegs hm) hm.buf).isSome = true ∧
    does .shuttleJobEnd (job hmacRegs hm) [.shuttle, .ports, .host, .od] (fun t => t.shuttle.state == 2 &&
      t.shuttle.status == stDone && shReg t 0x100 == 64) = true ∧
    does .shuttleJobEnd (job hmacRegs { hm with rfail := some (stPoisoned, 1, 64) }) [.shuttle, .ports, .host, .od] (fun t =>
      t.shuttle.state == 2 && t.shuttle.status == stPoisoned) = true := by
  decide +kernel

/-- A cipher job with its source read has text to write. -/
theorem wit_ShuttleText :
    let x := { newXfer (ctxSource 0) 0 0 false (some 0) with buf := List.replicate 64 3 }
    let s := { locked 1 gcmRegs with host.xfers := [(0, x)] }
    s.shuttle.state = 1 ∧ tget s.host.xfers s.shuttle.job = some x ∧ xferIdle x = true ∧ x.wfail = none ∧ x.pos = 0 ∧
    ∃ b, shuttleText s x = slice b 0 64 :=
  ⟨by decide +kernel, by decide +kernel, by decide +kernel, rfl, rfl, _, rfl⟩

/-- Premises of Obligations.PurlJobs that can be met together, and what the commands then do. -/
theorem wit_Purl :
    let regs : List (Nat × BitVec 64) := [(0, 1), (8, 0), (0x10, 9)]
    let n := { netted with host.ctxs := [(0, ctx0)], host.objs := [(1, obj1)], purl.parts := [(0, { newPurl with regs := regs })] }
    let bad := { n with purl.parts := [] }
    let x0 := { newXfer (ctxSource 0) 0 0 false (some 0) with buf := (List.range 9).map fun k => BitVec.ofNat 8 (0x31 + k) }
    let r := { n with
      purl := { n.purl with running := some 0, job := regs, parts := [(0, { newPurl with regs := regs, nextAlive := 2, resultAlive := 1, rstate := 1 })] },
      host := { n.host with xfers := [(0, x0)] } }
    does (.purlSubmit 0 2) n [.od] (fun t => setting t 0xB090 7 == 1 && odKept [obj 0xB090 7] n t) = true ∧
    does (.purlSubmit 0 1) bad [.purl, .ports, .host, .od, .free] (fun t => t.purl.running == none &&
      (purlAt t 0).rstate == 2 && (purlAt t 0).rstatus == stMalformed && (purlAt t 0).bytesDone == 0 &&
      (purlAt t 0).resultAlive == 1 && (purlAt t 0).nextAlive == 2 && setting t 0xB090 6 == 1 && odKept [obj 0xB090 6] bad t) = true ∧
    goes (exec (.purlSubmit 0 1) n) (fun t => t.purl.running == some 0 && (purlAt t 0).rstate == 1 &&
      (purlAt t 0).resultAlive == 1 && t.purl.job == regs && setting t 0xB090 6 == 1 && thas t.host.xfers n.host.nextDesc) = true ∧
    does (.purlGoAbort 0 (BitVec.ofNat 64 (2 ^ 32 + 1))) n [.od] (fun t => setting t 0xB090 9 == 1 &&
      odKept [obj 0xB090 9] n t) = true ∧
    does (.purlGoAbort 0 (BitVec.ofNat 64 (2 ^ 32 + 1))) r [.purl, .ports, .host, .free] (fun t => t.purl.running == none &&
      (purlAt t 0).rstate == 2 && (purlAt t 0).rstatus == stAborted) = true ∧
    Accepts rq 0xC010 3 (le 1 63) n ∧ partitionsOf n.cfg ≤ 63 ∧ refuses (.purlAbort rq 63) n rq 0xC010 3 abRange = true ∧
    Accepts rq 0xC010 3 (le 1 0) n ∧ refuses (.purlAbort rq 0) n rq 0xC010 3 abState = true := by
  decide +kernel

/-- Premises of Obligations.PurlJobs that can be met together, and what the commands then do. -/
theorem wit_Purl2 :
    let regs : List (Nat × BitVec 64) := [(0, 1), (8, 0), (0x10, 9)]
    let n := { netted with host.ctxs := [(0, ctx0)], host.objs := [(1, obj1)], purl.parts := [(0, { newPurl with regs := regs })] }
    let x0 := { newXfer (ctxSource 0) 0 0 false (some 0) with buf := (List.range 9).map fun k => BitVec.ofNat 8 (0x31 + k) }
    let r := { n with
      purl := { n.purl with running := some 0, job := regs, parts := [(0, { newPurl with regs := regs, nextAlive := 2, resultAlive := 1, rstate := 1 })] },
      host := { n.host with xfers := [(0, x0)] } }
    let late := { r with tick := 1000000 }
    let f := { r with host.xfers := [(0, { x0 with rfail := some (stPoisoned, 1, 9) })] }
    let busy := { r with host.xfers := [(0, { x0 with buf := [], reads := [(1, 0, 9)] })] }
    Accepts rq 0xC010 3 (le 1 0) r ∧ writes (.purlAbort rq 0) r rq 0xC010 3 [.purl, .host] [] (fun t =>
      t.purl.running == none && (purlAt t 0).rstatus == stAborted) = true ∧
    idle .purlTimeout r = true ∧ idle .purlJobEnd n = true ∧ 0 + setting late 0xC010 1 ≤ late.tick ∧
    does .purlTimeout late [.purl, .ports, .host, .od, .free] (fun t => t.purl.running == none &&
      (purlAt t 0).rstatus == stTimeout && setting t 0xB090 8 == 1 && odKept [obj 0xB090 8] late t) = true ∧
    xferIdle x0 = true ∧ does .purlJobEnd r [.purl, .ports, .host] (fun t => t.purl.running == none &&
      (purlAt t 0).rstatus == stDone && (purlAt t 0).result == 0xE3069283 && (purlAt t 0).bytesDone == 9 &&
      t.host.xfers == []) = true ∧
    does .purlJobEnd f [.purl, .ports, .host, .free] (fun t => (purlAt t 0).rstatus == stPoisoned && (purlAt t 0).bytesDone == 9) = true ∧
    goes (exec .purlJobEnd busy) (fun t => t == nextAccess 0 busy) = true := by
  decide +kernel

/-! ### The dictionary, MCTP, recovery -/

/-- Premises of Obligations.WritesAreChecked that can be met together, and what the commands then do. -/
theorem wit_WritesAreChecked :
    pathUp State.reset rq = false ∧ idle (.sampleNonce rq []) State.reset = true ∧ idle (.eventFree rq 1) State.reset = true ∧
    pathUp up rq = true ∧ writeGate up rq 0x8020 2 [] = abType ∧ refuses (.charterChunk rq []) up rq 0x8020 2 abType = true ∧
    pathUp up rm = true ∧
    writeGate up rm 0x7400 64 (le 1 3) ≠ 0 ∧
    refuses (.reservedSlotsWrite rm 63 3) up rm 0x7400 64 (writeGate up rm 0x7400 64 (le 1 3)) = true := by
  decide +kernel

/-- The header of a dictionary message: operation, index, sub, and bits 127:64. -/
def odHead (op idx sub rest : Nat) : BitVec 128 := BitVec.ofNat 128 (op + 2 ^ 16 * 7 + 2 ^ 32 * idx + 2 ^ 48 * sub + 2 ^ 64 * rest)

/-- Premises of Obligations.DictionaryMessages that can be met together, and what the commands then do. -/
theorem wit_Dictionary :
    let r : OdReq := { rq with txn := 7 }
    let reads := fun (idx sub abort : Nat) (d : Bytes) => does (.odRead rq (odHead 1 idx sub 0)) up answerFields fun t =>
      told r 1 idx sub abort d up t && odKept answerObjs up t
    idle (.odRead rq (odHead 1 0x8000 1 0)) State.reset = true ∧
    headerValid (odHead 9 0x8000 1 0).toNat = false ∧
    does (.odRead rq (odHead 9 0x8000 1 0)) up answerFields (fun t => told r 9 0x8000 1 abType [] up t) = true ∧
    headerValid (odHead 1 0x8000 1 0).toNat = true ∧ readGate up r 0x7101 1 false ≠ 0 ∧
    reads 0x7101 1 (readGate up r 0x7101 1 false) [] = true ∧
    (∀ v ∈ [(0x1011, 0), (0x2000, 5), (0x2001, 2), (0x3101, 4), (0x4001, 1), (0x6000, 3), (0x7000, 5), (0x7104, 9), (0x8000, 1),
      (0x9000, 1), (0x9000, 2), (0x9010, 1), (0x9010, 3), (0xA000, 8), (0xA020, 8), (0xC010, 2)], readGate up r v.1 v.2 false = 0) := by
  decide +kernel

/-- Premises of Obligations.DictionaryMessages that can be met together, and what the commands then do. -/
theorem wit_Dictionary2 :
    let r : OdReq := { rq with txn := 7 }
    let reads := fun (idx sub abort : Nat) (d : Bytes) => does (.odRead rq (odHead 1 idx sub 0)) up answerFields fun t =>
      told r 1 idx sub abort d up t && odKept answerObjs up t
    reads 0x1011 0 0 [0] = true ∧ reads 0x2000 5 0 (le 8 (setting up 0x2000 5)) = true ∧ reads 0x2001 2 0 (le 8 up.fuses.serial) = true ∧
    reads 0x3101 4 0 (le 2 2048) = true ∧ reads 0x4001 1 0 [0] = true ∧ reads 0x6000 3 0 (le 2 0) = true ∧
    reads 0x7000 5 0 (le 2 0) = true ∧ reads 0x7104 9 0 (le 4 0) = true ∧ reads 0x8000 1 0 [2] = true ∧
    reads 0x9000 1 0 (le 1 up.always.lastResetCause) = true ∧ reads 0x9000 2 0 (le 4 up.always.startCount) = true ∧
    reads 0x9010 1 0 (le 1 (lcState up)) = true ∧ reads 0x9010 3 0 (le 8 up.fuses.lcWord) = true ∧
    reads 0xA000 8 0 (le 8 0) = true ∧ reads 0xA020 8 0 (le 1 up.log.state) = true ∧ reads 0xC010 2 0 [0xFF] = true := by
  decide +kernel

/-- Premises of Obligations.DictionaryMessages that can be met together, and what the commands then do. -/
theorem wit_DictionaryWrites :
    let r : OdReq := { rq with txn := 7 }
    let sets := fun (idx sub : Nat) (d : Bytes) => Accepts r idx sub d up ∧
      writes (.odWrite rq (odHead 2 idx sub 0) d) up r idx sub [] [obj idx sub] (fun t => setting t idx sub == ofLe d) = true
    writeGate up r 0x1010 1 [0] = abReadOnly ∧ refuses (.odWrite rq (odHead 2 0x1010 1 0) [0]) up r 0x1010 1 0x0203 = true ∧
    (findIndex up 0x1010).isSome = true ∧
    sets 0xA000 1 (le 4 5000) ∧ sets 0xC010 1 (le 4 100000) ∧ sets 0x8020 7 (le 4 2000) ∧
    readGate up r 0x7101 1 true ≠ 0 ∧
    does (.odTableRead rq (odHead 3 0x7101 1 0x10000)) up answerFields (fun t =>
      told r 3 0x7101 1 (readGate up r 0x7101 1 true) [] up t) = true ∧
    readGate up r 0x7300 0 true = 0 ∧ tableTotal up 0x7300 ≤ 64 := by
  decide +kernel

/-- Premises of Obligations.DictionaryMessages that can be met together, and what the commands then do. -/
theorem wit_DictionaryWrites2 :
    let r : OdReq := { rq with txn := 7 }
    does (.odTableRead rq (odHead 3 0x7300 0 (64 + 2 ^ 16))) up answerFields (fun t => told r 3 0x7300 0 abRange [] up t) = true ∧
    does (.odTableRead rq (odHead 3 0x7300 0 (2 ^ 16))) up answerFields (fun t => (said up t).any fun o => match o with
      | .od _ 0x83 _ 0x7300 0 0 1 n d => n == tableTotal up 0x7300 &&
          d == le 4 ((tableRow up 0x7300 0).length % 65536) ++ tableRow up 0x7300 0
      | _ => false) = true ∧
    idle (.odRequest .mailbox 5 []) up = true ∧ pathUp up { path := .mailbox, sess := some 0, txn := 0 } = true ∧
    secures (.odRequest .mailbox 0 [1, 2]) up 0 stMalformed [] [] (fun _ => true) = true ∧
    goes (exec (.odRequest .mailbox 0 (le 16 (odHead 1 0x8000 1 0).toNat)) up) (fun t => told r 1 0x8000 1 0 [2] up t) = true := by
  decide +kernel

/-- Premises of Obligations.MctpMessages that can be met together, and what the commands then do. -/
theorem wit_Mctp :
    let spdm : Bytes := [5, 0x13, 0x84, 0, 0]
    let p := fun (som eom : Bool) (seq : Nat) (b : Bytes) => ({ src := 8, dst := 0, som := som, eom := eom, seq := seq, tag := 1, body := b } : MctpPacket)
    let a : Assembly := { path := .i3c, src := 8, tag := 1, seq := 1, bytes := [5], startTick := 0 }
    let full := { up with dict.asm := List.replicate 8 { a with src := 9 } }
    let counted := fun (s t : State) => setting t 0xB0A0 5 == setting s 0xB0A0 5 + 1 && odKept [obj 0xB0A0 5] s t
    idle (.mctpPacketReceive (p true true 0 spdm)) State.reset = true ∧
    idle (.mctpPacketReceive { p true true 0 spdm with dst := 0x33 }) up = true ∧
    asmOf up 8 1 = none ∧ does (.mctpPacketReceive (p true false 0 [5])) up [.dict] (fun t => t.dict == { up.dict with asm := [a] }) = true ∧
    handled .i3c spdm = true ∧ does (.mctpPacketReceive (p true true 0 spdm)) up [.dict] (fun t => t.dict ==
      { up.dict with i3cQ := [{ port := 0, srcEp := 0, src := 8, tag := 1, bytes := spdm }] }) = true ∧
    handled .i3c [9] = false ∧ does (.mctpPacketReceive (p true true 0 [9])) up [.od] (counted up) = true ∧
    asmOf full 8 1 = none ∧ does (.mctpPacketReceive (p true false 0 [5])) full [.od] (counted full) = true := by
  decide +kernel

/-- Premises of Obligations.MctpMessages that can be met together, and what the commands then do. -/
theorem wit_Mctp2 :
    let spdm : Bytes := [5, 0x13, 0x84, 0, 0]
    let p := fun (som eom : Bool) (seq : Nat) (b : Bytes) => ({ src := 8, dst := 0, som := som, eom := eom, seq := seq, tag := 1, body := b } : MctpPacket)
    let a : Assembly := { path := .i3c, src := 8, tag := 1, seq := 1, bytes := [5], startTick := 0 }
    let s := { up with dict.asm := [a] }
    let late := { s with tick := 10000 }
    let counted := fun (s t : State) => setting t 0xB0A0 5 == setting s 0xB0A0 5 + 1 && odKept [obj 0xB0A0 5] s t
    does (.mctpPacketReceive (p false true 0 [5])) up [.od] (counted up) = true ∧ asmOf s 8 1 = some a ∧
    does (.mctpPacketReceive (p false true 0 [5])) s [.dict, .od] (fun t => counted s t && t.dict == { s.dict with asm := [] }) = true ∧
    does (.mctpPacketReceive (p false false 1 [6])) s [.dict] (fun t => asmOf t 8 1 == some { a with seq := 2, bytes := [5, 6] }) = true ∧
    does (.mctpPacketReceive (p false true 1 (spdm.drop 1))) s [.dict] (fun t => t.dict ==
      { up.dict with i3cQ := [{ port := 0, srcEp := 0, src := 8, tag := 1, bytes := spdm }] }) = true ∧
    idle (.mctpAssemblyTimeout 9 9) s = true ∧ idle (.mctpAssemblyTimeout 8 1) s = true ∧
    does (.mctpAssemblyTimeout 8 1) late [.dict, .od] (fun t => counted late t && t.dict == { s.dict with asm := [] }) = true := by
  decide +kernel

/-- Premises of Obligations.MctpMessages that can be met together, and what the commands then do. -/
theorem wit_Vl0AndControl :
    let spdm : Bytes := [5, 0x13, 0x84, 0, 0]
    let n := { netted with od := [(obj 0x5000 1, 5), (obj 0x1001 5, 0x22)] }
    let d := { n with links := Links.reset }
    let ctl := { up with dict.i3cEid := 8, dict.i3cQ := [{ port := 0, srcEp := 0, src := 8, tag := 1, bytes := [0, 0x80, 2] }] }
    let answered := fun (c : Instr) (cmd code : Nat) (b : Bytes) => does c ctl answerFields fun t => odKept [] ctl t &&
      t.dict.i3cEid == 8 && t.dict.i3cQ == [] && (said ctl t).any fun o => match o with
        | .mctp .i3c c k x => c == cmd && k == code && x == b | _ => false
    idle (.vl0MctpMessage 0 9 5 spdm) d = true ∧ 2 ≤ (linkAt n 0).state ∧ pathUp n { path := .vl0, sess := none, txn := 0 } = true ∧
    ownEndpoint n = 5 ∧ does (.vl0MctpMessage 0 9 5 [0, 1]) n [.od] (fun t => setting t 0xB0A0 5 == 1 && odKept [obj 0xB0A0 5] n t) = true ∧
    setting n 0x1001 5 = 0x22 ∧ idle (.vl0MctpMessage 0 9 5 ([0x21, 1, 9, 0] ++ spdm)) n = true ∧
    does (.vl0MctpMessage 0 9 5 ([0, 1, 9, 0] ++ spdm)) n [.dict] (fun t => t.dict == { n.dict with
      vl0Q := [{ port := 0, srcEp := 9, src := 1, tag := 1, bytes := spdm }] }) = true ∧
    idle (.vl0MctpMessage 0 9 6 spdm) n = true ∧ controlUp up .vl0 = false ∧ idle (.getEndpointId .vl0) up = true ∧
    controlUp ctl .i3c = true ∧ answered (.getEndpointId .i3c) 2 0 [8, 0, 0] = true := by
  decide +kernel

/-- Premises of Obligations.MctpMessages that can be met together, and what the commands then do. -/
theorem wit_Vl0AndControl2 :
    let ctl := { up with dict.i3cEid := 8, dict.i3cQ := [{ port := 0, srcEp := 0, src := 8, tag := 1, bytes := [0, 0x80, 2] }] }
    let answered := fun (c : Instr) (cmd code : Nat) (b : Bytes) => does c ctl answerFields fun t => odKept [] ctl t &&
      t.dict.i3cEid == 8 && t.dict.i3cQ == [] && (said ctl t).any fun o => match o with
        | .mctp .i3c c k x => c == cmd && k == code && x == b | _ => false
    answered (.getMctpVersionSupport .i3c 0xFF) 4 0 [1, 0xF1, 0xF3, 0xFF, 0] = true ∧
    answered (.getMctpVersionSupport .i3c 0x7E) 4 0x80 [] = true ∧
    answered (.getMessageTypeSupport .i3c) 5 0 [3, 5, 6, 0x7F] = true ∧ answered (.mctpUnsupportedCmd .i3c 9) 9 5 [] = true ∧
    answered (.setEndpointId .i3c true 0) 1 2 [] = true ∧ answered (.setEndpointId .i3c false 9) 1 0 [0x10, 8, 0] = true ∧
    does (.setEndpointId .i3c true 9) ctl answerFields (fun t => t.dict.i3cEid == 9) = true ∧
    does (.getMctpVersionSupport .i3c 5) ctl answerFields (fun t => (said ctl t).any fun o => match o with
      | .mctp .i3c 4 0 b => b.length == 5 | _ => false) = true := by
  decide +kernel

/-- Premises of Obligations.RecoveryAndLog that can be met together, and what the commands then do. -/
theorem wit_Heartbeats :
    let s := { up with recovery.hbRunning := true, tick := 1000 }
    let w := { s with recovery.hbWritten := true }
    let m := { s with recovery.hbMisses := 2 }
    idle .heartbeatWrite up = true ∧
    does .heartbeatWrite s [.recovery] (fun t => t.recovery == { s.recovery with hbWritten := true }) = true ∧
    idle .heartbeatIntervalEnd up = true ∧
    does .heartbeatIntervalEnd w [.recovery] (fun t => t.recovery ==
      { w.recovery with hbSince := 1000, hbWritten := false, hbMisses := 0 }) = true ∧
    does .heartbeatIntervalEnd s [.recovery, .log, .od] (fun t => t.recovery == { s.recovery with hbSince := 1000, hbMisses := 1 } &&
      setting t 0xB000 9 == 1 && odKept [obj 0xB000 9, obj 0xA020 0xA] s t) = true ∧
    goes (exec .heartbeatIntervalEnd m) (fun t => t.seq.mgmtReset && t.seq.lastMgmtCause == 1 && t.seq.phase == m.seq.phase &&
      !t.recovery.hbRunning && t.domain.sessions == [] && t.dict.i3cQ == [] && t.domain.charter == m.domain.charter &&
      setting t 0xB000 9 == 1 && setting t 0xB000 0xA == 1 &&
      keep [.cfg, .pins, .always, .power, .tap, .fuses, .flash, .fw, .lc, .keys, .tension, .sources, .shuttle, .purl,
            .ports, .tally, .fabric, .plaits, .host, .patterns, .interval, .tick, .pending] m t) = true := by
  decide +kernel

/-- Premises of Obligations.RecoveryAndLog that can be met together, and what the commands then do. -/
theorem wit_ContextResets :
    let s := { up with host.ctxs := [(0, ctx0)], host.queues := [(0, { newQueue with state := 1, producer := 1 })],
                       recovery.hang := [(0, 100000)], od := [(obj 0xA000 1, 5000)] }
    let four := { s with recovery.runs := (List.range 4).map fun k =>
      (k + 8, { cause := 2, queue := 0xFF, event := 0, body := [], escalates := false, destroys := false }) }
    let t2 := fun (row : Instr) => goes (exec row s) fun t => ctxAt t 0 == some { ctx0 with state := 3 } &&
      (tget t.recovery.runs 0).isSome && t.recovery.ticks == [0] && t.recovery.records == [] &&
      keep [.cfg, .pins, .seq, .always, .power, .tap, .fuses, .flash, .fw, .lc, .parts, .sources, .domain, .gang, .dumps,
            .interval, .tick, .pending] s t
    idle (.hangTimerExpiry 0 4) s = true ∧ idle (.hangTimerExpiry 0 0) up = true ∧ hung s 0 0 = true ∧ t2 (.hangTimerExpiry 0 0) = true ∧
    Accepts rq 0xA011 1 (le 2 0) up ∧ contextsOf up.cfg ≤ 5000 ∧ refuses (.contextReset rq 5000) up rq 0xA011 1 abRange = true ∧
    refuses (.contextReset rq 0) up rq 0xA011 1 abState = true ∧
    Accepts rq 0xA011 1 (le 2 0) four ∧ refuses (.contextReset rq 0) four rq 0xA011 1 abBusy = true ∧
    Accepts rq 0xA011 1 (le 2 0) s ∧ Calm s ∧ t2 (.contextReset rq 0) = true := by
  decide +kernel

/-- Premises of Obligations.RecoveryAndLog that can be met together, and what the commands then do. -/
theorem wit_LogAndDumps :
    let q := { up with recovery.quarantined := true }
    let on := { up with od := [(obj 0xA020 1, 1), (obj 0xA020 2, 2), (obj 0xA020 4, 1), (obj 0xA020 6, 3)], log.state := 1 }
    let off := { up with od := [(obj 0xA020 1, 0)] }
    let s := { up with keys.pins := up.keys.pins ++ [(6, pinOf 3 5 2 0x55 1 0)], log.recs := [0] }
    Accepts rq 0xA000 6 (le 2 1) up ∧ refuses (.quarantineConsent rq 1) up rq 0xA000 6 abRange = true ∧
    refuses (.quarantineConsent rq 0x5153) up rq 0xA000 6 abState = true ∧ Accepts rq 0xA000 6 (le 2 0x5153) q ∧
    writes (.quarantineConsent rq 0x5153) q rq 0xA000 6 [.recovery] [] (fun t => t.recovery == { q.recovery with consent := true }) = true ∧
    Accepts rq 0xA020 2 (le 1 1) on ∧ refuses (.logModeWrite rq 1) on rq 0xA020 2 abState = true ∧
    Accepts rq 0xA020 2 (le 1 1) off ∧
    writes (.logModeWrite rq 1) off rq 0xA020 2 [] [obj 0xA020 2] (fun t => setting t 0xA020 2 == 1) = true ∧
    Accepts rq 0xA020 0xB (le 1 1) s ∧ writes (.logClear rq 1) s rq 0xA020 0xB [.log] [] (fun t => t.log.recs == []) = true ∧
    Accepts rq 0xA020 7 (le 1 1) on ∧ writes (.triggerNow rq 1) on rq 0xA020 7 [.log] [obj 0xA020 0xA] (fun t =>
      t.log.state == 3 && t.log.postLeft == 3 && t.log.triggerIndex == t.log.recs.length - 1) = true ∧
    Accepts rq 0xA020 7 (le 1 1) off ∧ writes (.triggerNow rq 1) off rq 0xA020 7 [] [] (fun t => t.log == off.log) = true := by
  decide +kernel

/-- Premises of Obligations.RecoveryAndLog that can be met together, and what the commands then do. -/
theorem wit_LogAndDumps2 :
    let d : BitVec 128 := BitVec.ofNat 128 (77 + 2 ^ 104)
    let s := { up with keys.pins := up.keys.pins ++ [(6, pinOf 3 5 2 0x55 1 0)], log.recs := [0] }
    let z := { up with keys.pins := up.keys.pins ++ [(6, pinOf 3 5 2 0x55 0 0)], log.recs := [0] }
    let e : DumpEnt := { nameHash := 77, step := 0, partition := 0, sealNo := 1, oneShot := false, raw := le 16 d.toNat }
    let full := { s with dumps := (List.range 16).map fun k => (k, e) }
    idle (.logSealedRead rq 0 1) State.reset = true ∧ readGate up rq 0xA021 0 true = 0 ∧ sealPin up 0 = none ∧
    does (.logSealedRead rq 0 1) up answerFields (fun t => told rq 3 0xA021 0 abState [] up t) = true ∧
    sealPin z 0 = some 6 ∧ readGate z rq 0xA021 0 true = 0 ∧ drbgServes z = true ∧ logBlocks z = 1 ∧
    Accepts rq 0xA030 1 (le 16 d.toNat) up ∧ Accepts rq 0xA030 1 (le 16 0) up ∧
    refuses (.dumpArm rq 0) up rq 0xA030 1 abRange = true ∧ refuses (.dumpArm rq d) up rq 0xA030 1 abState = true ∧
    sealPin s 1 = some 6 ∧ Accepts rq 0xA030 1 (le 16 d.toNat) full ∧ refuses (.dumpArm rq d) full rq 0xA030 1 abBusy = true ∧
    Accepts rq 0xA030 1 (le 16 d.toNat) s ∧ writes (.dumpArm rq d) s rq 0xA030 1 [.dumps] [] (fun t =>
      (tget t.dumps 0).map (fun x => (x.nameHash, x.step, x.partition, x.sealNo, x.oneShot)) == some (77, 0, 0, 1, false)) = true ∧
    Accepts rq 0xA030 2 (le 1 3) s ∧ refuses (.dumpDisarm rq 3) s rq 0xA030 2 abState = true ∧
    Accepts rq 0xA030 2 (le 1 3) full ∧ writes (.dumpDisarm rq 3) full rq 0xA030 2 [.dumps] [] (fun t => tget t.dumps 3 == none) = true := by
  decide +kernel

/-! ### Headers, form, single rules -/

/-- Premises of Obligations.HeadersRoundTrip that can be met together, and what the commands then do. -/
theorem wit_Headers :
    (zeroBytes 16).length = 16 ∧ hdrBytes (hdrOf (zeroBytes 16)) = zeroBytes 16 ∧ phdrReserved 0 = true ∧
    thermometer 5 = 3 ∧ State.reset.fuses.lcWord < 2 ^ 64 ∧
    lcGroups (2 ^ 48 - 1) = some 6 ∧ lcGroups 255 = some 1 ∧ lcGroups 0xFF00 = none := by
  decide +kernel

/-- Premises of Obligations.EveryStepKeepsForm that can be met together, and what the commands then do. -/
theorem wit_Form : KeepsForm up ∧ KeepsForm netted := by
  unfold KeepsForm
  decide +kernel

/-! ### Well-formed and ill-formed commands -/

/-- Each check refuses a term that breaks it. -/
theorem test_ill_formed :
    let z : MeshReq := mreq 0 1 1 0 0 0 0 [] []
    let m := fmsg 1 1 0 0 0 0 0 0 0 [] []
    ((([.portClockStop (.mesh 32), .portClockStop (.mem 16), .portClockResume (.link 18), .creditReturn (.mesh 40) 0 1,
      .softReset { rq with sess := some 8 } 0, .odRead { rm with path := .debug } 0,
      .unitAdmit ⟨.mesh 0, .mem 0, 6, none, none, 1, 0, 0, [], none, 0⟩, .unitAdmit ⟨.mesh 0, .mem 0, 1, none, none, 0, 0, 0, [], none, 0⟩,
      .meshPkgRead { z with port := 32 }, .meshPkgWrite { z with vch := 6 }, .meshFabricRead { z with be := [true] },
      .poolRead { m with srcEp := 65536 }, .poolWrite { m with vl := 8 }, .readRsp { m with lines := [⟨[], []⟩] },
      .mctpPacketReceive { src := 256, dst := 0, som := true, eom := true, seq := 0, tag := 0, body := [] },
      .queueConfigWrite rq 7 0, .linkAdminDown rq 18] : List Instr).map wellFormed).all fun x => x == false) = true := by
  decide +kernel

theorem test_ill_formed_more :
    (([.memReadData 0 0 (zeroBytes 63) 0, .memReadTimeout 16 0, .phyUpRise 18, .idleFlitReceive 0 (zeroBytes 255),
      .groupReceive 0 [], .stitchHello 18 [], .vl0MctpMessage 0 65536 0 [], .plUp { (pmsg 1 0x21 0 0 0 0 0 []) with dstEp := 65536 },
      .keyImportQueue 8 [], .endSession 8, .fuseProgram 32 0, .rekey 18 []] : List Instr).all fun c => !wellFormed c) = true ∧
    (([.powerOn, .softReset rq 0x5253, .phyUpRise 17, .groupReceive 0 [zeroBytes 256], .poolRead (fmsg 1 1 0 0 0 0 0 0 0 [] []),
      .meshPkgRead (mreq 0 1 1 0 0 0 0 [] []), .keyImportQueue 7 [], .doorbell 0 0 0] : List Instr).all wellFormed) = true := by
  decide +kernel

/-! ### The spec's worked examples -/

/-- The header of R186's example: flits 0 and 1. -/
theorem test_flit_header :
    let h : Hdr := { hdrOf (zeroBytes 16) with
      ftype := 1, vl := 3, glen := 2, gidx := 0, epar := 1, gseq := 0xA00007, ack := 0x41F2, crdVl := 3, crdCnt := 4,
      dst := 0x120, src := 0x33 }
    hdrBytes h = [0x31, 0x24, 0x07, 0x00, 0xA0, 0xF2, 0x41, 0x00, 0x46, 0x00, 0x12, 0x30, 0x03, 0x00, 0x00, 0x00] ∧
    ofLe (hdrBytes h) = 0x00000003301200460041F2A000072431 ∧ hdrOf (hdrBytes h) = h ∧
    ofLe (slice (hdrBytes { h with gidx := 1, crdVl := 0, crdCnt := 0 }) 0 2) = 0x2C31 ∧
    ofLe (slice (hdrBytes { h with gidx := 1, crdVl := 0, crdCnt := 0 }) 8 8) = 0x0000000330120000 := by
  decide +kernel

/-- The check values of R400, and a CRC that continues one. -/
theorem test_crc :
    let b : Bytes := (List.range 9).map fun k => BitVec.ofNat 8 (0x31 + k)
    purlCrc false none b = 0xE3069283 ∧ purlCrc true none b = 0xAE8B14860A799888 ∧
    purlCrc false (some (purlCrc false none (b.take 4))) (b.drop 4) = 0xE3069283 := by
  decide +kernel

/-- The dictionary messages of the worked example behind R427: CONFIG_NAME of a KZ-256; HOLD_TICKET without a session;
two rows of REGION_TABLE. -/
theorem test_mailbox_example :
    let s := { up with cfg := .kz256 }
    let r : OdReq := { rm with txn := 7 }
    does (.odRead rm 0x000E101000070001) s answerFields (fun t => (said s t).any fun o => match o with
      | .od q 0x81 8 0x1010 0xE 0 _ _ d => q == r && d == [0x4B, 0x5A, 0x2D, 0x32, 0x35, 0x36, 0, 0]
      | _ => false) = true ∧
    does (.odRead rm 0x0001B03000080001) s answerFields (fun t => (said s t).any fun o => match o with
      | .od q 0x81 5 0xB030 1 0x0501 _ _ d => q == { r with txn := 8 } && d == []
      | _ => false) = true ∧
    does (.odTableRead rm 0x0002002A0000310000090003) s answerFields (fun t => (said s t).any fun o => match o with
      | .od q 0x83 _ 0x3100 0 0 2 0x800 d => q == { r with txn := 9 } && d.length == 72 && slice d 0 4 == [0x20, 0, 0, 0]
      | _ => false) = true := by
  decide +kernel

/-- The read three levels deep: path, metadata offsets and counter block (R149, R152, R156). -/
theorem test_tally_example :
    let line := 0xA3C5B7D40 / 64
    line = 0x28F16DF5 ∧ leafOf line = 0x1478B6F ∧ placeOf line = 21 ∧ levelsOf 36 = 9 ∧
    leafOf line / 8 = 0x28F16D ∧ leafOf line / 8 / 8 = 0x51E2D ∧ leafOf line / 8 / 8 / 8 = 0xA3C5 ∧
    nodeAddr 36 0 (leafOf line) = 0x251E2DBC0 ∧ nodeAddr 36 1 0x28F16D = 0x28A3C5B40 ∧ nodeAddr 36 2 0x51E2D = 0x291478B40 ∧
    lineBlock 0 0 line 0x0A7 2 = be 16 0x000000000000000000829C00A3C5B7D4 ∧
    lineBlock 1 0 line 0x0A7 2 = be 16 (2 ^ 127 + 0x000000000000000000829C00A3C5B7D4) := by
  decide +kernel

/-- IVs of the worked examples (R188, R298, R308, R322). -/
theorem test_ivs :
    hopIv 3 1 0x0B 0x100A00007 = [0, 0, 0x03, 0x8B, 0, 0, 0, 1, 0, 0xA0, 0, 7] ∧
    bounceIv 0 0x13 0x230 = [4, 0, 0, 0x13, 0, 0, 0, 0, 0, 0, 2, 0x30] ∧
    queueIv 1 0x4D 0 0x105 = [1, 0, 0, 0x4D, 0, 0, 0, 0, 0, 0, 1, 5] ∧
    patternIv 5 0x13 0x40 = [5, 0, 0, 0x13, 0, 0, 0, 0, 0, 0, 0, 0x40] := by
  decide +kernel

/-- The bounce transfer: its descriptor is sound, and its pieces (R302, R308, R304). -/
theorem test_bounce_example :
    let b : Bytes := [5, 1, 0, 0, 0x10, 1, 0, 0, 0x21, 0x0A, 4, 0, 0x40, 0x1F, 0x0C, 0] ++ zeroBytes 4 ++
      [0, 0, 0x10, 0, 0, 0, 0, 0, 0x10, 0x27, 0, 0, 0x30, 2, 0, 0, 0, 0, 0, 0, 4] ++ zeroBytes 23
    let d := { descOf 0x10 [] with queue := 0x4D, bytes := b }
    let c := chunkedOf 0 d up
    fieldsOk d = true ∧ fComplete d = true ∧ (objHandles d).map (fun h => (hIdx h, hGen h)) = [(0xA21, 1), (0x1F40, 3)] ∧
    kindAt d 0 = 0 ∧ kindAt d 1 = 1 ∧ (List.range 3).map c.len = [4096, 4096, 1808] ∧
    (List.range 3).map c.tagAt = [12288, 12304, 12320] ∧ c.off = 0x100000 ∧ c.iv 2 = bounceIv 0 0x13 0x232 ∧
    slice (completionRecord stDone 0x10 0x4D 0x105 0x104 0x2710 0 0) 0 20 =
      [0, 0x10, 0x13, 4, 5, 1, 0, 0, 4, 1, 0, 0, 0x10, 0x27, 0, 0, 0, 0, 0, 0] := by
  decide +kernel

/-- Bindings and overrides of the pattern example (R319, R329). -/
theorem test_pattern_example :
    let d := descOf 0xA [0x21, 0, 0x42, 0x43, 0]
    bindV 0x8802 = true ∧ bindWide 0x8802 = false ∧ bindOff 0x8802 = 32 ∧ bindingOk 0x8802 = true ∧
    bindWide 0x9903 = true ∧ bindOff 0x9903 = 36 ∧ bindingOk 0x9903 = true ∧ bindOff 0x8A04 = 40 ∧
    (overrides d).map (·.1) = [2, 3] ∧ launchOk d = true := by
  decide +kernel

/-- The partition example (R338), and the window of the discarded store (R10). -/
theorem test_partition_example :
    let b : Bytes := [7, 0, 0xE0, 0, 0x20, 0, 0x80, 3, 0x80, 0, 0x60, 0, 0, 2, 0x20, 0, 0x10, 0, 0, 0x10, 0, 8]
    let p := partOfBytes (slice b 0 96)
    (p.ctxBase, p.ctxCount, p.kidxBase, p.kidxCount, p.rootQuota, p.heldQuota) = (0xE0, 32, 0x380, 128, 96, 512) ∧
    (p.patBase, p.patCount, p.frameBase, p.frameCount) = (0x20, 16, 0x1000, 2048) ∧
    partitionsOf .kz256 = 32 ∧ contextsOf .kz256 = 512 ∧ partitionsOf .kz128 = 16 := by
  decide +kernel

/-- The lock word of the shuttle example (R394, R395). -/
theorem test_shuttle_example :
    let s := { netted with cfg := .kz128, host.ctxs := [(0x41, { ctx0 with partition := 3 })], parts := [(3, part0), (5, part0)],
                           shuttle := { Shuttle.reset with owner := some (5, 0), ticket := 1, leaseLeft := 12000 } }
    does (.shuttleLockRequest 3 0x00004E20004100A5) s [.shuttle] (fun t =>
      tget t.shuttle.waiting 3 == some (0xA5, 0x41, 20000)) = true := by
  decide +kernel

/-- Chunks of the plait example, parts of the dump example (R251, R255, R478). -/
theorem test_sizes_examples :
    let r := { plRec (zeroBytes 320) with up := 2, down := 2, src := 2, dst := 2, count := 134217728 }
    chunkLen r = 448 ∧ chunkCount r = 299594 ∧ chunkN r 0 = 448 ∧ chunkN r 299593 = 64 ∧
    flitsOfLen 928 = 4 ∧ flitsOfLen 160 = 1 ∧ dumpParts 200000 = 4 ∧ dumpBytes 200000 4 = 200320 := by
  decide +kernel

/-- The escalation example (R467): what counts at ticks 11,000,000, 12,000,000 and 12,400,000. -/
theorem test_escalation_example :
    let at_ := fun n => { up with tick := n, od := [(obj 0xA000 3, 10000000)] }
    let ts := [2000000, 3000000, 4500000, 5000000, 6000000, 8000000, 11000000]
    resetsInWindow (at_ 11000000) ts = 7 ∧ resetsInWindow (at_ 12000000) (ts ++ [12000000]) = 7 ∧
    resetsInWindow (at_ 12400000) (ts ++ [12000000, 12400000]) = 8 := by
  decide +kernel

end Sys2Proof.Tests
end

section
/-! PROOFS. The objects of CONFIG_SIZES are read-only (R9): a WRITE message of the dictionary is one write of the object that
its header names, and check 5 of R414 refuses a write to a row that anyone may read and nobody may write. -/

namespace Sys2Proof.Machine

/-! ### A WRITE message is one write (R415) -/

theorem exec_odWrite (q : OdReq) (h : BitVec 128) (d : Bytes) (s : State) :
    exec (.odWrite q h d) s = .next (odMessage q h.toNat d s) := rfl

theorem odMessage_write (q r : OdReq) (h : Nat) (d : Bytes) (s : State)
    (hr : r = { q with txn := BitVec.ofNat 16 (fld h 16 16) }) (up : pathUp s r = true) (valid : headerValid h = true)
    (op : fld h 0 8 = 2) : odMessage q h d s = odWriteAt r (fld h 32 16) (fld h 48 8) d s := by
  subst hr
  simp [odMessage, up, valid, op]

/-- Only PIN_INVALIDATE, KIDX_UNBIND and REGION_RELEASE do more than the write itself. -/
theorem odWriteAt_eq_odWrite (r : OdReq) (i j : Nat) (d : Bytes) (s : State) (pin : i ≠ 0x2002) (kidx : i ≠ 0x2101)
    (region : i ≠ 0x3101) : odWriteAt r i j d s = odWrite r i j d (ownWrite r i j d) s := by
  simp [odWriteAt, pin, kidx, region]

/-! ### Rows that anyone may read and nobody may write -/

/-- A row of class PUB, read-only and not held per session. -/
def ObjRow.PublicReadOnly (row : ObjRow) : Prop := row.cls = 0 ∧ row.dir = 1 ∧ row.mine = false

theorem classCheck_public (s : State) (r : OdReq) (row : ObjRow) (pub : row.PublicReadOnly) : classCheck s r row = 0 := by
  obtain ⟨cls, -, mine⟩ := pub
  simp [classCheck, cls, mine]

/-- Check 5 of R414: a write to such a row is refused, whatever the data and whoever asks. -/
theorem writeGate_publicReadOnly (s : State) (r : OdReq) (i j : Nat) (d : Bytes) (o : ObjIndex) (row : ObjRow)
    (hi : findIndex s i = some o) (hj : findRow s o j = some row) (pub : row.PublicReadOnly) :
    writeGate s r i j d = abReadOnly := by
  have found : odFind s r i j = .ok row := by simp [odFind, hi, hj, classCheck_public s r row pub]
  obtain ⟨-, dir, -⟩ := pub
  simp [writeGate, found, dir]

/-! ### CONFIG_SIZES (R9) -/

/-- The listing of CONFIG_SIZES. -/
def configSizes : ObjIndex := objIndices0[3]

theorem find?_objIndices_configSizes : (objIndices.find? fun o => o.idx == 0x1010) = some configSizes := rfl

/-- In a mode and profile in which an index exists, it is the one listed. -/
theorem findIndex_of_isSome (s : State) (i : Nat) (o : ObjIndex) (listed : (objIndices.find? fun o => o.idx == i) = some o)
    (ex : (findIndex s i).isSome = true) : findIndex s i = some o := by
  unfold findIndex at ex ⊢
  rw [listed] at ex ⊢
  dsimp only at ex ⊢
  by_cases mode : basting s = true
  · rw [if_pos mode] at ex ⊢
    by_cases kept : bastingIndex i = true
    · rw [if_pos kept]
    · rw [if_neg kept] at ex
      exact absurd ex Bool.false_ne_true
  · rw [if_neg mode] at ex ⊢
    by_cases valid : tbit o.profiles (profile s) = true
    · rw [if_pos valid]
    · rw [if_neg valid] at ex
      exact absurd ex Bool.false_ne_true

theorem highestSub_configSizes (s : State) : highestSub s configSizes = some 14 := rfl

theorem configSizes_rows_publicReadOnly : ∀ row ∈ configSizes.rows, row.PublicReadOnly := by
  unfold ObjRow.PublicReadOnly
  decide

/-- The rows of CONFIG_SIZES leave no gap. -/
theorem configSizes_rows_cover : ∀ j ≤ 14, j ≠ 0 →
    (configSizes.rows.find? fun row => row.sub ≤ j && j < row.sub + row.n).isSome = true := by
  decide

/-- Every subindex up to the highest exists: HIGHEST_SUB, or a row of the listing. -/
theorem findRow_configSizes (s : State) (j : Nat) (hj : j ≤ 14) :
    ∃ row, findRow s configSizes j = some row ∧ row.PublicReadOnly := by
  by_cases zero : j = 0
  · exact ⟨highestRow, by simp [findRow, highestSub_configSizes, zero], rfl, rfl, rfl⟩
  · obtain ⟨row, hrow⟩ := Option.isSome_iff_exists.mp (configSizes_rows_cover j hj zero)
    refine ⟨row, ?_, configSizes_rows_publicReadOnly row (List.mem_of_find?_eq_some hrow)⟩
    have idx : configSizes.idx = 0x1010 := rfl
    simp [findRow, highestSub_configSizes, zero, hj, idx, hrow]

theorem writeGate_configSizes (s : State) (r : OdReq) (j : Nat) (d : Bytes) (hj : j ≤ 14)
    (ex : (findIndex s 0x1010).isSome = true) : writeGate s r 0x1010 j d = abReadOnly := by
  obtain ⟨row, hrow, pub⟩ := findRow_configSizes s j hj
  exact writeGate_publicReadOnly s r _ j d _ row (findIndex_of_isSome s _ _ find?_objIndices_configSizes ex) hrow pub

/-- Settles O29: the message is one write, which the gate refuses with READ_ONLY; a write refused by its gate changes
nothing but what every answer changes. -/
theorem configSizesAreReadOnly : Obligations.ConfigSizesAreReadOnly := by
  intro s q h d r sub hr valid op idx hsub le14 ex up
  have gate : writeGate s r 0x1010 sub d = abReadOnly := writeGate_configSizes s r sub d le14 ex
  have run : exec (.odWrite q h d) s = .next (odWrite r 0x1010 sub d (ownWrite r 0x1010 sub d) s) := by
    rw [exec_odWrite, odMessage_write q r h.toNat d s hr up valid op, idx, hsub,
      odWriteAt_eq_odWrite r 0x1010 sub d s (by decide) (by decide) (by decide)]
  have refused := writeRefused_gate run up (by rw [gate]; decide)
  rwa [gate] at refused

end Sys2Proof.Machine
end

section
/-! PROOFS. Thermometer words (R103): the highest blown bit of a word fixes what the word decodes to. -/

namespace Sys2Proof.Machine

/-- The model's bit is the library's. -/
theorem tbit_eq_testBit (w i : Nat) : tbit w i = w.testBit i := by
  rw [Nat.testBit_eq_decide_div_mod_eq]
  rfl

/-- Bit `i` of the word is blown, and none above it. -/
def HighestBlown (w i : Nat) : Prop := tbit w i = true ∧ ∀ j, i < j → tbit w j = false

theorem exists_highestBlown {w : Nat} (blown : w ≠ 0) : ∃ i, HighestBlown w i := by
  refine ⟨w.log2, ?_, fun j hj => ?_⟩
  · rw [tbit_eq_testBit]
    exact Nat.testBit_log2 blown
  · rw [tbit_eq_testBit]
    have small : w < 2 ^ j := (Nat.log2_lt blown).mp hj
    exact Nat.testBit_lt_two_pow small

/-- The highest blown bit places the word between two powers of two. -/
theorem HighestBlown.bounds {w i : Nat} (h : HighestBlown w i) : 2 ^ i ≤ w ∧ w < 2 ^ (i + 1) := by
  obtain ⟨blown, above⟩ := h
  simp only [tbit_eq_testBit] at blown above
  exact ⟨Nat.ge_two_pow_of_testBit blown, Nat.lt_pow_two_of_testBit w above⟩

@[simp] theorem thermometer_zero : thermometer 0 = 0 := rfl

/-- One plus the index of the highest blown bit, whatever lies below it. -/
theorem thermometer_eq_of_highestBlown {w i : Nat} (h : HighestBlown w i) : thermometer w = i + 1 := by
  have blown : w ≠ 0 := Nat.ne_of_gt (Nat.lt_of_lt_of_le (Nat.two_pow_pos i) h.bounds.1)
  have log : w.log2 = i := (Nat.log2_eq_iff blown).mpr h.bounds
  unfold thermometer
  rw [if_neg blown, log]

/-- A word of `n` bits has its highest blown bit among them. -/
theorem HighestBlown.index_lt {w i n : Nat} (h : HighestBlown w i) (hw : w < 2 ^ n) : i < n :=
  (Nat.pow_lt_pow_iff_right Nat.one_lt_two).mp (Nat.lt_of_le_of_lt h.bounds.1 hw)

theorem thermometer_le {w n : Nat} (hw : w < 2 ^ n) : thermometer w ≤ n := by
  by_cases blown : w = 0
  · rw [blown, thermometer_zero]
    exact Nat.zero_le n
  · obtain ⟨i, h⟩ := exists_highestBlown blown
    rw [thermometer_eq_of_highestBlown h]
    exact h.index_lt hw

/-- Settles O28: a word that is not zero has a highest blown bit, and that bit alone decides the value. -/
theorem thermometerWords : Obligations.ThermometerWords := by
  intro w hw
  refine ⟨?zero, ?highest, ?below, thermometer_le hw, ?largest⟩
  case zero =>
    rintro rfl
    exact thermometer_zero
  case highest =>
    intro blown
    obtain ⟨i, h⟩ := exists_highestBlown blown
    exact ⟨i, h.index_lt hw, h.1, h.2, thermometer_eq_of_highestBlown h⟩
  case below =>
    intro v i _ wi vi above
    have highestW : HighestBlown w i := ⟨wi, fun j hj => (above j hj).1⟩
    have highestV : HighestBlown v i := ⟨vi, fun j hj => (above j hj).2⟩
    rw [thermometer_eq_of_highestBlown highestW, thermometer_eq_of_highestBlown highestV]
  case largest => decide

end Sys2Proof.Machine
end
